-- ==== Sys2Proof/Word.lean ====
section
/-!
DEFINITION. Word.lean: the plain bit types of the block.
-/

namespace Sys2Proof

/-- One byte of a payload, of memory or of a flit. -/
abbrev Byte := BitVec 8

/-- One 32-bit word: a register, a header word, a descriptor word. -/
abbrev Word := BitVec 32

/-- A node ID (R218). -/
abbrev NodeId := BitVec 8

/-- A partition key (R24). -/
abbrev PKey := BitVec 16

/-- A 17-bit tag (R57). -/
abbrev Tag := BitVec 17

/-- A 52-bit local virtual address (R126). -/
abbrev VAddr := BitVec 52

end Sys2Proof
end

