-- ==== Sys2Proof/Machine/Bits.lean ====
section
/-!
DEFINITION. Machine/Bits.lean: byte order, bit fields, small list helpers and the CRC-32C of R259.
-/

namespace Sys2Proof.Machine

/-- The number a list of bytes spells, least significant byte first. -/
def leNat : List Byte → Nat
  | [] => 0
  | b :: bs => b.toNat + 256 * leNat bs

/-- The number a list of bytes spells, most significant byte first. -/
def beNat (bs : List Byte) : Nat := leNat bs.reverse

/-- The `n` bytes of a number, least significant byte first. -/
def leBytes : Nat → Nat → List Byte
  | 0, _ => []
  | n + 1, v => BitVec.ofNat 8 v :: leBytes n (v / 256)

/-- The `n` bytes of a number, most significant byte first. -/
def beBytes (n v : Nat) : List Byte := (leBytes n v).reverse

/-- Field `[lo + w - 1 : lo]` of a number. -/
def natField (v lo w : Nat) : Nat := v / 2 ^ lo % 2 ^ w

/-- `n` bytes of a list from offset `off`; short where the list ends. -/
def slice (bs : List Byte) (off n : Nat) : List Byte := (bs.drop off).take n

/-- `n` bytes of a list from offset `off`, read least significant byte first. -/
def sliceNat (bs : List Byte) (off n : Nat) : Nat := leNat (slice bs off n)

/-- A list of bytes cut or filled with zero bytes to `n`. -/
def fit (n : Nat) (bs : List Byte) : List Byte := bs.take n ++ List.replicate (n - bs.length) 0

/-- `n` zero bytes. -/
def zeros (n : Nat) : List Byte := List.replicate n 0

/-- Whether every byte is zero. -/
def allZero (bs : List Byte) : Bool := bs.all (· == 0)

/-- `a` divided by `b`, rounded up. -/
def ceilDiv (a b : Nat) : Nat := (a + b - 1) / b

/-- The number of bits set in a mask. -/
def popcount (w v : Nat) : Nat := ((List.range w).filter fun i => v.testBit i).length

/-- The positions of the bits set in a mask, ascending. -/
def bitsOf (w v : Nat) : List Nat := (List.range w).filter fun i => v.testBit i

/-- The number with its bit `i` set. -/
def setBit (v i : Nat) : Nat := v ||| 2 ^ i

/-- A number's two's-complement value in `w` bits. -/
def signedOf (w v : Nat) : Int := (BitVec.ofNat w v).toInt

/-- The `w`-bit two's-complement code of an integer. -/
def codeOf (w : Nat) (v : Int) : Nat := (BitVec.ofInt w v).toNat

/-- One byte of the CRC-32C shift register (R259), bit 0 first. -/
def crcByte (crc : Word) (b : Byte) : Word :=
  (List.range 8).foldl
    (fun c i =>
      let bit := c.getLsbD 0 ^^ b.getLsbD i
      let c' := c >>> 1
      if bit then c' ^^^ 0x82F63B78#32 else c')
    crc

/-- The CRC-32C of R259: polynomial 0x1EDC6F41 reflected, initial value and final XOR all ones. -/
def crc32c (bs : List Byte) : Word := bs.foldl crcByte 0xFFFFFFFF#32 ^^^ 0xFFFFFFFF#32

/-- Serial-number order of two numbers modulo `2 ^ w`: `a` lies after `b`, by less than half the range. -/
def serialAfter (w : Nat) (a b : Nat) : Bool :=
  let d := (a + 2 ^ w - b % 2 ^ w) % 2 ^ w
  0 < d && d < 2 ^ (w - 1)

/-- The first number below `n` that `used` does not hold. -/
def firstFree (n : Nat) (used : List Nat) : Option Nat := (List.range n).find? fun i => !used.contains i

/-- The least number that a list does not hold, tried from `k` on. -/
def leastFrom (used : List Nat) : Nat → Nat → Nat
  | 0, k => k
  | fuel + 1, k => if used.contains k then leastFrom used fuel (k + 1) else k

/-- The least number that a list does not hold. -/
def leastNotIn (used : List Nat) : Nat := leastFrom used used.length 0

/-- An element put into a list sorted by a key, after those of an equal key. -/
def insertBy {α : Type} (key : α → Nat) (a : α) : List α → List α
  | [] => [a]
  | b :: bs => if key a < key b then a :: b :: bs else b :: insertBy key a bs

/-- A list sorted by a key, stable. -/
def sortBy {α : Type} (key : α → Nat) (l : List α) : List α := l.foldl (fun acc a => insertBy key a acc) []

/-- The least element of a list of numbers. -/
def leastOf : List Nat → Option Nat
  | [] => none
  | a :: as => match leastOf as with
    | none => some a
    | some b => some (min a b)

end Sys2Proof.Machine
end

