-- ==== Sys2Proof/Machine/RegMap.lean ====
section
/-!
DEFINITION. Machine/RegMap.lean: the configuration window's register layouts (R441 to R453), one row per register,
and the address of every register under its manual name.
-/

namespace Sys2Proof.Machine

/-- Access types of a register field (R5). -/
inductive Access where
  | rw | ro | w1c | w1s | wo | rwo
  deriving DecidableEq, Repr

/-- One field of a register: its place, access type, reset value and, for a field with a stated range, the
range that R4 saturates a written value to. -/
structure FieldDesc where
  lo    : Nat
  width : Nat
  acc   : Access
  reset : Nat
  min   : Nat
  max   : Nat
  deriving DecidableEq, Repr

/-- One register (or one array of equal registers): `n1` instances `s1` bytes apart (queues, links, lanes), each
holding `n2` entries `s2` bytes apart, each of `words` 32-bit words. `load` says whether a configuration image
may name it (R444). -/
structure RegDesc where
  base   : Nat
  n1     : Nat
  s1     : Nat
  n2     : Nat
  s2     : Nat
  words  : Nat
  load   : Bool
  fields : List FieldDesc
  deriving DecidableEq, Repr

/-- `GEN_ID` (R445). -/
abbrev Reg.GEN_ID : Nat := 0x0

/-- `GEN_CTL` (R445). -/
abbrev Reg.GEN_CTL : Nat := 0x4

/-- `GEN_STATUS` (R445). -/
abbrev Reg.GEN_STATUS : Nat := 0x8

/-- `GEN_CFG_CTL` (R445). -/
abbrev Reg.GEN_CFG_CTL : Nat := 0x10

/-- `GEN_CFG_STATUS` (R445). -/
abbrev Reg.GEN_CFG_STATUS : Nat := 0x14

/-- `GEN_CFG_BASE` (R445). -/
abbrev Reg.GEN_CFG_BASE : Nat := 0x18

/-- `GEN_CFG_ID` (R445). -/
abbrev Reg.GEN_CFG_ID : Nat := 0x20

/-- `GEN_OP_TMO` (R445). -/
abbrev Reg.GEN_OP_TMO : Nat := 0x24

/-- `GEN_HOLD_TMO` (R445). -/
abbrev Reg.GEN_HOLD_TMO : Nat := 0x28

/-- `GEN_WIN_CTL` (R445). -/
abbrev Reg.GEN_WIN_CTL : Nat := 0x30

/-- `GEN_WIN_COUNT` (R445). -/
abbrev Reg.GEN_WIN_COUNT : Nat := 0x34

/-- `GEN_WIN_FAULT` (R445). -/
abbrev Reg.GEN_WIN_FAULT : Nat := 0x38

/-- `GEN_SPAD_BASE` (R445). -/
abbrev Reg.GEN_SPAD_BASE : Nat := 0x40

/-- `GEN_SPAD_SIZE` (R445). -/
abbrev Reg.GEN_SPAD_SIZE : Nat := 0x48

/-- `GEN_TQ_CTL` (R445). -/
abbrev Reg.GEN_TQ_CTL : Nat := 0x50

/-- `GEN_TQ_STATUS` (R445). -/
abbrev Reg.GEN_TQ_STATUS : Nat := 0x54

/-- `GEN_TQ_BIND` (R445). -/
abbrev Reg.GEN_TQ_BIND : Nat := 0x58

/-- `GEN_TQ_TMPL_BASE` (R445). -/
abbrev Reg.GEN_TQ_TMPL_BASE : Nat := 0x60

/-- `GEN_EXP_CTL` (R445). -/
abbrev Reg.GEN_EXP_CTL : Nat := 0x68

/-- `GEN_EXP_STATUS` (R445). -/
abbrev Reg.GEN_EXP_STATUS : Nat := 0x6C

/-- `GEN_EXP_BASE` (R445). -/
abbrev Reg.GEN_EXP_BASE : Nat := 0x70

/-- `GEN_RX_BADTYPE` (R445). -/
abbrev Reg.GEN_RX_BADTYPE : Nat := 0x80

/-- `GEN_STRAY_DROP` (R445). -/
abbrev Reg.GEN_STRAY_DROP : Nat := 0x84

/-- `GEN_MEM_DROP` (R445). -/
abbrev Reg.GEN_MEM_DROP : Nat := 0x88

/-- `GEN_MEM_WERR_CNT` (R445). -/
abbrev Reg.GEN_MEM_WERR_CNT : Nat := 0x8C

/-- `GEN_HOLD_FULL_CNT` (R445). -/
abbrev Reg.GEN_HOLD_FULL_CNT : Nat := 0x90

/-- `GEN_HOLD_TMO_CNT` (R445). -/
abbrev Reg.GEN_HOLD_TMO_CNT : Nat := 0x94

/-- `GEN_EVT_LOST` (R445). -/
abbrev Reg.GEN_EVT_LOST : Nat := 0x98

/-- `GEN_FERR_EVT0` (R445). -/
abbrev Reg.GEN_FERR_EVT0 (i : Nat) : Nat := 0x100 + 0x20 * i

/-- `GEN_FERR_EVT1` (R445). -/
abbrev Reg.GEN_FERR_EVT1 (i : Nat) : Nat := 0x104 + 0x20 * i

/-- `GEN_FERR_EVT3` (R445). -/
abbrev Reg.GEN_FERR_EVT3 (i : Nat) : Nat := 0x108 + 0x20 * i

/-- `GEN_FERR_TIME` (R445). -/
abbrev Reg.GEN_FERR_TIME (i : Nat) : Nat := 0x10C + 0x20 * i

/-- `GEN_FERR_VALID` (R445). -/
abbrev Reg.GEN_FERR_VALID (i : Nat) : Nat := 0x114 + 0x20 * i

/-- `GEN_FERR_MORE` (R445). -/
abbrev Reg.GEN_FERR_MORE (i : Nat) : Nat := 0x118 + 0x20 * i

/-- `RST_CTL` (R446). -/
abbrev Reg.RST_CTL : Nat := 0x1000

/-- `RST_STATUS` (R446). -/
abbrev Reg.RST_STATUS : Nat := 0x1004

/-- `RST_CAUSE` (R446). -/
abbrev Reg.RST_CAUSE : Nat := 0x1008

/-- `RST_CLK_CTL` (R446). -/
abbrev Reg.RST_CLK_CTL : Nat := 0x100C

/-- `RST_CLK_STATUS` (R446). -/
abbrev Reg.RST_CLK_STATUS : Nat := 0x1010

/-- `RST_MEM_DROP` (R446). -/
abbrev Reg.RST_MEM_DROP : Nat := 0x1014

/-- `RST_TEMP_CORE` (R446). -/
abbrev Reg.RST_TEMP_CORE : Nat := 0x1018

/-- `RST_TX_FUSE` (R446). -/
abbrev Reg.RST_TX_FUSE (i : Nat) : Nat := 0x1020 + 0x4 * i

/-- `RST_TEMP_TILE` (R446). -/
abbrev Reg.RST_TEMP_TILE (i : Nat) : Nat := 0x1040 + 0x4 * i

/-- `RST_VLINK_TILE` (R446). -/
abbrev Reg.RST_VLINK_TILE (i : Nat) : Nat := 0x10A0 + 0x4 * i

/-- `RST_VCORE` (R446). -/
abbrev Reg.RST_VCORE : Nat := 0x10F0

/-- `FAB_NODE_ID` (R447). -/
abbrev Reg.FAB_NODE_ID : Nat := 0x2000

/-- `FAB_DIM_EN` (R447). -/
abbrev Reg.FAB_DIM_EN : Nat := 0x2004

/-- `FAB_CTL` (R447). -/
abbrev Reg.FAB_CTL : Nat := 0x2008

/-- `FAB_STATUS` (R447). -/
abbrev Reg.FAB_STATUS : Nat := 0x200C

/-- `FAB_ROW_MASK` (R447). -/
abbrev Reg.FAB_ROW_MASK : Nat := 0x2010

/-- `FAB_ESC_WAIT` (R447). -/
abbrev Reg.FAB_ESC_WAIT : Nat := 0x2014

/-- `FAB_PRIO_SHARE` (R447). -/
abbrev Reg.FAB_PRIO_SHARE : Nat := 0x2018

/-- `FAB_STALL_TMO` (R447). -/
abbrev Reg.FAB_STALL_TMO : Nat := 0x201C

/-- `FAB_STALL_INFO` (R447). -/
abbrev Reg.FAB_STALL_INFO : Nat := 0x2020

/-- `FAB_INCARN` (R447). -/
abbrev Reg.FAB_INCARN : Nat := 0x2024

/-- `FAB_EPOCH_CTL` (R447). -/
abbrev Reg.FAB_EPOCH_CTL : Nat := 0x2028

/-- `FAB_EPOCH_INJ_A` (R447). -/
abbrev Reg.FAB_EPOCH_INJ_A : Nat := 0x2030

/-- `FAB_EPOCH_INJ_B` (R447). -/
abbrev Reg.FAB_EPOCH_INJ_B : Nat := 0x2038

/-- `FAB_EPOCH_EJ_A` (R447). -/
abbrev Reg.FAB_EPOCH_EJ_A : Nat := 0x2040

/-- `FAB_EPOCH_EJ_B` (R447). -/
abbrev Reg.FAB_EPOCH_EJ_B : Nat := 0x2048

/-- `FAB_NOROUTE_DROP` (R447). -/
abbrev Reg.FAB_NOROUTE_DROP : Nat := 0x2050

/-- `FAB_PKEY_DROP_LOCAL` (R447). -/
abbrev Reg.FAB_PKEY_DROP_LOCAL : Nat := 0x2054

/-- `FAB_PKEY_DROP_INFO` (R447). -/
abbrev Reg.FAB_PKEY_DROP_INFO : Nat := 0x2058

/-- `FAB_PKEY_SEL` (R447). -/
abbrev Reg.FAB_PKEY_SEL : Nat := 0x2060

/-- `FAB_PKEY_LIST` (R447). -/
abbrev Reg.FAB_PKEY_LIST : Nat := 0x2064

/-- `FAB_LPORT_LINK_EXCL` (R447). -/
abbrev Reg.FAB_LPORT_LINK_EXCL : Nat := 0x2068

/-- `FAB_PROBE_CTL` (R447). -/
abbrev Reg.FAB_PROBE_CTL : Nat := 0x2070

/-- `FAB_PROBE_STATUS` (R447). -/
abbrev Reg.FAB_PROBE_STATUS : Nat := 0x2074

/-- `FAB_SUMP_CNT` (R447). -/
abbrev Reg.FAB_SUMP_CNT : Nat := 0x2078

/-- `FAB_SUMP_DST` (R447). -/
abbrev Reg.FAB_SUMP_DST (i : Nat) : Nat := 0x2080 + 0x4 * i

/-- `FAB_PKEY_DROP` (R447). -/
abbrev Reg.FAB_PKEY_DROP (i : Nat) : Nat := 0x20C0 + 0x4 * i

/-- `FAB_LPORT_CTL` (R447). -/
abbrev Reg.FAB_LPORT_CTL (i : Nat) : Nat := 0x2100 + 0x4 * i

/-- `FAB_LPORT_LINKS` (R447). -/
abbrev Reg.FAB_LPORT_LINKS (i : Nat) : Nat := 0x2180 + 0x8 * i

/-- `FAB_LINK_NBR` (R447). -/
abbrev Reg.FAB_LINK_NBR (i : Nat) : Nat := 0x2200 + 0x8 * i

/-- `FAB_LINK_STATUS` (R447). -/
abbrev Reg.FAB_LINK_STATUS (i : Nat) : Nat := 0x2380 + 0x4 * i

/-- `FAB_RT_A` (R447). -/
abbrev Reg.FAB_RT_A (i : Nat) : Nat := 0x2800 + 0x4 * i

/-- `FAB_RT_B` (R447). -/
abbrev Reg.FAB_RT_B (i : Nat) : Nat := 0x2C00 + 0x4 * i

/-- `XLT_INV_CTL` (R448). -/
abbrev Reg.XLT_INV_CTL : Nat := 0x3000

/-- `XLT_INV_STATUS` (R448). -/
abbrev Reg.XLT_INV_STATUS : Nat := 0x3004

/-- `XLT_INV_ADDR` (R448). -/
abbrev Reg.XLT_INV_ADDR : Nat := 0x3008

/-- `XLT_INV_LEN` (R448). -/
abbrev Reg.XLT_INV_LEN : Nat := 0x3010

/-- `XLT_STATUS` (R448). -/
abbrev Reg.XLT_STATUS : Nat := 0x3018

/-- `XLT_FAULT_STATUS` (R448). -/
abbrev Reg.XLT_FAULT_STATUS : Nat := 0x301C

/-- `XLT_FAULT_VA` (R448). -/
abbrev Reg.XLT_FAULT_VA : Nat := 0x3020

/-- `XLT_FAULT_INFO` (R448). -/
abbrev Reg.XLT_FAULT_INFO : Nat := 0x3028

/-- `XLT_BAD_ENTRY_CNT` (R448). -/
abbrev Reg.XLT_BAD_ENTRY_CNT : Nat := 0x3030

/-- `XLT_WALK_ERR_CNT` (R448). -/
abbrev Reg.XLT_WALK_ERR_CNT : Nat := 0x3034

/-- `XLT_FAULT_CNT` (R448). -/
abbrev Reg.XLT_FAULT_CNT : Nat := 0x3038

/-- `XLT_PF_CNT` (R448). -/
abbrev Reg.XLT_PF_CNT : Nat := 0x303C

/-- `XLT_PF_HIT_CNT` (R448). -/
abbrev Reg.XLT_PF_HIT_CNT : Nat := 0x3040

/-- `XLT_DIR_BASE` (R448). -/
abbrev Reg.XLT_DIR_BASE (i : Nat) : Nat := 0x3200 + 0x8 * i

/-- `XLT_WL_CFG` (R448). -/
abbrev Reg.XLT_WL_CFG (i : Nat) : Nat := 0x3400 + 0x8 * i

/-- `IMP_PIPE_RSV` (R449). -/
abbrev Reg.IMP_PIPE_RSV : Nat := 0x4000

/-- `IMP_PIPE_BUSY` (R449). -/
abbrev Reg.IMP_PIPE_BUSY : Nat := 0x4004

/-- `IMP_CHAIN_CTL` (R449). -/
abbrev Reg.IMP_CHAIN_CTL : Nat := 0x4008

/-- `IMP_CHAIN_STATUS` (R449). -/
abbrev Reg.IMP_CHAIN_STATUS : Nat := 0x400C

/-- `IMP_CHAIN_BASE` (R449). -/
abbrev Reg.IMP_CHAIN_BASE : Nat := 0x4010

/-- `IMP_CHAIN_VALID_LO` (R449). -/
abbrev Reg.IMP_CHAIN_VALID_LO : Nat := 0x4018

/-- `IMP_CHAIN_VALID_HI` (R449). -/
abbrev Reg.IMP_CHAIN_VALID_HI : Nat := 0x401C

/-- `IMP_PIPE_FLAGS` (R449). -/
abbrev Reg.IMP_PIPE_FLAGS : Nat := 0x4020

/-- `IMP_EXIT_STATUS` (R449). -/
abbrev Reg.IMP_EXIT_STATUS : Nat := 0x4028

/-- `IMP_EXIT_CNT` (R449). -/
abbrev Reg.IMP_EXIT_CNT : Nat := 0x4030

/-- `IMP_POISON_CNT` (R449). -/
abbrev Reg.IMP_POISON_CNT : Nat := 0x4034

/-- `IMP_PIPE_FLAG_SRC` (R449). -/
abbrev Reg.IMP_PIPE_FLAG_SRC (i : Nat) : Nat := 0x4040 + 0x4 * i

/-- `SEC_PART_CTL` (R449). -/
abbrev Reg.SEC_PART_CTL : Nat := 0x5000

/-- `SEC_PART_STATUS` (R449). -/
abbrev Reg.SEC_PART_STATUS : Nat := 0x5004

/-- `SEC_PART_KEY` (R449). -/
abbrev Reg.SEC_PART_KEY : Nat := 0x5008

/-- `SEC_PKEY_QUAR` (R449). -/
abbrev Reg.SEC_PKEY_QUAR : Nat := 0x500C

/-- `SEC_PART_OWNER` (R449). -/
abbrev Reg.SEC_PART_OWNER (i : Nat) : Nat := 0x5010 + 0x4 * i

/-- `SEC_CMD_CTL` (R449). -/
abbrev Reg.SEC_CMD_CTL : Nat := 0x5040

/-- `SEC_CMD_STATUS` (R449). -/
abbrev Reg.SEC_CMD_STATUS : Nat := 0x5044

/-- `SEC_CMD_BASE` (R449). -/
abbrev Reg.SEC_CMD_BASE : Nat := 0x5048

/-- `SEC_CHAN_SEL` (R449). -/
abbrev Reg.SEC_CHAN_SEL : Nat := 0x5050

/-- `SEC_CHAN_STATE` (R449). -/
abbrev Reg.SEC_CHAN_STATE : Nat := 0x5054

/-- `SEC_SCRUB_CTL` (R449). -/
abbrev Reg.SEC_SCRUB_CTL : Nat := 0x5058

/-- `SEC_SCRUB_STATUS` (R449). -/
abbrev Reg.SEC_SCRUB_STATUS : Nat := 0x505C

/-- `SEC_DBG_STATUS` (R449). -/
abbrev Reg.SEC_DBG_STATUS : Nat := 0x5060

/-- `SEC_AUTH_FAIL_INFO` (R449). -/
abbrev Reg.SEC_AUTH_FAIL_INFO : Nat := 0x5064

/-- `SEC_REPLAY_DROP_CNT` (R449). -/
abbrev Reg.SEC_REPLAY_DROP_CNT : Nat := 0x5070

/-- `SEC_AUTH_FAIL_CNT` (R449). -/
abbrev Reg.SEC_AUTH_FAIL_CNT : Nat := 0x5074

/-- `SEC_SEAL_THROTTLE_CNT` (R449). -/
abbrev Reg.SEC_SEAL_THROTTLE_CNT : Nat := 0x5078

/-- `MGT_SLEEP_CTL` (R450). -/
abbrev Reg.MGT_SLEEP_CTL : Nat := 0x6000

/-- `MGT_MARGIN_CTL` (R450). -/
abbrev Reg.MGT_MARGIN_CTL : Nat := 0x6008

/-- `MGT_STEER_CTL` (R450). -/
abbrev Reg.MGT_STEER_CTL : Nat := 0x600C

/-- `MGT_STEER_STATUS` (R450). -/
abbrev Reg.MGT_STEER_STATUS : Nat := 0x6010

/-- `MGT_CAL_CTL` (R450). -/
abbrev Reg.MGT_CAL_CTL : Nat := 0x6018

/-- `MGT_CAL_STATUS` (R450). -/
abbrev Reg.MGT_CAL_STATUS : Nat := 0x601C

/-- `MGT_CAL_BASE` (R450). -/
abbrev Reg.MGT_CAL_BASE : Nat := 0x6020

/-- `MGT_THERM_CTL` (R450). -/
abbrev Reg.MGT_THERM_CTL : Nat := 0x6028

/-- `MGT_WDT_CTL` (R450). -/
abbrev Reg.MGT_WDT_CTL : Nat := 0x602C

/-- `MGT_EVT_CTL` (R450). -/
abbrev Reg.MGT_EVT_CTL : Nat := 0x6030

/-- `MGT_EVT_STATUS` (R450). -/
abbrev Reg.MGT_EVT_STATUS : Nat := 0x6034

/-- `MGT_EVT_BASE` (R450). -/
abbrev Reg.MGT_EVT_BASE : Nat := 0x6038

/-- `MGT_EVT_PROD` (R450). -/
abbrev Reg.MGT_EVT_PROD : Nat := 0x6040

/-- `MGT_EVT_CONS` (R450). -/
abbrev Reg.MGT_EVT_CONS : Nat := 0x6044

/-- `MGT_EVT_LOST` (R450). -/
abbrev Reg.MGT_EVT_LOST : Nat := 0x6048

/-- `MGT_RELAY_CTL` (R450). -/
abbrev Reg.MGT_RELAY_CTL : Nat := 0x604C

/-- `MGT_FW_CTL` (R450). -/
abbrev Reg.MGT_FW_CTL : Nat := 0x6050

/-- `MGT_FW_STATUS` (R450). -/
abbrev Reg.MGT_FW_STATUS : Nat := 0x6054

/-- `MGT_FW_BASE` (R450). -/
abbrev Reg.MGT_FW_BASE : Nat := 0x6060

/-- `MGT_FW_LEN` (R450). -/
abbrev Reg.MGT_FW_LEN : Nat := 0x6068

/-- `MGT_TIME` (R450). -/
abbrev Reg.MGT_TIME : Nat := 0x6070

/-- `Q_CTL` (R451). -/
abbrev Reg.Q_CTL (i : Nat) : Nat := 0x8000 + 0x200 * i

/-- `Q_STATUS` (R451). -/
abbrev Reg.Q_STATUS (i : Nat) : Nat := 0x8004 + 0x200 * i

/-- `Q_RING_BASE` (R451). -/
abbrev Reg.Q_RING_BASE (i : Nat) : Nat := 0x8008 + 0x200 * i

/-- `Q_RING_SIZE` (R451). -/
abbrev Reg.Q_RING_SIZE (i : Nat) : Nat := 0x8010 + 0x200 * i

/-- `Q_CR_BASE` (R451). -/
abbrev Reg.Q_CR_BASE (i : Nat) : Nat := 0x8018 + 0x200 * i

/-- `Q_CR_SIZE` (R451). -/
abbrev Reg.Q_CR_SIZE (i : Nat) : Nat := 0x8020 + 0x200 * i

/-- `Q_HEAD` (R451). -/
abbrev Reg.Q_HEAD (i : Nat) : Nat := 0x8024 + 0x200 * i

/-- `Q_CR_TAIL` (R451). -/
abbrev Reg.Q_CR_TAIL (i : Nat) : Nat := 0x8028 + 0x200 * i

/-- `Q_ARR_LOST_CNT` (R451). -/
abbrev Reg.Q_ARR_LOST_CNT (i : Nat) : Nat := 0x802C + 0x200 * i

/-- `LNK_CTL` (R452). -/
abbrev Reg.LNK_CTL (i : Nat) : Nat := 0x40000 + 0x1000 * i

/-- `LNK_STATUS` (R452). -/
abbrev Reg.LNK_STATUS (i : Nat) : Nat := 0x40004 + 0x1000 * i

/-- `LNK_SLEEP_CFG` (R452). -/
abbrev Reg.LNK_SLEEP_CFG (i : Nat) : Nat := 0x40008 + 0x1000 * i

/-- `LNK_ACK_TMO` (R452). -/
abbrev Reg.LNK_ACK_TMO (i : Nat) : Nat := 0x4000C + 0x1000 * i

/-- `LNK_CREDIT_TMO` (R452). -/
abbrev Reg.LNK_CREDIT_TMO (i : Nat) : Nat := 0x40010 + 0x1000 * i

/-- `LNK_PRIME_STATUS` (R452). -/
abbrev Reg.LNK_PRIME_STATUS (i : Nat) : Nat := 0x40014 + 0x1000 * i

/-- `LNK_SKEW` (R452). -/
abbrev Reg.LNK_SKEW (i : Nat) : Nat := 0x40018 + 0x1000 * i

/-- `LNK_FEC_CW` (R452). -/
abbrev Reg.LNK_FEC_CW (i : Nat) : Nat := 0x40020 + 0x1000 * i

/-- `LNK_FEC_CORR_CW` (R452). -/
abbrev Reg.LNK_FEC_CORR_CW (i : Nat) : Nat := 0x40028 + 0x1000 * i

/-- `LNK_FEC_CORR_SYM` (R452). -/
abbrev Reg.LNK_FEC_CORR_SYM (i : Nat) : Nat := 0x40030 + 0x1000 * i

/-- `LNK_FEC_UNCORR_CW` (R452). -/
abbrev Reg.LNK_FEC_UNCORR_CW (i : Nat) : Nat := 0x40038 + 0x1000 * i

/-- `LNK_REPLAY_CNT` (R452). -/
abbrev Reg.LNK_REPLAY_CNT (i : Nat) : Nat := 0x40040 + 0x1000 * i

/-- `LNK_RETRAIN_CNT` (R452). -/
abbrev Reg.LNK_RETRAIN_CNT (i : Nat) : Nat := 0x40044 + 0x1000 * i

/-- `LNK_RECOV_RESTART_CNT` (R452). -/
abbrev Reg.LNK_RECOV_RESTART_CNT (i : Nat) : Nat := 0x40048 + 0x1000 * i

/-- `LNK_AUDIT_ERR_CNT` (R452). -/
abbrev Reg.LNK_AUDIT_ERR_CNT (i : Nat) : Nat := 0x4004C + 0x1000 * i

/-- `LNK_CREDIT_STALL_CNT` (R452). -/
abbrev Reg.LNK_CREDIT_STALL_CNT (i : Nat) : Nat := 0x40050 + 0x1000 * i

/-- `LNK_SUMP_CNT` (R452). -/
abbrev Reg.LNK_SUMP_CNT (i : Nat) : Nat := 0x40054 + 0x1000 * i

/-- `LNK_ABORT_CNT` (R452). -/
abbrev Reg.LNK_ABORT_CNT (i : Nat) : Nat := 0x40058 + 0x1000 * i

/-- `LNK_PRIME_FAIL_CNT` (R452). -/
abbrev Reg.LNK_PRIME_FAIL_CNT (i : Nat) : Nat := 0x4005C + 0x1000 * i

/-- `LNK_DUTY_CTL` (R452). -/
abbrev Reg.LNK_DUTY_CTL (i : Nat) : Nat := 0x40060 + 0x1000 * i

/-- `LNK_FEC_HIST` (R452). -/
abbrev Reg.LNK_FEC_HIST (i j : Nat) : Nat := 0x40080 + 0x1000 * i + 0x4 * j

/-- `LANE_CTL` (R453). -/
abbrev Reg.LANE_CTL (i : Nat) : Nat := 0x80000 + 0x200 * i

/-- `LANE_STATUS` (R453). -/
abbrev Reg.LANE_STATUS (i : Nat) : Nat := 0x80004 + 0x200 * i

/-- `LANE_TX_FIR` (R453). -/
abbrev Reg.LANE_TX_FIR (i : Nat) : Nat := 0x80008 + 0x200 * i

/-- `LANE_LOS_CFG` (R453). -/
abbrev Reg.LANE_LOS_CFG (i : Nat) : Nat := 0x80010 + 0x200 * i

/-- `LANE_SQ_CTL` (R453). -/
abbrev Reg.LANE_SQ_CTL (i : Nat) : Nat := 0x80014 + 0x200 * i

/-- `LANE_PRBS_CTL` (R453). -/
abbrev Reg.LANE_PRBS_CTL (i : Nat) : Nat := 0x80018 + 0x200 * i

/-- `LANE_PRBS_STATUS` (R453). -/
abbrev Reg.LANE_PRBS_STATUS (i : Nat) : Nat := 0x8001C + 0x200 * i

/-- `LANE_PRBS_BITS` (R453). -/
abbrev Reg.LANE_PRBS_BITS (i : Nat) : Nat := 0x80020 + 0x200 * i

/-- `LANE_PRBS_ERR` (R453). -/
abbrev Reg.LANE_PRBS_ERR (i : Nat) : Nat := 0x80028 + 0x200 * i

/-- `LANE_PRBS_RELOCK` (R453). -/
abbrev Reg.LANE_PRBS_RELOCK (i : Nat) : Nat := 0x80030 + 0x200 * i

/-- `LANE_TEST` (R453). -/
abbrev Reg.LANE_TEST (i : Nat) : Nat := 0x80034 + 0x200 * i

/-- `LANE_TEST_STATUS` (R453). -/
abbrev Reg.LANE_TEST_STATUS (i : Nat) : Nat := 0x80038 + 0x200 * i

/-- `LANE_CAL_STATUS` (R453). -/
abbrev Reg.LANE_CAL_STATUS (i : Nat) : Nat := 0x8003C + 0x200 * i

/-- `LANE_MARGIN` (R453). -/
abbrev Reg.LANE_MARGIN (i : Nat) : Nat := 0x80040 + 0x200 * i

/-- The `GEN_` registers, in the order of the manual's table. -/
def regsGEN : List RegDesc := [
  ⟨0x0, 1, 0x100000, 1, 0x1000, 1, false, [⟨16, 16, .ro, 19254, 0, 65535⟩, ⟨0, 8, .ro, 176, 0, 255⟩]⟩,
  ⟨0x4, 1, 0x100000, 1, 0x1000, 1, false, [⟨0, 1, .rw, 0, 0, 1⟩]⟩,
  ⟨0x8, 1, 0x100000, 1, 0x1000, 1, false, [⟨0, 1, .w1c, 0, 0, 1⟩, ⟨1, 1, .w1c, 0, 0, 1⟩, ⟨2, 1, .w1c, 0, 0, 1⟩, ⟨3, 1, .ro, 1, 0, 1⟩, ⟨4, 1, .ro, 1, 0, 1⟩, ⟨5, 1, .ro, 0, 0, 1⟩]⟩,
  ⟨0x10, 1, 0x100000, 1, 0x1000, 1, false, [⟨0, 2, .wo, 0, 0, 3⟩]⟩,
  ⟨0x14, 1, 0x100000, 1, 0x1000, 1, false, [⟨0, 2, .ro, 0, 0, 3⟩, ⟨4, 4, .ro, 0, 0, 15⟩, ⟨16, 14, .ro, 0, 0, 16383⟩]⟩,
  ⟨0x18, 1, 0x100000, 1, 0x1000, 2, false, [⟨6, 42, .rw, 0, 0, 4398046511103⟩]⟩,
  ⟨0x20, 1, 0x100000, 1, 0x1000, 1, false, [⟨0, 32, .ro, 0, 0, 4294967295⟩]⟩,
  ⟨0x24, 1, 0x100000, 1, 0x1000, 1, true, [⟨0, 26, .rw, 100000, 1000, 60000000⟩]⟩,
  ⟨0x28, 1, 0x100000, 1, 0x1000, 1, true, [⟨0, 24, .rw, 10000, 100, 10000000⟩]⟩,
  ⟨0x30, 1, 0x100000, 1, 0x1000, 1, true, [⟨0, 12, .rw, 0, 0, 4095⟩, ⟨31, 1, .wo, 0, 0, 1⟩]⟩,
  ⟨0x34, 1, 0x100000, 1, 0x1000, 1, false, [⟨0, 32, .ro, 0, 0, 4294967295⟩]⟩,
  ⟨0x38, 1, 0x100000, 1, 0x1000, 1, false, [⟨0, 12, .ro, 0, 0, 4095⟩, ⟨16, 8, .ro, 0, 0, 255⟩, ⟨31, 1, .w1c, 0, 0, 1⟩]⟩,
  ⟨0x40, 1, 0x100000, 1, 0x1000, 2, true, [⟨12, 36, .rwo, 0, 0, 68719476735⟩]⟩,
  ⟨0x48, 1, 0x100000, 1, 0x1000, 2, true, [⟨12, 36, .rwo, 0, 0, 68719476735⟩]⟩,
  ⟨0x50, 1, 0x100000, 1, 0x1000, 1, true, [⟨0, 8, .rw, 0, 0, 255⟩, ⟨8, 3, .rw, 0, 0, 7⟩, ⟨12, 6, .rw, 0, 0, 63⟩, ⟨18, 7, .rw, 0, 0, 127⟩, ⟨31, 1, .wo, 0, 0, 1⟩]⟩,
  ⟨0x54, 1, 0x100000, 1, 0x1000, 1, false, [⟨0, 1, .w1c, 0, 0, 1⟩, ⟨1, 1, .ro, 0, 0, 1⟩, ⟨2, 1, .w1c, 0, 0, 1⟩]⟩,
  ⟨0x58, 1, 0x100000, 1, 0x1000, 2, true, [⟨0, 8, .rw, 0, 0, 255⟩, ⟨8, 8, .rw, 0, 0, 255⟩, ⟨16, 8, .rw, 0, 0, 255⟩, ⟨24, 8, .rw, 0, 0, 255⟩, ⟨32, 8, .rw, 0, 0, 255⟩, ⟨40, 8, .rw, 0, 0, 255⟩, ⟨48, 8, .rw, 0, 0, 255⟩, ⟨56, 8, .rw, 0, 0, 255⟩]⟩,
  ⟨0x60, 1, 0x100000, 1, 0x1000, 2, true, [⟨6, 42, .rw, 0, 0, 4398046511103⟩]⟩,
  ⟨0x68, 1, 0x100000, 1, 0x1000, 1, true, [⟨0, 10, .rw, 0, 0, 1023⟩, ⟨10, 11, .rw, 0, 0, 2047⟩, ⟨31, 1, .wo, 0, 0, 1⟩]⟩,
  ⟨0x6C, 1, 0x100000, 1, 0x1000, 1, false, [⟨0, 1, .ro, 0, 0, 1⟩, ⟨1, 1, .w1c, 0, 0, 1⟩, ⟨2, 1, .w1c, 0, 0, 1⟩, ⟨3, 1, .w1c, 0, 0, 1⟩]⟩,
  ⟨0x70, 1, 0x100000, 1, 0x1000, 2, true, [⟨3, 45, .rw, 0, 0, 35184372088831⟩]⟩,
  ⟨0x80, 1, 0x100000, 1, 0x1000, 1, false, [⟨0, 32, .ro, 0, 0, 4294967295⟩]⟩,
  ⟨0x84, 1, 0x100000, 1, 0x1000, 1, false, [⟨0, 32, .ro, 0, 0, 4294967295⟩]⟩,
  ⟨0x88, 1, 0x100000, 1, 0x1000, 1, false, [⟨0, 32, .ro, 0, 0, 4294967295⟩]⟩,
  ⟨0x8C, 1, 0x100000, 1, 0x1000, 1, false, [⟨0, 32, .ro, 0, 0, 4294967295⟩]⟩,
  ⟨0x90, 1, 0x100000, 1, 0x1000, 1, false, [⟨0, 32, .ro, 0, 0, 4294967295⟩]⟩,
  ⟨0x94, 1, 0x100000, 1, 0x1000, 1, false, [⟨0, 32, .ro, 0, 0, 4294967295⟩]⟩,
  ⟨0x98, 1, 0x100000, 1, 0x1000, 1, false, [⟨0, 32, .ro, 0, 0, 4294967295⟩]⟩,
  ⟨0x100, 1, 0x100000, 4, 0x20, 1, false, [⟨0, 32, .ro, 0, 0, 4294967295⟩]⟩,
  ⟨0x104, 1, 0x100000, 4, 0x20, 1, false, [⟨0, 32, .ro, 0, 0, 4294967295⟩]⟩,
  ⟨0x108, 1, 0x100000, 4, 0x20, 1, false, [⟨0, 32, .ro, 0, 0, 4294967295⟩]⟩,
  ⟨0x10C, 1, 0x100000, 4, 0x20, 2, false, [⟨0, 64, .ro, 0, 0, 18446744073709551615⟩]⟩,
  ⟨0x114, 1, 0x100000, 4, 0x20, 1, false, [⟨0, 1, .w1c, 0, 0, 1⟩]⟩,
  ⟨0x118, 1, 0x100000, 4, 0x20, 1, false, [⟨0, 32, .ro, 0, 0, 4294967295⟩]⟩]

/-- The `RST_` registers, in the order of the manual's table. -/
def regsRST : List RegDesc := [
  ⟨0x1000, 1, 0x100000, 1, 0x1000, 1, false, [⟨0, 1, .wo, 0, 0, 1⟩, ⟨1, 1, .wo, 0, 0, 1⟩]⟩,
  ⟨0x1004, 1, 0x100000, 1, 0x1000, 1, false, [⟨0, 1, .ro, 0, 0, 1⟩, ⟨1, 1, .ro, 0, 0, 1⟩, ⟨2, 1, .w1c, 0, 0, 1⟩, ⟨3, 1, .w1c, 0, 0, 1⟩, ⟨4, 1, .w1c, 0, 0, 1⟩, ⟨5, 1, .ro, 0, 0, 1⟩]⟩,
  ⟨0x1008, 1, 0x100000, 1, 0x1000, 1, false, [⟨0, 2, .ro, 0, 0, 3⟩]⟩,
  ⟨0x100C, 1, 0x100000, 1, 0x1000, 1, false, [⟨0, 12, .rw, 1200, 0, 4095⟩]⟩,
  ⟨0x1010, 1, 0x100000, 1, 0x1000, 1, false, [⟨0, 12, .ro, 1200, 0, 4095⟩, ⟨16, 1, .ro, 1, 0, 1⟩]⟩,
  ⟨0x1014, 1, 0x100000, 1, 0x1000, 1, false, [⟨0, 32, .ro, 0, 0, 4294967295⟩]⟩,
  ⟨0x1018, 1, 0x100000, 1, 0x1000, 1, false, [⟨0, 16, .ro, 0, 0, 65535⟩]⟩,
  ⟨0x1020, 1, 0x100000, 3, 0x4, 1, false, [⟨0, 32, .ro, 0, 0, 4294967295⟩]⟩,
  ⟨0x1040, 1, 0x100000, 18, 0x4, 1, false, [⟨0, 16, .ro, 0, 0, 65535⟩, ⟨16, 16, .ro, 0, 0, 65535⟩]⟩,
  ⟨0x10A0, 1, 0x100000, 18, 0x4, 1, false, [⟨0, 16, .ro, 0, 0, 65535⟩, ⟨16, 16, .ro, 0, 0, 65535⟩]⟩,
  ⟨0x10F0, 1, 0x100000, 1, 0x1000, 2, false, [⟨0, 64, .ro, 0, 0, 18446744073709551615⟩]⟩]

/-- The `FAB_` registers, in the order of the manual's table. -/
def regsFAB : List RegDesc := [
  ⟨0x2000, 1, 0x100000, 1, 0x1000, 1, true, [⟨0, 8, .rw, 0, 0, 255⟩]⟩,
  ⟨0x2004, 1, 0x100000, 1, 0x1000, 1, true, [⟨0, 8, .rw, 255, 0, 255⟩]⟩,
  ⟨0x2008, 1, 0x100000, 1, 0x1000, 1, true, [⟨0, 1, .rw, 0, 0, 1⟩, ⟨1, 1, .rw, 0, 0, 1⟩, ⟨2, 1, .rw, 1, 0, 1⟩]⟩,
  ⟨0x200C, 1, 0x100000, 1, 0x1000, 1, false, [⟨0, 1, .w1c, 0, 0, 1⟩]⟩,
  ⟨0x2010, 1, 0x100000, 1, 0x1000, 1, true, [⟨0, 8, .rw, 15, 0, 255⟩]⟩,
  ⟨0x2014, 1, 0x100000, 1, 0x1000, 1, true, [⟨0, 12, .rw, 64, 0, 4095⟩]⟩,
  ⟨0x2018, 1, 0x100000, 1, 0x1000, 1, true, [⟨0, 3, .rw, 3, 0, 7⟩]⟩,
  ⟨0x201C, 1, 0x100000, 1, 0x1000, 1, true, [⟨0, 20, .rw, 1000, 10, 1000000⟩]⟩,
  ⟨0x2020, 1, 0x100000, 1, 0x1000, 1, false, [⟨0, 4, .ro, 0, 0, 15⟩, ⟨8, 3, .ro, 0, 0, 7⟩, ⟨31, 1, .w1c, 0, 0, 1⟩]⟩,
  ⟨0x2024, 1, 0x100000, 1, 0x1000, 1, false, [⟨0, 16, .ro, 0, 0, 65535⟩]⟩,
  ⟨0x2028, 1, 0x100000, 1, 0x1000, 1, true, [⟨0, 1, .rw, 0, 0, 1⟩, ⟨8, 1, .wo, 0, 0, 1⟩, ⟨9, 1, .wo, 0, 0, 1⟩]⟩,
  ⟨0x2030, 1, 0x100000, 1, 0x1000, 2, false, [⟨0, 48, .ro, 0, 0, 281474976710655⟩]⟩,
  ⟨0x2038, 1, 0x100000, 1, 0x1000, 2, false, [⟨0, 48, .ro, 0, 0, 281474976710655⟩]⟩,
  ⟨0x2040, 1, 0x100000, 1, 0x1000, 2, false, [⟨0, 48, .ro, 0, 0, 281474976710655⟩]⟩,
  ⟨0x2048, 1, 0x100000, 1, 0x1000, 2, false, [⟨0, 48, .ro, 0, 0, 281474976710655⟩]⟩,
  ⟨0x2050, 1, 0x100000, 1, 0x1000, 1, false, [⟨0, 32, .ro, 0, 0, 4294967295⟩]⟩,
  ⟨0x2054, 1, 0x100000, 1, 0x1000, 1, false, [⟨0, 32, .ro, 0, 0, 4294967295⟩]⟩,
  ⟨0x2058, 1, 0x100000, 1, 0x1000, 2, false, [⟨0, 1, .w1c, 0, 0, 1⟩, ⟨1, 4, .ro, 0, 0, 15⟩, ⟨5, 2, .ro, 0, 0, 3⟩, ⟨8, 6, .ro, 0, 0, 63⟩, ⟨16, 16, .ro, 0, 0, 65535⟩, ⟨32, 8, .ro, 0, 0, 255⟩, ⟨40, 8, .ro, 0, 0, 255⟩]⟩,
  ⟨0x2060, 1, 0x100000, 1, 0x1000, 1, true, [⟨0, 4, .rw, 0, 0, 15⟩, ⟨8, 6, .rw, 0, 0, 63⟩]⟩,
  ⟨0x2064, 1, 0x100000, 1, 0x1000, 1, true, [⟨0, 16, .rw, 0, 0, 65535⟩, ⟨31, 1, .rw, 0, 0, 1⟩]⟩,
  ⟨0x2068, 1, 0x100000, 1, 0x1000, 2, true, [⟨0, 36, .rw, 0, 0, 68719476735⟩]⟩,
  ⟨0x2070, 1, 0x100000, 1, 0x1000, 1, true, [⟨0, 6, .rw, 0, 0, 63⟩, ⟨31, 1, .wo, 0, 0, 1⟩]⟩,
  ⟨0x2074, 1, 0x100000, 1, 0x1000, 1, false, [⟨0, 24, .ro, 0, 0, 16777215⟩, ⟨24, 6, .ro, 0, 0, 63⟩, ⟨30, 1, .w1c, 0, 0, 1⟩, ⟨31, 1, .w1c, 0, 0, 1⟩]⟩,
  ⟨0x2078, 1, 0x100000, 1, 0x1000, 1, false, [⟨0, 32, .ro, 0, 0, 4294967295⟩]⟩,
  ⟨0x2080, 1, 0x100000, 8, 0x4, 1, true, [⟨0, 32, .rw, 0, 0, 4294967295⟩]⟩,
  ⟨0x20C0, 1, 0x100000, 16, 0x4, 1, false, [⟨0, 32, .ro, 0, 0, 4294967295⟩]⟩,
  ⟨0x2100, 1, 0x100000, 16, 0x4, 1, true, [⟨0, 2, .rw, 0, 0, 2⟩, ⟨4, 3, .rw, 0, 0, 7⟩, ⟨8, 1, .rw, 0, 0, 1⟩]⟩,
  ⟨0x2180, 1, 0x100000, 16, 0x8, 2, true, [⟨0, 36, .rw, 0, 0, 68719476735⟩]⟩,
  ⟨0x2200, 1, 0x100000, 36, 0x8, 2, false, [⟨0, 64, .ro, 0, 0, 18446744073709551615⟩]⟩,
  ⟨0x2380, 1, 0x100000, 36, 0x4, 1, false, [⟨0, 2, .ro, 0, 0, 3⟩]⟩,
  ⟨0x2800, 1, 0x100000, 256, 0x4, 1, true, [⟨31, 1, .rw, 0, 0, 1⟩, ⟨16, 4, .rw, 0, 0, 15⟩, ⟨0, 16, .rw, 0, 0, 65535⟩]⟩,
  ⟨0x2C00, 1, 0x100000, 256, 0x4, 1, true, [⟨31, 1, .rw, 0, 0, 1⟩, ⟨16, 4, .rw, 0, 0, 15⟩, ⟨0, 16, .rw, 0, 0, 65535⟩]⟩]

/-- The `XLT_` registers, in the order of the manual's table. -/
def regsXLT : List RegDesc := [
  ⟨0x3000, 1, 0x100000, 1, 0x1000, 1, true, [⟨0, 4, .wo, 0, 0, 15⟩, ⟨8, 6, .wo, 0, 0, 63⟩]⟩,
  ⟨0x3004, 1, 0x100000, 1, 0x1000, 1, false, [⟨0, 1, .ro, 0, 0, 1⟩, ⟨1, 1, .w1c, 0, 0, 1⟩, ⟨2, 1, .w1c, 0, 0, 1⟩]⟩,
  ⟨0x3008, 1, 0x100000, 1, 0x1000, 2, true, [⟨12, 40, .rw, 0, 0, 1099511627775⟩]⟩,
  ⟨0x3010, 1, 0x100000, 1, 0x1000, 2, true, [⟨12, 35, .rw, 0, 0, 34359738367⟩]⟩,
  ⟨0x3018, 1, 0x100000, 1, 0x1000, 1, false, [⟨0, 1, .w1c, 0, 0, 1⟩]⟩,
  ⟨0x301C, 1, 0x100000, 1, 0x1000, 1, false, [⟨0, 1, .w1c, 0, 0, 1⟩]⟩,
  ⟨0x3020, 1, 0x100000, 1, 0x1000, 2, false, [⟨0, 52, .ro, 0, 0, 4503599627370495⟩]⟩,
  ⟨0x3028, 1, 0x100000, 1, 0x1000, 1, false, [⟨0, 6, .ro, 0, 0, 63⟩, ⟨7, 1, .ro, 0, 0, 1⟩, ⟨8, 8, .ro, 0, 0, 255⟩, ⟨16, 8, .ro, 0, 0, 255⟩]⟩,
  ⟨0x3030, 1, 0x100000, 1, 0x1000, 1, false, [⟨0, 32, .ro, 0, 0, 4294967295⟩]⟩,
  ⟨0x3034, 1, 0x100000, 1, 0x1000, 1, false, [⟨0, 32, .ro, 0, 0, 4294967295⟩]⟩,
  ⟨0x3038, 1, 0x100000, 1, 0x1000, 1, false, [⟨0, 32, .ro, 0, 0, 4294967295⟩]⟩,
  ⟨0x303C, 1, 0x100000, 1, 0x1000, 1, false, [⟨0, 32, .ro, 0, 0, 4294967295⟩]⟩,
  ⟨0x3040, 1, 0x100000, 1, 0x1000, 1, false, [⟨0, 32, .ro, 0, 0, 4294967295⟩]⟩,
  ⟨0x3200, 1, 0x100000, 64, 0x8, 2, true, [⟨0, 1, .rw, 0, 0, 1⟩, ⟨16, 32, .rw, 0, 0, 4294967295⟩]⟩,
  ⟨0x3400, 1, 0x100000, 64, 0x8, 2, true, [⟨0, 1, .rw, 0, 0, 1⟩, ⟨4, 4, .rw, 4, 0, 8⟩, ⟨32, 32, .rw, 256, 0, 4294967295⟩]⟩]

/-- The `IMP_` registers, in the order of the manual's table. -/
def regsIMP : List RegDesc := [
  ⟨0x4000, 1, 0x100000, 1, 0x1000, 1, true, [⟨0, 4, .rw, 2, 0, 8⟩]⟩,
  ⟨0x4004, 1, 0x100000, 1, 0x1000, 1, false, [⟨0, 8, .ro, 0, 0, 255⟩]⟩,
  ⟨0x4008, 1, 0x100000, 1, 0x1000, 1, true, [⟨0, 2, .wo, 0, 0, 3⟩, ⟨8, 6, .rw, 0, 0, 63⟩, ⟨16, 7, .rw, 0, 0, 127⟩]⟩,
  ⟨0x400C, 1, 0x100000, 1, 0x1000, 1, false, [⟨0, 1, .ro, 0, 0, 1⟩, ⟨1, 1, .w1c, 0, 0, 1⟩, ⟨2, 1, .w1c, 0, 0, 1⟩, ⟨3, 1, .w1c, 0, 0, 1⟩, ⟨8, 6, .ro, 0, 0, 63⟩, ⟨16, 4, .ro, 0, 0, 15⟩]⟩,
  ⟨0x4010, 1, 0x100000, 1, 0x1000, 2, true, [⟨8, 40, .rw, 0, 0, 1099511627775⟩]⟩,
  ⟨0x4018, 1, 0x100000, 1, 0x1000, 1, false, [⟨0, 32, .ro, 0, 0, 4294967295⟩]⟩,
  ⟨0x401C, 1, 0x100000, 1, 0x1000, 1, false, [⟨0, 32, .ro, 0, 0, 4294967295⟩]⟩,
  ⟨0x4020, 1, 0x100000, 1, 0x1000, 1, false, [⟨0, 32, .w1c, 0, 0, 4294967295⟩]⟩,
  ⟨0x4028, 1, 0x100000, 1, 0x1000, 2, false, [⟨0, 1, .w1c, 0, 0, 1⟩, ⟨1, 3, .ro, 0, 0, 7⟩, ⟨8, 8, .ro, 0, 0, 255⟩, ⟨16, 16, .ro, 0, 0, 65535⟩, ⟨32, 32, .ro, 0, 0, 4294967295⟩]⟩,
  ⟨0x4030, 1, 0x100000, 1, 0x1000, 1, false, [⟨0, 32, .ro, 0, 0, 4294967295⟩]⟩,
  ⟨0x4034, 1, 0x100000, 1, 0x1000, 1, false, [⟨0, 32, .ro, 0, 0, 4294967295⟩]⟩,
  ⟨0x4040, 1, 0x100000, 8, 0x4, 1, false, [⟨0, 8, .ro, 0, 0, 255⟩, ⟨16, 16, .ro, 0, 0, 65535⟩]⟩]

/-- The `SEC_` registers, in the order of the manual's table. -/
def regsSEC : List RegDesc := [
  ⟨0x5000, 1, 0x100000, 1, 0x1000, 1, false, [⟨0, 6, .rw, 0, 0, 63⟩, ⟨8, 2, .wo, 0, 0, 3⟩]⟩,
  ⟨0x5004, 1, 0x100000, 1, 0x1000, 1, false, [⟨0, 2, .ro, 0, 0, 3⟩, ⟨4, 1, .ro, 0, 0, 1⟩, ⟨5, 1, .w1c, 0, 0, 1⟩, ⟨6, 1, .w1c, 0, 0, 1⟩, ⟨7, 1, .w1c, 0, 0, 1⟩]⟩,
  ⟨0x5008, 1, 0x100000, 1, 0x1000, 1, false, [⟨0, 16, .rw, 0, 0, 65535⟩]⟩,
  ⟨0x500C, 1, 0x100000, 1, 0x1000, 1, true, [⟨0, 16, .rw, 200, 0, 60000⟩]⟩,
  ⟨0x5010, 1, 0x100000, 12, 0x4, 1, false, [⟨0, 32, .rw, 0, 0, 4294967295⟩]⟩,
  ⟨0x5040, 1, 0x100000, 1, 0x1000, 1, false, [⟨0, 1, .wo, 0, 0, 1⟩]⟩,
  ⟨0x5044, 1, 0x100000, 1, 0x1000, 1, false, [⟨0, 1, .ro, 0, 0, 1⟩, ⟨1, 1, .w1c, 0, 0, 1⟩, ⟨2, 1, .w1c, 0, 0, 1⟩]⟩,
  ⟨0x5048, 1, 0x100000, 1, 0x1000, 2, false, [⟨12, 36, .rw, 0, 0, 68719476735⟩]⟩,
  ⟨0x5050, 1, 0x100000, 1, 0x1000, 1, false, [⟨0, 8, .rw, 0, 0, 255⟩]⟩,
  ⟨0x5054, 1, 0x100000, 1, 0x1000, 1, false, [⟨0, 3, .ro, 0, 0, 7⟩, ⟨8, 6, .ro, 0, 0, 63⟩, ⟨16, 8, .ro, 0, 0, 255⟩]⟩,
  ⟨0x5058, 1, 0x100000, 1, 0x1000, 1, false, [⟨0, 1, .wo, 0, 0, 1⟩]⟩,
  ⟨0x505C, 1, 0x100000, 1, 0x1000, 1, false, [⟨0, 1, .ro, 0, 0, 1⟩, ⟨1, 1, .w1c, 0, 0, 1⟩, ⟨2, 1, .w1c, 0, 0, 1⟩]⟩,
  ⟨0x5060, 1, 0x100000, 1, 0x1000, 1, false, [⟨0, 1, .ro, 0, 0, 1⟩, ⟨1, 1, .ro, 0, 0, 1⟩]⟩,
  ⟨0x5064, 1, 0x100000, 1, 0x1000, 1, false, [⟨0, 1, .w1c, 0, 0, 1⟩, ⟨1, 3, .ro, 0, 0, 7⟩, ⟨8, 8, .ro, 0, 0, 255⟩, ⟨16, 8, .ro, 0, 0, 255⟩, ⟨24, 6, .ro, 0, 0, 63⟩]⟩,
  ⟨0x5070, 1, 0x100000, 1, 0x1000, 1, false, [⟨0, 32, .ro, 0, 0, 4294967295⟩]⟩,
  ⟨0x5074, 1, 0x100000, 1, 0x1000, 1, false, [⟨0, 32, .ro, 0, 0, 4294967295⟩]⟩,
  ⟨0x5078, 1, 0x100000, 1, 0x1000, 1, false, [⟨0, 32, .ro, 0, 0, 4294967295⟩]⟩]

/-- The `MGT_` registers, in the order of the manual's table. -/
def regsMGT : List RegDesc := [
  ⟨0x6000, 1, 0x100000, 1, 0x1000, 2, true, [⟨0, 1, .rw, 1, 0, 1⟩, ⟨1, 1, .rw, 1, 0, 1⟩, ⟨2, 12, .rw, 4, 1, 4000⟩, ⟨14, 18, .rw, 20, 1, 200000⟩, ⟨32, 6, .rw, 0, 0, 36⟩]⟩,
  ⟨0x6008, 1, 0x100000, 1, 0x1000, 1, true, [⟨0, 1, .rw, 1, 0, 1⟩, ⟨8, 6, .rw, 12, 4, 60⟩, ⟨16, 14, .rw, 50, 1, 10000⟩]⟩,
  ⟨0x600C, 1, 0x100000, 1, 0x1000, 1, true, [⟨0, 1, .rw, 1, 0, 1⟩, ⟨8, 7, .rw, 18, 4, 100⟩, ⟨16, 16, .rw, 1, 1, 65535⟩]⟩,
  ⟨0x6010, 1, 0x100000, 1, 0x1000, 2, false, [⟨0, 36, .ro, 0, 0, 68719476735⟩, ⟨48, 16, .ro, 0, 0, 65535⟩]⟩,
  ⟨0x6018, 1, 0x100000, 1, 0x1000, 1, true, [⟨0, 1, .rw, 1, 0, 1⟩, ⟨4, 3, .wo, 0, 0, 7⟩, ⟨15, 17, .rw, 60, 1, 86400⟩]⟩,
  ⟨0x601C, 1, 0x100000, 1, 0x1000, 1, false, [⟨0, 1, .ro, 0, 0, 1⟩, ⟨1, 1, .ro, 0, 0, 1⟩, ⟨2, 1, .ro, 0, 0, 1⟩, ⟨4, 1, .w1c, 0, 0, 1⟩, ⟨8, 4, .ro, 0, 0, 15⟩]⟩,
  ⟨0x6020, 1, 0x100000, 1, 0x1000, 2, true, [⟨6, 42, .rw, 0, 0, 4398046511103⟩]⟩,
  ⟨0x6028, 1, 0x100000, 1, 0x1000, 1, true, [⟨0, 1, .rw, 1, 0, 1⟩, ⟨4, 3, .rw, 4, 0, 7⟩]⟩,
  ⟨0x602C, 1, 0x100000, 1, 0x1000, 1, true, [⟨0, 14, .rw, 100, 10, 10000⟩, ⟨31, 1, .wo, 0, 0, 1⟩]⟩,
  ⟨0x6030, 1, 0x100000, 1, 0x1000, 1, true, [⟨0, 1, .rw, 0, 0, 1⟩, ⟨4, 2, .rw, 2, 0, 3⟩]⟩,
  ⟨0x6034, 1, 0x100000, 1, 0x1000, 1, false, [⟨0, 1, .w1c, 0, 0, 1⟩, ⟨1, 1, .w1c, 0, 0, 1⟩, ⟨2, 1, .w1c, 0, 0, 1⟩]⟩,
  ⟨0x6038, 1, 0x100000, 1, 0x1000, 2, true, [⟨12, 36, .rw, 0, 0, 68719476735⟩]⟩,
  ⟨0x6040, 1, 0x100000, 1, 0x1000, 1, false, [⟨0, 32, .ro, 0, 0, 4294967295⟩]⟩,
  ⟨0x6044, 1, 0x100000, 1, 0x1000, 1, true, [⟨0, 32, .rw, 0, 0, 4294967295⟩]⟩,
  ⟨0x6048, 1, 0x100000, 1, 0x1000, 1, false, [⟨0, 32, .ro, 0, 0, 4294967295⟩]⟩,
  ⟨0x604C, 1, 0x100000, 1, 0x1000, 1, true, [⟨0, 1, .rw, 0, 0, 1⟩, ⟨4, 2, .rw, 2, 0, 3⟩, ⟨8, 8, .rw, 0, 0, 255⟩]⟩,
  ⟨0x6050, 1, 0x100000, 1, 0x1000, 1, false, [⟨0, 3, .wo, 0, 0, 7⟩]⟩,
  ⟨0x6054, 1, 0x100000, 1, 0x1000, 2, false, [⟨0, 2, .ro, 0, 0, 3⟩, ⟨2, 1, .ro, 0, 0, 1⟩, ⟨3, 1, .ro, 0, 0, 1⟩, ⟨4, 1, .w1c, 0, 0, 1⟩, ⟨8, 4, .ro, 0, 0, 15⟩, ⟨16, 4, .ro, 0, 0, 15⟩, ⟨32, 32, .ro, 0, 0, 4294967295⟩]⟩,
  ⟨0x6060, 1, 0x100000, 1, 0x1000, 2, true, [⟨6, 42, .rw, 0, 0, 4398046511103⟩]⟩,
  ⟨0x6068, 1, 0x100000, 1, 0x1000, 1, true, [⟨0, 21, .rw, 0, 0, 2097151⟩]⟩,
  ⟨0x6070, 1, 0x100000, 1, 0x1000, 2, false, [⟨0, 64, .ro, 0, 0, 18446744073709551615⟩]⟩]

/-- The `Q_` registers, in the order of the manual's table. -/
def regsQ : List RegDesc := [
  ⟨0x8000, 256, 0x200, 1, 0x200, 1, true, [⟨0, 1, .rw, 0, 0, 1⟩, ⟨1, 6, .rw, 0, 0, 63⟩, ⟨7, 6, .rw, 0, 0, 63⟩, ⟨13, 5, .rw, 1, 1, 16⟩, ⟨18, 11, .rw, 64, 1, 1024⟩]⟩,
  ⟨0x8004, 256, 0x200, 1, 0x200, 1, false, [⟨0, 1, .ro, 1, 0, 1⟩, ⟨1, 1, .w1c, 0, 0, 1⟩, ⟨2, 1, .w1c, 0, 0, 1⟩, ⟨3, 1, .w1c, 0, 0, 1⟩, ⟨4, 1, .w1c, 0, 0, 1⟩]⟩,
  ⟨0x8008, 256, 0x200, 1, 0x200, 2, true, [⟨12, 36, .rw, 0, 0, 68719476735⟩]⟩,
  ⟨0x8010, 256, 0x200, 1, 0x200, 1, true, [⟨0, 5, .rw, 4, 4, 16⟩]⟩,
  ⟨0x8018, 256, 0x200, 1, 0x200, 2, true, [⟨12, 36, .rw, 0, 0, 68719476735⟩]⟩,
  ⟨0x8020, 256, 0x200, 1, 0x200, 1, true, [⟨0, 5, .rw, 4, 4, 16⟩]⟩,
  ⟨0x8024, 256, 0x200, 1, 0x200, 1, false, [⟨0, 16, .ro, 0, 0, 65535⟩]⟩,
  ⟨0x8028, 256, 0x200, 1, 0x200, 1, false, [⟨0, 16, .ro, 0, 0, 65535⟩, ⟨16, 1, .ro, 1, 0, 1⟩]⟩,
  ⟨0x802C, 256, 0x200, 1, 0x200, 1, false, [⟨0, 32, .ro, 0, 0, 4294967295⟩]⟩]

/-- The `LNK_` registers, in the order of the manual's table. -/
def regsLNK : List RegDesc := [
  ⟨0x40000, 36, 0x1000, 1, 0x1000, 1, true, [⟨0, 2, .rw, 3, 0, 3⟩, ⟨2, 2, .rw, 0, 0, 3⟩, ⟨4, 1, .rw, 0, 0, 1⟩, ⟨5, 1, .rw, 0, 0, 1⟩, ⟨8, 2, .rw, 0, 0, 3⟩, ⟨16, 1, .wo, 0, 0, 1⟩, ⟨17, 1, .wo, 0, 0, 1⟩]⟩,
  ⟨0x40004, 36, 0x1000, 1, 0x1000, 1, false, [⟨0, 3, .ro, 0, 0, 7⟩, ⟨4, 1, .ro, 1, 0, 1⟩, ⟨6, 1, .ro, 0, 0, 1⟩, ⟨5, 1, .w1c, 0, 0, 1⟩, ⟨8, 1, .w1c, 0, 0, 1⟩]⟩,
  ⟨0x40008, 36, 0x1000, 1, 0x1000, 1, true, [⟨0, 12, .rw, 4, 0, 4095⟩, ⟨12, 18, .rw, 20, 0, 262143⟩, ⟨30, 1, .rw, 0, 0, 1⟩, ⟨31, 1, .rw, 0, 0, 1⟩]⟩,
  ⟨0x4000C, 36, 0x1000, 1, 0x1000, 1, true, [⟨0, 14, .rw, 50, 5, 10000⟩]⟩,
  ⟨0x40010, 36, 0x1000, 1, 0x1000, 1, true, [⟨0, 20, .rw, 2000, 10, 1000000⟩]⟩,
  ⟨0x40014, 36, 0x1000, 1, 0x1000, 1, false, [⟨0, 3, .ro, 7, 0, 7⟩, ⟨4, 3, .ro, 0, 0, 7⟩]⟩,
  ⟨0x40018, 36, 0x1000, 1, 0x1000, 2, false, [⟨0, 48, .ro, 0, 0, 281474976710655⟩]⟩,
  ⟨0x40020, 36, 0x1000, 1, 0x1000, 2, false, [⟨0, 48, .ro, 0, 0, 281474976710655⟩]⟩,
  ⟨0x40028, 36, 0x1000, 1, 0x1000, 2, false, [⟨0, 48, .ro, 0, 0, 281474976710655⟩]⟩,
  ⟨0x40030, 36, 0x1000, 1, 0x1000, 2, false, [⟨0, 48, .ro, 0, 0, 281474976710655⟩]⟩,
  ⟨0x40038, 36, 0x1000, 1, 0x1000, 2, false, [⟨0, 48, .ro, 0, 0, 281474976710655⟩]⟩,
  ⟨0x40040, 36, 0x1000, 1, 0x1000, 1, false, [⟨0, 32, .ro, 0, 0, 4294967295⟩]⟩,
  ⟨0x40044, 36, 0x1000, 1, 0x1000, 1, false, [⟨0, 32, .ro, 0, 0, 4294967295⟩]⟩,
  ⟨0x40048, 36, 0x1000, 1, 0x1000, 1, false, [⟨0, 32, .ro, 0, 0, 4294967295⟩]⟩,
  ⟨0x4004C, 36, 0x1000, 1, 0x1000, 1, false, [⟨0, 32, .ro, 0, 0, 4294967295⟩]⟩,
  ⟨0x40050, 36, 0x1000, 1, 0x1000, 1, false, [⟨0, 32, .ro, 0, 0, 4294967295⟩]⟩,
  ⟨0x40054, 36, 0x1000, 1, 0x1000, 1, false, [⟨0, 32, .ro, 0, 0, 4294967295⟩]⟩,
  ⟨0x40058, 36, 0x1000, 1, 0x1000, 1, false, [⟨0, 32, .ro, 0, 0, 4294967295⟩]⟩,
  ⟨0x4005C, 36, 0x1000, 1, 0x1000, 1, false, [⟨0, 32, .ro, 0, 0, 4294967295⟩]⟩,
  ⟨0x40060, 36, 0x1000, 1, 0x1000, 1, true, [⟨0, 3, .rw, 0, 0, 7⟩]⟩,
  ⟨0x40080, 36, 0x1000, 17, 0x4, 1, false, [⟨0, 32, .ro, 0, 0, 4294967295⟩]⟩]

/-- The `LANE_` registers, in the order of the manual's table. -/
def regsLANE : List RegDesc := [
  ⟨0x80000, 288, 0x200, 1, 0x200, 1, true, [⟨0, 1, .rw, 1, 0, 1⟩]⟩,
  ⟨0x80004, 288, 0x200, 1, 0x200, 1, false, [⟨0, 1, .ro, 0, 0, 1⟩, ⟨1, 1, .ro, 0, 0, 1⟩, ⟨2, 1, .w1c, 0, 0, 1⟩, ⟨3, 1, .w1c, 0, 0, 1⟩, ⟨4, 1, .w1c, 0, 0, 1⟩]⟩,
  ⟨0x80008, 288, 0x200, 1, 0x200, 2, false, [⟨0, 40, .ro, 0, 0, 1099511627775⟩]⟩,
  ⟨0x80010, 288, 0x200, 1, 0x200, 1, true, [⟨0, 8, .rw, 0, 4, 40⟩]⟩,
  ⟨0x80014, 288, 0x200, 1, 0x200, 1, true, [⟨0, 1, .rw, 0, 0, 1⟩]⟩,
  ⟨0x80018, 288, 0x200, 1, 0x200, 1, true, [⟨0, 2, .rw, 0, 0, 2⟩, ⟨4, 1, .rw, 0, 0, 1⟩, ⟨8, 1, .wo, 0, 0, 1⟩, ⟨9, 1, .wo, 0, 0, 1⟩]⟩,
  ⟨0x8001C, 288, 0x200, 1, 0x200, 1, false, [⟨0, 1, .ro, 0, 0, 1⟩]⟩,
  ⟨0x80020, 288, 0x200, 1, 0x200, 2, false, [⟨0, 48, .ro, 0, 0, 281474976710655⟩]⟩,
  ⟨0x80028, 288, 0x200, 1, 0x200, 2, false, [⟨0, 48, .ro, 0, 0, 281474976710655⟩]⟩,
  ⟨0x80030, 288, 0x200, 1, 0x200, 1, false, [⟨0, 32, .ro, 0, 0, 4294967295⟩]⟩,
  ⟨0x80034, 288, 0x200, 1, 0x200, 1, true, [⟨0, 1, .rw, 0, 0, 1⟩, ⟨1, 2, .rw, 0, 0, 3⟩, ⟨4, 1, .rw, 0, 0, 1⟩]⟩,
  ⟨0x80038, 288, 0x200, 1, 0x200, 1, false, [⟨0, 1, .w1c, 0, 0, 1⟩]⟩,
  ⟨0x8003C, 288, 0x200, 1, 0x200, 1, false, [⟨0, 1, .ro, 0, 0, 1⟩, ⟨1, 1, .ro, 0, 0, 1⟩, ⟨2, 1, .ro, 0, 0, 1⟩]⟩,
  ⟨0x80040, 288, 0x200, 1, 0x200, 1, false, [⟨0, 16, .ro, 0, 0, 65535⟩, ⟨16, 16, .ro, 0, 0, 65535⟩]⟩]

end Sys2Proof.Machine
end

