-- ==== Sys2Proof/Machine/Table.lean ====
section
/-!
DEFINITION. Machine/Table.lean: a sparse table of numbered entries, kept in ascending order of the number.
-/

namespace Sys2Proof.Machine

/-- A sparse table: the entries that are held, each under its number. -/
structure Tbl (α : Type) where
  entries : List (Nat × α)
  deriving DecidableEq, Repr

/-- The table that holds nothing. -/
def Tbl.empty {α : Type} : Tbl α := ⟨[]⟩

/-- The first entry held under a number. -/
def lookupIn {α : Type} : List (Nat × α) → Nat → Option α
  | [], _ => none
  | (j, w) :: t, k => if j = k then some w else lookupIn t k

/-- A list of numbered entries with one entry put in its place. -/
def insertIn {α : Type} : List (Nat × α) → Nat → α → List (Nat × α)
  | [], k, v => [(k, v)]
  | (j, w) :: t, k, v =>
    if k < j then (k, v) :: (j, w) :: t
    else if j = k then (k, v) :: t
    else (j, w) :: insertIn t k v

/-- The entry under a number. -/
def Tbl.find {α : Type} (t : Tbl α) (k : Nat) : Option α := lookupIn t.entries k

/-- The entry under a number, or `d` where none is held. -/
def Tbl.get {α : Type} (t : Tbl α) (k : Nat) (d : α) : α := (t.find k).getD d

/-- The table with entry `k` set. -/
def Tbl.set {α : Type} (t : Tbl α) (k : Nat) (v : α) : Tbl α := ⟨insertIn t.entries k v⟩

/-- The table without entry `k`. -/
def Tbl.erase {α : Type} (t : Tbl α) (k : Nat) : Tbl α := ⟨t.entries.filter fun e => e.1 != k⟩

/-- The table with only the entries whose number meets `p`. -/
def Tbl.keep {α : Type} (t : Tbl α) (p : Nat → Bool) : Tbl α := ⟨t.entries.filter fun e => p e.1⟩

/-- The numbers held. -/
def Tbl.keys {α : Type} (t : Tbl α) : List Nat := t.entries.map (·.1)

/-- The entries held, in ascending order of number. -/
def Tbl.values {α : Type} (t : Tbl α) : List α := t.entries.map (·.2)

/-- Every entry rewritten. -/
def Tbl.map {α : Type} (t : Tbl α) (f : α → α) : Tbl α := ⟨t.entries.map fun e => (e.1, f e.2)⟩

/-- The entries held that meet `p`, with their numbers. -/
def Tbl.filterV {α : Type} (t : Tbl α) (p : α → Bool) : List (Nat × α) := t.entries.filter fun e => p e.2

end Sys2Proof.Machine
end

