-- ==== Sys2Proof/Machine/Types.lean ====
section
/-!
DEFINITION. Machine/Types.lean: what a command carries: packets, flits, control blocks, read beats, sensor readings.
-/

namespace Sys2Proof.Machine

/-- The 32 B seal trailer of a sealed packet (R335): the send counter and the GCM tag. -/
structure Trailer where
  ctr : BitVec 64
  tag : List Byte
  deriving DecidableEq, Repr

/-- A DZP packet: the header fields of R24, the payload, the seal trailer of a sealed packet, and the ABT mark that
the flit holding its last byte carries (R287). -/
structure Packet where
  ptype   : BitVec 6
  ff      : Bool
  sealed  : Bool
  epoch   : Bool
  mcast   : Bool
  poison  : Bool
  scope   : BitVec 2
  vc      : BitVec 3
  pkey    : PKey
  src     : NodeId
  dst     : NodeId
  seq     : BitVec 16
  tag     : Tag
  win     : BitVec 12
  addr    : VAddr
  len     : BitVec 12
  expect  : Word
  chan    : Byte
  subop   : Byte
  aux     : BitVec 16
  status  : Byte
  prior   : BitVec 24
  payload : List Byte
  trailer : Option Trailer
  abt     : Bool
  deriving DecidableEq, Repr

/-- One codeword decoded with a flit (R262): its symbol errors and erasures, and whether it holds a data bit of the
flit. -/
structure Codeword where
  errors   : Nat
  erasures : Nat
  holds    : Bool
  deriving DecidableEq, Repr

/-- A flit as the FEC decoder hands it over: its 256 bytes and the codewords decoded with it. -/
structure RxFlit where
  bytes : List Byte
  cws   : List Codeword
  deriving DecidableEq, Repr

/-- One beat of a memory-port read (R411): up to 256 bytes, a poison bit for each line, and the error bit. -/
structure Beat where
  data   : List Byte
  poison : BitVec 4
  err    : Bool
  deriving DecidableEq, Repr

/-- The data of a whole read of many lines (an image, a program, a table): its bytes and whether any read of it
returned with an error or poison indication. -/
structure Blob where
  data : List Byte
  bad  : Bool
  deriving DecidableEq, Repr

/-- The body of a control block of R298 (16 bytes as received). -/
abbrev CtrlBlock := List Byte

/-- A wake burst of R313 as a sleeping receive direction of a link sees it: the blocks that end it, one for each active
lane in order. -/
structure WakeBurst where
  link   : Fin 36
  blocks : List CtrlBlock
  deriving DecidableEq, Repr

/-- What software writes before it commands STAGE (R399): to `MGT_FW_BASE` the physical address of the image, to
`MGT_FW_LEN` its length in bytes. -/
structure ImageAt where
  base : BitVec 64
  len  : Word
  deriving DecidableEq, Repr

/-- What the router takes a packet from: the local injection port of a unit (0 transaction engine, 1 collective
sequencer, 2 keeper's relay, R11), an input VC buffer of a link, a packet that is still arriving on a link
(cut-through, R261), or a packet that waits inside the router (a multicast copy, or one queued for a link that went
down). -/
inductive RouterIn where
  | inject   (unit : Fin 3)
  | link     (k : Fin 36) (vc : BitVec 3)
  | arriving (k : Fin 36)
  | waiting  (n : Nat)
  deriving DecidableEq, Repr

/-- The protected arrays of R395. -/
inductive ProtArray where
  | tags | windows | heldWrites | routeTables | admission | rangeCache | queues
  deriving DecidableEq, Repr

/-- One sample of the sensor island (R369, R425): tile temperatures and core temperatures in 0.25 °C units, tile
VLINK in mV. -/
structure Sensors where
  tiles : List Int
  cores : List Int
  vlink : List Nat
  deriving DecidableEq, Repr

/-- The two test access ports (R428). -/
inductive TapPort where
  | jtag | debug
  deriving DecidableEq, Repr

/-- The rows of the fuse array (R426). -/
inductive FuseRow where
  | serial | txMap | dbgLock | mfr | mac | cal | opens | arb | cert | secret
  deriving DecidableEq, Repr

/-- The two reset inputs. -/
inductive ResetPin where
  | por | hard
  deriving DecidableEq, Repr

/-- What a client of the management port presents in a handshake: its certificate chain and the proof of its key. -/
structure Handshake where
  chain : List Byte
  proof : List Byte
  deriving DecidableEq, Repr

end Sys2Proof.Machine
end

