-- ==== Sys2Proof/Syntax.lean ====
section
/-!
DEFINITION. Syntax.lean: the commands of the block, one constructor per row of the opcode table, in the table's order.
-/

namespace Sys2Proof

open Sys2Proof.Machine

/-- The commands the block takes: configuration-port and doorbell writes, packets and flits that arrive, responses of
the memory ports, timers that expire, and events on pins, detectors and management interfaces. Each constructor is one
row of the opcode table; the comment at a group names the rules its operands follow. -/
inductive Instr where
  -- reset, clocks, power (R350 to R372); a width is the time in ns the reset input was held (R351)
  | powerOn (width : Nat)
  | hardReset (width : Nat)
  | resetRelease (pin : ResetPin) (width : Nat)
  | fuseShadowValid
  | corePllLocked
  | releaseGapExpiry
  | resetBurstTimeout (port : Fin 16)
  | thermalTrip
  | softReset
  | keeperRestart
  | refInputLoss (g : Fin 9)
  | refInputReturn (g : Fin 9)
  | coreMhzWrite (v : Word)
  | coreClockStep
  | vcoreSample (mv : List Nat)
  | sensorSample (r : Sensors)
  | keeperThrottle (tile : Fin 36)
  | throttleDutyStep (tile : Fin 36)
  | eccError (array : ProtArray) (index : Nat) (correctable : Bool)
  -- configuration port (R419, R442)
  | configWrite (addr : BitVec 20) (v : Word)
  | reg64UpperWrite (addr : BitVec 20) (v : Word)
  | reg64LowerRead (addr : BitVec 20)
  | unimplementedRead (addr : BitVec 20)
  | masterEnClear
  | masterEnSet
  | cfgLoad
  | cfgDirect
  | cfgImageReadDone (image : Blob)
  | cfgImageReadTimeout
  | winReset (win : BitVec 12)
  -- queues and doorbells (R90 to R118)
  | qEnable (q : Byte) (v : Word)
  | qDisable (q : Byte) (v : Word)
  | qSetupWrite (q : Byte) (off : BitVec 9) (v : Word)
  | sqTail (q : Byte) (v : Word)
  | cqHead (q : Byte) (v : Word)
  | cancel (q : Byte) (hi : Bool) (mask : Word)
  | rearm (q : Byte) (hi : Bool) (mask : Word)
  | descriptorFetch (q : Byte) (beat : Beat)
  | descriptorStart
  | writeCompletionRecord (d : Nat)
  | tileTokenPush (t : BitVec 3) (token : BitVec 256)
  | tileTokenStart (t : BitVec 3)
  | tqTemplateLoad (v : Word)
  | tqTemplateLoadDone (blob : Blob)
  -- memory ports and the atomic unit (R411 to R415, R56)
  | memReadResponse (port : Fin 16) (id : BitVec 12) (beat : Beat)
  | memWriteResponse (port : Fin 16) (id : BitVec 12) (err : Bool)
  | atomicUnitIssue (op : Nat)
  -- packets that reach the target or the initiator (R27 to R68)
  | rdReceive (p : Packet)
  | grdReceive (p : Packet)
  | wrReceive (p : Packet)
  | msgReceive (p : Packet)
  | atomReceive (p : Packet)
  | vaccReceive (p : Packet)
  | unknownTypeReceive (p : Packet)
  | rdrReceive (p : Packet)
  | atomrReceive (p : Packet)
  | lackReceive (p : Packet)
  | holdFullResend (d : Nat)
  | holdTimeout (h : Nat)
  | lackCoalesceTimeout (node : NodeId) (pkey : PKey) (vc7 : Bool)
  | operationTimeout (tag : Tag)
  | tagQuarantineEnd (tag : Tag)
  -- translation (R126 to R155)
  | walkReadReturn (port : Fin 16) (id : BitVec 12) (beat : Beat)
  | invRange (part : BitVec 6)
  | invPart (part : BitVec 6)
  | invAll
  | preload (part : BitVec 6)
  | invDrainComplete
  | xltDirBaseWrite (part : BitVec 6) (v : Word)
  -- impeller (R156 to R166)
  | chainLoad (v : Word)
  | chainLoadDone (programs : List Blob)
  | pipeRsvWrite (v : Word)
  | pipeBind
  -- collectives, experts, parking (R195 to R217)
  | cjoinReceive (p : Packet)
  | cdataReceive (p : Packet)
  | cabortReceive (p : Packet)
  | collectiveStep (d : Nat)
  | edspReceive (p : Packet)
  | ecmbReceive (p : Packet)
  | etallyReceive (p : Packet)
  | prdrReceive (p : Packet)
  | resumeChunk (d : Nat)
  | expertTableLoad (v : Word)
  | expertTableLoadDone (blob : Blob)
  -- router and fabric (R218 to R254)
  | routePacket (src : RouterIn)
  | escWaitExpiry (src : RouterIn)
  | outputStallTimeout (port : Fin 16) (vc : BitVec 3)
  | sumpDstWrite (i : Fin 8) (v : Word)
  | routeTableWrite (b : Bool) (d : Byte) (v : Word)
  | epochInjWrite (b : Bool)
  | epochClear (b : Bool)
  | lportWrite (links : Bool) (p : Fin 16) (v : Word)
  | pkeyListWrite (v : Word)
  | fabCtlWrite (v : Word)
  | nodeIdWrite (dims : Bool) (v : Word)
  | helloTimer (k : Fin 36)
  | helloReceive (k : Fin 36) (p : Packet)
  | nbrLost (k : Fin 36)
  | drainReceive (k : Fin 36) (p : Packet)
  | probeGo (k : BitVec 6)
  | probeReceive (k : Fin 36) (p : Packet) (turnaround : BitVec 16)
  | probeReplyReceive (k : Fin 36) (p : Packet) (count : Word)
  | probeTimeout
  | keeperProbe (k : Fin 36)
  -- link layer (R255 to R289)
  | flitReceive (k : Fin 36) (f : RxFlit)
  | ctrlFlitReceive (k : Fin 36) (f : RxFlit)
  | replayReqReceive (k : Fin 36) (f : RxFlit)
  | auditReceive (k : Fin 36) (f : RxFlit)
  | initFlitReceive (k : Fin 36) (f : RxFlit)
  | initFlitTimer (k : Fin 36)
  | initTimeout (k : Fin 36)
  | replayReqRepeat (k : Fin 36)
  | ackTimeout (k : Fin 36)
  | creditTimeout (k : Fin 36)
  | ctrlFlitDue (k : Fin 36)
  | frameLockLoss (k : Fin 36)
  | partnerRetrainDetect (k : Fin 36)
  | retrainAttemptTimeout (k : Fin 36)
  | lnkRetrain (k : Fin 36)
  | fullLinkReset (k : Fin 36)
  | lnkModeWrite (k : Fin 36) (mode : BitVec 2)
  | txSleepEnter (k : Fin 36)
  | txWake (k : Fin 36)
  | dutyPeriodStart (k : Fin 36)
  | lnkSleepCfgWrite (k : Fin 36) (v : Word)
  | lnkDutyCtlWrite (k : Fin 36) (v : Word)
  -- lanes (R290 to R320)
  | rxWake (burst : WakeBurst)
  | sleepCommaRetrain (k : Fin 36)
  | wakeMissingTimeout (n : Fin 288)
  | losAssert (n : Fin 288)
  | lolAssert (n : Fin 288)
  | losClear (n : Fin 288)
  | primeStart (k : Fin 36)
  | pllLock (k : Fin 36)
  | cdrLock (k : Fin 36)
  | laneAligned (k : Fin 36) (skew : List Nat)
  | train (n : Fin 288) (b : CtrlBlock)
  | adaptationDone (k : Fin 36)
  | endBlock (n : Fin 288) (b : CtrlBlock)
  | primeTimeout (k : Fin 36)
  | loopReq (n : Fin 288) (b : CtrlBlock)
  | loopAck (n : Fin 288) (b : CtrlBlock)
  | farLoopTimeout (n : Fin 288)
  | laneTestWrite (n : Fin 288) (v : Word)
  | laneSqCtlWrite (n : Fin 288) (v : Word)
  | prbsClr (n : Fin 288)
  | prbsInj (n : Fin 288)
  | calTempCheck (k : Fin 36)
  | marginUpdate (n : Fin 288) (vert horz : BitVec 16)
  -- partitions and security (R321 to R349)
  | enable (part : BitVec 6)
  | teardown (part : BitVec 6)
  | teardownDrainEnd (part : BitVec 6)
  | teardownDone (part : BitVec 6)
  | pkeyQuarantineEnd (key : PKey)
  | ephGen (block : Blob)
  | chanOpen (block : Blob)
  | chanClose (block : Blob)
  | wsealOpen (block arg : Blob)
  | attest (block : Blob)
  | cert (block : Blob)
  | mgmtKeygen (block : Blob)
  | mgmtLoad (block arg : Blob)
  | chanPendingTimeout (c : Byte)
  | scrubAll
  | scrubDone
  | debugAccessRequest (tap : TapPort)
  | debugAccessGranted
  | jtagIdcode (tap : TapPort)
  | jtagBypass (tap : TapPort)
  | jtagSamplePreload (cells : List Bool)
  | mgmtDtlsHandshake (h : Handshake)
  | fuseProgram (row : FuseRow) (bits : Nat)
  | fuseRead (row : FuseRow)
  -- keeper (R376 to R407)
  | watchdogKick
  | watchdogExpiry
  | keeperBoot
  | keeperEventCopy
  | coalesceHolddownExpiry (cause : BitVec 16) (node : NodeId)
  | mevt (p : Packet)
  | evtConsWrite (v : Word)
  | mgtPolicyWrite (off : BitVec 12) (v : Word)
  | keeperSteer (k : Fin 36)
  | keeperMarginRetrain (n : Fin 288)
  | keeperStaleRetrain (k : Fin 36)
  | keeperCalCapture
  | keeperSleepTune (k : Fin 36) (wakesPerSecond : Nat)
  | stage (image : ImageAt)
  | activate
  | confirm
  | revert
  | trialTimeout
  | capture
  | calImport (base : BitVec 64)
  | calExport
  | calStoreDone
  -- the last rows of the table
  | frameLockGain (k : Fin 36)
  | prbsLockGain (n : Fin 288)
  | prbsLockLoss (n : Fin 288)
  | holdPhaseEnd (k : Fin 36)
  deriving DecidableEq, Repr

end Sys2Proof
end

