-- ==== Sys2Proof/WellFormed.lean ====
section
/-!
DEFINITION. WellFormed.lean: which command operands the ports and wires can carry (list lengths and ranges that the
types alone do not fix).
-/

namespace Sys2Proof

open Sys2Proof.Machine

/-- A packet as a link delivers it (R24, R26, R335): its payload and LEN are at most 2,048 bytes, and it has a seal
trailer, with a 16-byte tag, only when it is sealed. -/
def packetWf (p : Packet) : Bool :=
  p.payload.length ≤ 2048 && p.len.toNat ≤ 2048
    && (p.sealed || p.trailer.isNone)
    && (match p.trailer with | some t => t.tag.length == 16 | none => true)

/-- A flit as the FEC decoder gives it (R255): 256 bytes, and at least one codeword. -/
def flitWf (f : RxFlit) : Bool := f.bytes.length == 256 && f.cws.length != 0

/-- A read beat (R411, R412): one to four lines of 64 bytes. -/
def beatWf (b : Beat) : Bool := b.data.length % 64 == 0 && 0 < b.data.length && b.data.length ≤ 256

/-- A control-block body of 16 bytes (R298). -/
def ctrlWf (b : CtrlBlock) : Bool := b.length == 16

/-- Sensor readings of 36 tiles and four controller sensors (R369, R425). -/
def sensorsWf (r : Sensors) : Bool := r.tiles.length == 36 && r.cores.length == 4 && r.vlink.length == 36

/-- A configuration-port address is a multiple of four (R442). -/
def aligned (a : BitVec 20) : Bool := a.toNat % 4 == 0

/-- Whether a command's operands are of a shape that its port can carry. -/
def Instr.wf : Instr → Bool
  | .vcoreSample mv => mv.length == 4 && mv.all (· < 65536)
  | .sensorSample r => sensorsWf r
  | .configWrite a _ | .reg64UpperWrite a _ | .reg64LowerRead a | .unimplementedRead a => aligned a
  | .descriptorFetch _ b => beatWf b
  | .memReadResponse _ _ b | .walkReadReturn _ _ b => beatWf b
  | .rdReceive p | .grdReceive p | .wrReceive p | .msgReceive p | .atomReceive p | .vaccReceive p
  | .unknownTypeReceive p | .rdrReceive p | .atomrReceive p | .lackReceive p | .cjoinReceive p | .cdataReceive p
  | .cabortReceive p | .edspReceive p | .ecmbReceive p | .etallyReceive p | .prdrReceive p | .mevt p => packetWf p
  | .helloReceive _ p | .drainReceive _ p | .probeReceive _ p _ | .probeReplyReceive _ p _ => packetWf p
  | .flitReceive _ f | .ctrlFlitReceive _ f | .replayReqReceive _ f | .auditReceive _ f | .initFlitReceive _ f =>
    flitWf f
  | .train _ b | .endBlock _ b | .loopReq _ b | .loopAck _ b => ctrlWf b
  | .laneAligned _ skew => skew.length ≤ 8
  | .rxWake burst => burst.blocks.length ≤ 8 && burst.blocks.all ctrlWf
  | .chainLoadDone ps => ps.length ≤ 64
  | .probeGo k => k.toNat < 36
  | .mgtPolicyWrite off _ => off.toNat % 4 == 0
  | .qSetupWrite _ off _ => off.toNat % 4 == 0
  | _ => true

/-- The packet that a command brings, if it brings one. -/
def Instr.packet : Instr → Option Packet
  | .rdReceive p | .grdReceive p | .wrReceive p | .msgReceive p | .atomReceive p | .vaccReceive p
  | .unknownTypeReceive p | .rdrReceive p | .atomrReceive p | .lackReceive p | .cjoinReceive p | .cdataReceive p
  | .cabortReceive p | .edspReceive p | .ecmbReceive p | .etallyReceive p | .prdrReceive p | .mevt p
  | .helloReceive _ p | .drainReceive _ p | .probeReceive _ p _ | .probeReplyReceive _ p _ => some p
  | _ => none

end Sys2Proof
end

