-- ==== Sys2Proof/Decode.lean ====
section
/-!
DEFINITION. Decode.lean: the commands that a word spells. The opcode table gives no row any bits, so no word does.
-/

namespace Sys2Proof

/-- The command that a word of `nbits` bits spells by the table's encodings: the table gives no row an encoding. -/
def decodeTableWord (_nbits _w : Nat) : Option Instr := none

end Sys2Proof
end

