-- ==== Sys2Proof/Machine/Numeric.lean ====
section
/-!
DEFINITION. Machine/Numeric.lean: the number formats of R159, exact values, and the roundings of R184 and R185.
-/

namespace Sys2Proof.Machine

/-- An exact value: NaN, an infinity, or `(-1)^neg * num / den * 2^e`. -/
inductive Val where
  | nan
  | inf (neg : Bool)
  | fin (neg : Bool) (num den : Nat) (e : Int)
  deriving DecidableEq, Repr

/-- A binary floating-point format (R159): fraction bits, exponent bits, exponent bias, whether it has infinities, and
the largest finite significand with its exponent of the unit. -/
structure FloatFmt where
  frac   : Nat
  expw   : Nat
  bias   : Nat
  hasInf : Bool
  maxSig : Nat
  maxExp : Int
  deriving DecidableEq, Repr

/-- The floating-point formats by code (R159). -/
def floatFmt : Nat → Option FloatFmt
  | 0 => some ⟨23, 8, 127, true, 2 ^ 24 - 1, 104⟩
  | 1 => some ⟨7, 8, 127, true, 2 ^ 8 - 1, 120⟩
  | 2 => some ⟨10, 5, 15, true, 2 ^ 11 - 1, 5⟩
  | 3 => some ⟨3, 4, 7, false, 14, 5⟩
  | 4 => some ⟨2, 5, 15, true, 7, 13⟩
  | _ => none

/-- Bits of an element of a format (R159). -/
def fmtBits : Nat → Nat
  | 0 => 32 | 1 => 16 | 2 => 16 | 3 => 8 | 4 => 8 | 5 => 8 | 6 => 4 | 7 => 32 | _ => 0

/-- Bytes of an element of a format of at least one byte. -/
def fmtBytes (f : Nat) : Nat := fmtBits f / 8

/-- A format code that names a number format. -/
def isFmt (f : Nat) : Bool := f < 8

/-- A floating-point format code. -/
def isFloat (f : Nat) : Bool := f < 5

/-- An integer format code. -/
def isInt (f : Nat) : Bool := f == 5 || f == 6 || f == 7

/-- The canonical NaN of a floating-point format (R159, R160). -/
def nanCode (f : FloatFmt) : Nat :=
  if f.hasInf then (2 ^ f.expw - 1) * 2 ^ f.frac + 2 ^ (f.frac - 1) else 2 ^ (f.expw + f.frac) - 1

/-- The sign bit of a floating-point code. -/
def signBit (f : FloatFmt) (neg : Bool) : Nat := if neg then 2 ^ (f.expw + f.frac) else 0

/-- The code of an infinity. -/
def infCode (f : FloatFmt) (neg : Bool) : Nat := signBit f neg + (2 ^ f.expw - 1) * 2 ^ f.frac

/-- The exponent of the unit in the last place of the subnormals. -/
def FloatFmt.minExp (f : FloatFmt) : Int := 1 - (f.bias : Int) - f.frac

/-- The exact value of a floating-point code. -/
def decodeFloat (f : FloatFmt) (c : Nat) : Val :=
  let neg := c.testBit (f.expw + f.frac)
  let ex := natField c f.frac f.expw
  let fr := c % 2 ^ f.frac
  if ex = 2 ^ f.expw - 1 && f.hasInf then (if fr = 0 then .inf neg else .nan)
  else if ex = 2 ^ f.expw - 1 && fr = 2 ^ f.frac - 1 then .nan
  else if ex = 0 then .fin neg fr 1 f.minExp
  else .fin neg (fr + 2 ^ f.frac) 1 (f.minExp + (ex - 1 : Nat))

/-- The exact value of an element's code. -/
def decodeElem (fmt c : Nat) : Val :=
  match floatFmt fmt with
  | some f => decodeFloat f c
  | none =>
    let v := signedOf (fmtBits fmt) c
    .fin (v < 0) v.natAbs 1 0

/-- The four flags of a pipe (R189) as bits: 0 OF, 1 UF, 2 NX, 3 NV. -/
abbrev Flags := Nat

/-- OF alone. -/
abbrev flagOF : Flags := 1
/-- UF alone. -/
abbrev flagUF : Flags := 2
/-- NX alone. -/
abbrev flagNX : Flags := 4
/-- NV alone. -/
abbrev flagNV : Flags := 8

/-- Rounding modes (R184). -/
inductive Rnd where
  | rne | rtz | rto
  deriving DecidableEq, Repr

/-- The quotient `n / d` rounded to an integer by a mode, and whether it was inexact. -/
def roundQuot (m : Rnd) (n d : Nat) : Nat × Bool :=
  let q := n / d
  let r := n % d
  if r = 0 then (q, false)
  else match m with
    | .rne => (if d < 2 * r then q + 1 else if 2 * r < d then q else q + q % 2, true)
    | .rtz => (q, true)
    | .rto => (q ||| 1, true)

/-- `num / den * 2^e` over `2^q`, as a quotient of naturals. -/
def scaleTo (num den : Nat) (e q : Int) : Nat × Nat :=
  if q ≤ e then (num * 2 ^ (e - q).toNat, den) else (num, den * 2 ^ (q - e).toNat)

/-- The exponent of the leading bit of a nonzero `num / den * 2^e`. -/
def leadExp (num den : Nat) (e : Int) : Int :=
  let l : Int := (num.log2 : Int) - den.log2
  let (a, b) := scaleTo num den 0 l
  if a < b then e + l - 1 else e + l

/-- A finite magnitude rounded to a floating-point format: significand, exponent of its unit, and whether it was
inexact; the exponent is not bounded above. -/
def roundMag (f : FloatFmt) (m : Rnd) (num den : Nat) (e : Int) : Nat × Int × Bool :=
  let q := max (leadExp num den e - f.frac) f.minExp
  let (a, b) := scaleTo num den e q
  let (sig, nx) := roundQuot m a b
  if sig = 2 ^ (f.frac + 1) then (2 ^ f.frac, q + 1, nx) else (sig, q, nx)

/-- The code of a significand and the exponent of its unit. -/
def encodeMag (f : FloatFmt) (neg : Bool) (sig : Nat) (q : Int) : Nat :=
  if sig < 2 ^ f.frac then signBit f neg + sig
  else signBit f neg + ((q - f.minExp).toNat + 1) * 2 ^ f.frac + (sig - 2 ^ f.frac)

/-- A value beyond the largest finite one of a format (R184): what each mode and SAT give. `sat` applies to E4M3 and
E5M2 only. -/
def overflowCode (fmt : Nat) (f : FloatFmt) (m : Rnd) (sat : Bool) (neg : Bool) : Nat :=
  let big := encodeMag f neg f.maxSig f.maxExp
  if sat && (fmt == 3 || fmt == 4) then big
  else match m with
    | .rne => if f.hasInf then infCode f neg else nanCode f
    | .rtz | .rto => big

/-- A value converted to a floating-point format (R168, R184, R189): its code and the flags it raises. -/
def roundFloat (fmt : Nat) (f : FloatFmt) (m : Rnd) (sat : Bool) : Val → Nat × Flags
  | .nan => (nanCode f, 0)
  | .inf neg =>
    if f.hasInf then (infCode f neg, 0)
    else (if sat then encodeMag f neg f.maxSig f.maxExp else nanCode f, flagOF)
  | .fin neg num den e =>
    if num = 0 then (signBit f neg, 0)
    else
      let (sig, q, nx) := roundMag f m num den e
      if f.maxExp < q || (q = f.maxExp && f.maxSig < sig) then (overflowCode fmt f m sat neg, flagOF + flagNX)
      else
        (encodeMag f neg sig q,
          (if nx then flagNX else 0) + (if nx && sig != 0 && sig < 2 ^ f.frac then flagUF else 0))

/-- A value converted to INT8 or INT32 (R184): rounded to an integer and saturated. -/
def roundInt (w : Nat) (m : Rnd) : Val → Nat × Flags
  | .nan => (0, flagNV)
  | .inf neg => (if neg then 2 ^ (w - 1) else 2 ^ (w - 1) - 1, flagNV)
  | .fin neg num den e =>
    let (a, b) := scaleTo num den e 0
    let (n, nx) := roundQuot m a b
    let top := if neg then 2 ^ (w - 1) else 2 ^ (w - 1) - 1
    let c := if top < n then top else n
    (codeOf w (if neg then -(c : Int) else c),
      (if nx then flagNX else 0) + (if top < n then flagNV else 0))

/-- A value converted to a format: its code and the flags it raises. -/
def roundTo (fmt : Nat) (m : Rnd) (sat : Bool) (v : Val) : Nat × Flags :=
  match floatFmt fmt with
  | some f => roundFloat fmt f m sat v
  | none => roundInt (fmtBits fmt) m v

/-- The negation of a value. -/
def Val.neg : Val → Val
  | .nan => .nan
  | .inf s => .inf (!s)
  | .fin s n d e => .fin (!s) n d e

/-- The magnitude of a value. -/
def Val.abs : Val → Val
  | .nan => .nan
  | .inf _ => .inf false
  | .fin _ n d e => .fin false n d e

/-- A finite value's numerator, signed, over `den * 2^(-e)`. -/
def signedNum (s : Bool) (n : Nat) : Int := if s then -(n : Int) else n

/-- The exact sum (R168): opposite infinities are invalid; a zero sum of opposite signs is +0. -/
def Val.add : Val → Val → Val × Flags
  | .nan, _ => (.nan, 0)
  | _, .nan => (.nan, 0)
  | .inf a, .inf b => if a = b then (.inf a, 0) else (.nan, flagNV)
  | .inf a, .fin .. => (.inf a, 0)
  | .fin .., .inf b => (.inf b, 0)
  | .fin s n d e, .fin s' n' d' e' =>
    let q := min e e'
    let x := signedNum s (n * d' * 2 ^ (e - q).toNat) + signedNum s' (n' * d * 2 ^ (e' - q).toNat)
    (.fin (if x = 0 then s && s' else decide (x < 0)) x.natAbs (d * d') q, 0)

/-- The exact product (R168): infinity times zero is invalid. -/
def Val.mul : Val → Val → Val × Flags
  | .nan, _ => (.nan, 0)
  | _, .nan => (.nan, 0)
  | .inf a, .inf b => (.inf (a ^^ b), 0)
  | .inf a, .fin b n _ _ => if n = 0 then (.nan, flagNV) else (.inf (a ^^ b), 0)
  | .fin b n _ _, .inf a => if n = 0 then (.nan, flagNV) else (.inf (a ^^ b), 0)
  | .fin s n d e, .fin s' n' d' e' => (.fin (s ^^ s') (n * n') (d * d') (e + e'), 0)

/-- Strict order of values other than NaN, with −0 below +0 (R168). -/
def Val.lt : Val → Val → Bool
  | .nan, _ => false
  | _, .nan => false
  | .inf a, .inf b => a && !b
  | .inf a, .fin .. => a
  | .fin .., .inf b => !b
  | .fin s n d e, .fin s' n' d' e' =>
    let q := min e e'
    let x := signedNum s (n * d' * 2 ^ (e - q).toNat)
    let y := signedNum s' (n' * d * 2 ^ (e' - q).toNat)
    x < y || (x = 0 && y = 0 && s && !s')

/-- Numerical `≥`, with −0 equal to +0 and NaN meeting nothing (R180). -/
def Val.ge (a b : Val) : Bool :=
  match a, b with
  | .nan, _ => false
  | _, .nan => false
  | .fin _ 0 _ _, .fin _ 0 _ _ => true
  | a, b => !a.lt b

/-- The smaller of two values; a NaN operand gives NaN with NV (R168). -/
def Val.min (a b : Val) : Val × Flags :=
  match a, b with
  | .nan, _ => (.nan, flagNV)
  | _, .nan => (.nan, flagNV)
  | a, b => (if b.lt a then b else a, 0)

/-- The larger of two values; a NaN operand gives NaN with NV (R168). -/
def Val.max (a b : Val) : Val × Flags :=
  match a, b with
  | .nan, _ => (.nan, flagNV)
  | _, .nan => (.nan, flagNV)
  | a, b => (if a.lt b then b else a, 0)

/-- The IEEE 754 sum, rounded to nearest, of two codes of a format (R53). -/
def fpAdd (fmt a b : Nat) : Nat := (roundTo fmt .rne false ((decodeElem fmt a).add (decodeElem fmt b)).1).1

/-- Lanes of `n` bytes each combined by `f` (R51, R55). -/
def mapLanes (n : Nat) (f : Nat → Nat → Nat) (a b : List Byte) : List Byte :=
  (List.range (a.length / n)).flatMap fun i => leBytes n (f (sliceNat a (n * i) n) (sliceNat b (n * i) n))

end Sys2Proof.Machine
end

