-- ==== Sys2Proof/Config.lean ====
section
/-!
DEFINITION. Config.lean: what the manual leaves free, and the cryptographic functions it takes from other standards.
None of these constants has a body that a proof can see: a statement holds for every value of them.
-/

namespace Sys2Proof.Config

open Sys2Proof.Machine

/-- The `n`-th free value taken (assumption log 2): a choice or a result the manual does not fix. -/
opaque freeValue : Nat → Nat

/-- The choice of the range-cache set of a fragment (R135, R140), by partition, block and number of sets. -/
opaque cacheSet : Nat → Nat → Nat → Nat

/-- SHA-384 (R322, R340, R397): FIPS 180-4, not restated by the manual. -/
opaque sha384 : List Byte → List Byte

/-- HKDF-SHA-384 (R326, R333, R338): salt, input key, info, output length. -/
opaque hkdf : List Byte → List Byte → List Byte → Nat → List Byte

/-- The public key of an ECDSA or ECDH P-384 private key. -/
opaque p384Public : List Byte → List Byte

/-- The ECDSA P-384 signature of a message under a private key, with the nonce material of draw `n`. -/
opaque ecdsaSign : List Byte → List Byte → Nat → List Byte

/-- Whether an ECDSA P-384 signature (third argument) of a message (second) verifies under a public key (first). -/
opaque ecdsaVerify : List Byte → List Byte → List Byte → Bool

/-- The ECDH P-384 shared secret of a private key and a peer's public key. -/
opaque ecdh : List Byte → List Byte → List Byte

/-- AES-256-GCM encryption: key, IV, additional data, plain text; cipher text and 16-byte tag. -/
opaque gcmSeal : List Byte → List Byte → List Byte → List Byte → List Byte × List Byte

/-- AES-256-GCM decryption: key, IV, additional data, cipher text, tag; none on an authentication failure. -/
opaque gcmOpen : List Byte → List Byte → List Byte → List Byte → List Byte → Option (List Byte)

/-- AES key unwrapping (R338): wrapping key and wrapped key; none where the integrity check fails. -/
opaque keyUnwrap : List Byte → List Byte → Option (List Byte)

/-- Bytes of the random source (R326, R332): draw and length. -/
opaque randomBytes : Nat → Nat → List Byte

/-- The device keys of slots 0 and 1 (R326): derived by HKDF-SHA-384 from the device secret; the manual gives neither
salt nor info. Arguments: secret and slot. -/
opaque deviceKey : Nat → Nat → List Byte

/-- The management key of slot 2 (R326, R348): derived from the device secret and a salt. -/
opaque managementKey : Nat → List Byte → List Byte

/-- The public key that the certificate of a management bundle certifies (R348); none where the bundle has no such
certificate. The manual does not give the width of the bundle's length fields. -/
opaque bundleKey : List Byte → Option (List Byte)

/-- Whether a DTLS 1.3 handshake with the given certificate chain and proof succeeds under a management bundle (R348):
the suite, the chain up to the bundle's trust anchor and the client's signature. -/
opaque clientAccepted : List Byte → List Byte → List Byte → Bool

/-- Whether a firmware manifest's signature verifies under the firmware key whose digest the boot ROM holds (R397). -/
opaque firmwareSigned : List Byte → Bool

/-- The fields of a firmware manifest (R397), whose layout the manual does not give: VERSION, SVN, image length and
SHA-384 of the image. -/
opaque manifestVersion : List Byte → Word
opaque manifestSvn : List Byte → Nat
opaque manifestLength : List Byte → Nat
opaque manifestDigest : List Byte → List Byte

end Sys2Proof.Config
end

