-- ==== Sys2Proof/Machine/State.lean ====
section
/-!
DEFINITION. Machine/State.lean: everything the manual gives the block to hold, as plain data, and the state after reset.
-/

namespace Sys2Proof.Machine

/-- Where the release sequence of R354 stands: in reset; waiting for the fuse shadow, for the core PLL; in the gap
before step 4; in the gap before link tile `n`; done. -/
inductive RelStep where
  | held | fuse | pll | units | tile (n : Nat) | done
  deriving DecidableEq, Repr

/-- A read of many lines whose data one command of the table brings whole: up to four descriptor slots of a queue, from
a first one on (R95), the configuration image, whose header comes first and says how much follows (R123), chain programs
(R163), the templates of a tile queue (R118), the expert table (R208), and the block of a security command and what its
ARG names (R328). -/
inductive Whole where
  | slots (q first n : Nat)
  | image (head : Bool)
  | programs
  | templates (t : Nat)
  | experts
  | command
  | argument
  deriving DecidableEq, Repr

/-- A memory-port request that a reset left outstanding (R360): its port and identifier, the job it belongs to, and what
one command would have brought whole for it. -/
structure StaleReq where
  port  : Nat
  id    : BitVec 12
  job   : Nat
  whole : Option Whole
  deriving DecidableEq, Repr

/-- Reset and clock manager, always-on island and sensor island (R350 to R375). -/
structure ResetUnit where
  /-- The reset inputs, low after an honoured pulse has started (R351). -/
  porLow     : Bool
  hardLow    : Bool
  step       : RelStep
  /-- The running or last release sequence follows a soft reset (R354). -/
  soft       : Bool
  /-- Islands out of reset: keeper, step-3 core units, step-4 core units, and link tiles 0 to `tiles - 1`. -/
  keeperUp   : Bool
  coreUp     : Bool
  unitsUp    : Bool
  tiles      : Nat
  /-- Thermal trip latch (R372); the pin `RST_TRIP_N` is low while it is set. -/
  trip       : Bool
  /-- The sensors that read 115 °C or more in the latest sample, tiles from 0 and core sensors from 36, and whether one of
  them did so in two samples running (R372). -/
  hot        : List Nat
  tripDue    : Bool
  /-- Reference inputs within tolerance (R291), and the input the core PLL runs from, none when it free-runs. -/
  refOk      : BitVec 9
  pllInput   : Option Nat
  /-- The latest readings of the sensor island (R369). -/
  sensors    : Sensors
  /-- Times of the watchdog expiries of the last 10 minutes (R385). -/
  wdExpiries : List Nat
  /-- Memory ports that still finish a write burst after the start of a reset, and the beats left of it (R360). -/
  bursts     : List (Nat × Nat)
  /-- Requests issued before the reset whose responses are discarded (R360). -/
  stale      : List StaleReq
  deriving DecidableEq, Repr

/-- Kezara's own fuse array (R426). -/
structure Fuses where
  serial  : BitVec 64
  txMap   : BitVec 72
  dbgLock : Bool
  mfr     : BitVec 11
  mac     : BitVec 48
  cal     : Nat
  opens   : Nat
  arb     : Nat
  cert    : Nat
  secret  : Nat
  deriving DecidableEq, Repr

/-- One firmware bank: its state page, manifest and image (R397). -/
structure Bank where
  seq        : Word
  seqN       : Word
  verified   : Word
  active     : Word
  confirmed  : Word
  retired    : Word
  trialBoots : Word
  manifest   : List Byte
  image      : List Byte
  deriving DecidableEq, Repr

/-- The keeper's flash (R396): two banks, two calibration slots, the management bundle with its CRC-32C. -/
structure Flash where
  bankA  : Bank
  bankB  : Bank
  cal0   : List Byte
  cal1   : List Byte
  bundle : List Byte
  deriving DecidableEq, Repr

/-- An event entry (R388). -/
structure Event where
  cls      : BitVec 2
  summary  : Bool
  relayed  : Bool
  cause    : BitVec 16
  node     : NodeId
  reporter : NodeId
  part     : Byte
  count    : Word
  index    : BitVec 16
  time     : BitVec 64
  data     : BitVec 64
  deriving DecidableEq, Repr

/-- An open coalescing slot (R392). -/
structure CoalSlot where
  cause : BitVec 16
  node  : NodeId
  count : Nat
  last  : Event
  deriving DecidableEq, Repr

/-- A calibration store in progress (R405): the slot, its whole image, and whether a command asked for it (R406). -/
structure CalStore where
  slotB : Bool
  image : List Byte
  byCmd : Bool
  deriving DecidableEq, Repr

/-- The keeper (R376 to R407). -/
structure Keeper where
  /-- Firmware runs; while it is false the datapath runs on under R23. -/
  running    : Bool
  ring       : Tbl Event
  /-- Entries written to the ring, those not copied to the host ring, a host write under way, and a loss that is still
  to be reported (R389). -/
  next       : Nat
  toCopy     : List Nat
  hostBusy   : Bool
  lostNote   : Bool
  coal       : List CoalSlot
  /-- Running firmware: bank, trial, recovery, and the reason for the last restart. -/
  bankB      : Bool
  trial      : Bool
  recovery   : Bool
  reason     : BitVec 4
  reverted   : Bool
  /-- A CONFIRM that came while the keeper restarts from a revert: its cause is still to show (R407). -/
  lateConf   : Bool
  /-- Calibration: the slot presented, a store in progress, the time of the last store (R404 to R406), and for each link
  the retrain start after which it was last captured (R383). -/
  presented  : Option Bool
  store      : Option CalStore
  lastStore  : Option Nat
  captured   : Tbl Nat
  /-- Management port: open sessions (R348). -/
  sessions   : Nat
  /-- Throttled tiles and their duty step, 0 for exclusion alone (R371); links excluded for their margin (R381). -/
  throttle   : Tbl Nat
  steered    : List Nat
  /-- The limits of R369 that readings of each throttled tile have passed, by row of its table (R371). -/
  limits     : Tbl (List Nat)
  deriving DecidableEq, Repr

/-- The states of a partition (R322). -/
inductive PartState where
  | free | active | teardown
  deriving DecidableEq, Repr

/-- One partition (R322, R341): state, key, owner digest, its window and stream masks, and the teardown step. -/
structure Part where
  state   : PartState
  key     : PKey
  owner   : List Byte
  windows : List Nat
  streams : List Nat
  drained : Bool
  deriving DecidableEq, Repr

/-- The states of a sealed channel (R331). -/
inductive ChanState where
  | closed | pending | opened | weight | exhausted
  deriving DecidableEq, Repr

/-- One sealed channel (R331 to R339): its state, partition, peer and key slots, the nonces of the exchange, the
send counter, the anti-replay window, and a weight image's place. -/
structure Chan where
  state   : ChanState
  part    : Nat
  peer    : NodeId
  keySlot : Option Nat
  ephSlot : Option Nat
  nonce   : List Byte
  sendCtr : Nat
  rxHigh  : Option Nat
  rxSeen  : List Nat
  imageId : Word
  img     : Nat
  nrec    : Nat
  deriving DecidableEq, Repr

/-- The security unit (R321 to R349). -/
structure Security where
  parts      : Tbl Part
  quarantine : List PKey
  keys       : Tbl (List Byte)
  chans      : Tbl Chan
  /-- SHA-384 of the last configuration image loaded (R340); none after DIRECT or reset. -/
  cfgDigest  : Option (List Byte)
  cfgDirect  : Bool
  /-- Debug: the sticky OPEN bit of the always-on island (R346, R347), an opening in progress, and access granted. -/
  openBit    : Bool
  opening    : Bool
  granted    : Bool
  /-- The block of a security command while what its ARG names is read (R328). -/
  cmdBlock   : Option (List Byte)
  /-- Instruction each test access port holds as selected: 0 BYPASS, 1 IDCODE, 2 SAMPLE/PRELOAD; the boundary cells. -/
  tapIr      : Tbl Nat
  cells      : List Bool
  deriving DecidableEq, Repr

/-- One byte of data in a pipe or on its way to a packet, with its poison mark (R193). -/
structure PByte where
  b : Byte
  p : Bool
  deriving DecidableEq, Repr

/-- The result of a descriptor's lookup of one 4 KiB block (R128): the block's number, its physical address, and the
permissions, memory attribute and generation of the translation. -/
structure BlockMap where
  blk   : Nat
  pa    : Nat
  perms : BitVec 5
  mattr : Nat
  gen   : Nat
  deriving DecidableEq, Repr

/-- Where a descriptor stands (R96, R112): fetched, not started; started and waiting for its start translations or
element list; waiting for a pipe; issuing; every packet issued; its record written. -/
inductive DPhase where
  | fetched | starting | pipe | running | drain | written
  deriving DecidableEq, Repr

/-- The fence-final packet of a descriptor, kept without its payload until it is accounted for (R45, R46). -/
structure Resend where
  packet   : Packet
  refusals : Nat
  /-- Where its bytes come from: the source position to go back to and the bytes of that output to drop; what the
  reads for it have brought. -/
  from_    : Nat
  skip     : Nat
  data     : Option (List PByte)
  data2    : Option (List PByte)
  /-- 0 sent, 1 refused and waiting for its backoff, 2 to be rebuilt, 3 its reads are under way. -/
  stage    : Nat
  deriving DecidableEq, Repr

/-- How the input of a chained descriptor's pipe has ended: not yet, with the source, at a STOP of its EXIT stage, or
before a faulting block (R141, R181). -/
inductive ChainEnd where
  | open | whole | stop | fault
  deriving DecidableEq, Repr

/-- One descriptor or tile token in progress (R96 to R114, R156 to R194), from its fetch to its record. -/
structure Desc where
  queue    : Nat
  index    : BitVec 16
  token    : Bool
  bits     : BitVec 512
  /-- The slot read failed, or the template was never loaded: it ends with BAD_OP (R95, R118). -/
  bad      : Bool
  part     : Nat
  pkey     : PKey
  phase    : DPhase
  /-- Marked DISABLED by a master-enable clear (R119). -/
  disabled : Bool
  /-- Statuses with which parts of the operation ended (R65). -/
  ends     : List Byte
  /-- The number of its start among all of the queue engine's, from 1; 0 before it (R21, R110). -/
  startNo  : Nat
  elems    : List (Nat × Nat)
  /-- The blocks it has looked up (R128). -/
  maps     : List BlockMap
  /-- Progress: source position (bytes; elements of a chain), target offset, element in progress; reads under way,
  what they brought, and output not yet sent. -/
  pos      : Nat
  opos     : Nat
  elem     : Nat
  reading  : Bool
  buf      : Option (List PByte)
  buf2     : Option (List PByte)
  obuf     : List PByte
  tags     : List Nat
  curTag   : Option Nat
  nseq     : Nat
  /-- Bytes accounted OK, failed elements, their statuses, and a fetch result (R107). -/
  done     : Nat
  elemEnd  : Tbl Byte
  result   : BitVec 128
  /-- Chain: the pipe bound, the program copied at the bind, flags raised, whether its EXIT fired (R158, R181). -/
  pipe     : Option Nat
  chain    : List Byte
  flags    : BitVec 4
  fired    : Bool
  chainEnd : ChainEnd
  stopped  : Bool
  /-- Local writes not yet accepted (R72), and a fence-final packet to send again. -/
  writes   : Nat
  resend   : Option Resend
  deriving DecidableEq, Repr

/-- A physical extent with the memory attribute of the range entry that maps it (R129). -/
structure Extent where
  pa    : Nat
  len   : Nat
  mattr : Nat
  deriving DecidableEq, Repr

/-- One response that a tag still waits for: whether it is an ATOMR (else an RDR or PRDR), its SEQ and AUX, the bytes
it covers, where they go, the generation of that translation, and, for a read of a weight image or of an image that is
staged, the place that it reads (R213, R339). -/
structure Expected where
  atom   : Bool
  seq    : Nat
  aux    : Nat
  len    : Nat
  elem   : Nat
  pieces : List Extent
  gen    : Nat
  addr   : Option Nat
  deriving DecidableEq, Repr

/-- Lines of one element of a write-class tag: sent, not yet accounted, accounted OK, and the bytes they cover. -/
structure LineAcct where
  sent : Nat
  left : Nat
  ok   : Nat
  size : Nat
  deriving DecidableEq, Repr

/-- One tag (R57 to R60): in use by a descriptor, or in quarantine. -/
structure TagSt where
  desc       : Nat
  quarantine : Bool
  closed     : Bool
  lines      : Tbl LineAcct
  expects    : List Expected
  sealed     : Option Nat
  sump       : Bool
  deriving DecidableEq, Repr

/-- A held write (R43): the packet, its translation and generation, and its arrival number. -/
structure Held where
  no     : Nat
  packet : Packet
  pa     : Nat
  mattr  : Nat
  part   : Nat
  gen    : Nat
  deriving DecidableEq, Repr

/-- A packet that waits in the target miss buffer (R139). -/
structure MissPkt where
  no     : Nat
  packet : Packet
  deriving DecidableEq, Repr

/-- A LACK record (R61). -/
structure LackRec where
  status : Byte
  tag    : Tag
  elem   : BitVec 4
  lines  : Word
  deriving DecidableEq, Repr

/-- A record set (R62). -/
structure RecSet where
  node    : NodeId
  pkey    : PKey
  vc7     : Bool
  recs    : List LackRec
  landed  : Nat
  deriving DecidableEq, Repr

/-- An operation in the atomic unit (R56): one line of an ATOM or VACC packet. -/
structure AtomOp where
  packet  : Packet
  /-- Physical address of the first byte the operation touches, and the offset of its operands in the payload. -/
  pa      : Nat
  off     : Nat
  mattr   : Nat
  part    : Nat
  gen     : Nat
  /-- Waiting, reading, or writing. -/
  stage   : Nat
  old     : List Byte
  bad     : Bool
  /-- The write-group of the packet: operations of one packet share it, and its last one answers. -/
  group   : Nat
  deriving DecidableEq, Repr

/-- Lines of a packet in the atomic unit that are not yet written; whether poison has touched the packet (R36, R56), the
lines whose write returned an error (R414), and the bytes read last. -/
structure AtomGroup where
  packet : Packet
  left   : Nat
  bad    : Bool
  errs   : Nat
  old    : List Byte
  deriving DecidableEq, Repr

/-- The transaction engine (R24 to R68). -/
structure Txn where
  tags     : Tbl TagSt
  windows  : Tbl Word
  held     : List Held
  heldNo   : Nat
  /-- Fence-final packets of each window being applied one at a time, the first in progress (R74). -/
  fenceQ   : Tbl (List Held)
  miss     : List MissPkt
  missNo   : Nat
  sets     : List RecSet
  atoms    : Tbl AtomOp
  atomNo   : Nat
  groups   : Tbl AtomGroup
  groupNo  : Nat
  /-- Virtual channels that the ejection port does not take from, because a packet of theirs missed while the miss
  buffer was full (R139). -/
  stopVcs  : List (BitVec 3)
  deriving DecidableEq, Repr

/-- What a read of the collective sequencer brings: data, the second stream, a list, a staging chunk. -/
inductive CollRead where
  | first | second | list | chunk
  deriving DecidableEq, Repr

/-- What a write of the collective sequencer is: its own output; arrived data of a step, with a packet to forward once
it has landed; lines of a row; a return entry; part of a staging chunk; output of a resume. -/
inductive CollWrite where
  | own
  | arrival (step lines : Nat) (forward : Option Packet)
  | row     (lines bytes : Nat)
  | entry
  | staged  (chunk len : Nat)
  | output  (len : Nat)
  deriving DecidableEq, Repr

/-- What a finished memory-port read feeds; `gone` is a read that nothing waits for any more, of a descriptor or (none) of
the target, held until its last data has returned (R119, R149). -/
inductive RdWhat where
  | source (d : Nat) (second : Bool)
  | resend (d : Nat) (second : Bool)
  | elist  (d : Nat)
  | target (p : Packet)
  | atomic (op : Nat)
  | coll   (d : Nat) (what : CollRead)
  | whole  (w : Whole)
  /-- A firmware image to stage (R399); a calibration image to import (R406). -/
  | firmware
  | calImage
  | gone (who : Option Nat)
  deriving DecidableEq, Repr

/-- What a finished memory-port write completes. -/
inductive WrWhat where
  | posted  (p : Packet)
  | fence   (p : Packet)
  | atomic  (op : Nat)
  | record  (q : Nat)
  | event   (i : Nat)
  | dest    (tag d elem len seq aux : Nat)
  | coll    (d : Nat) (what : CollWrite)
  | security
  | calExport
  deriving DecidableEq, Repr

/-- The part of a read that one request brings: where its bytes begin in the beat, how many they are, and the bytes
once they have returned. -/
structure RdPart where
  skip : Nat
  len  : Nat
  data : Option (List PByte)
  deriving DecidableEq, Repr

/-- A read of many lines being assembled: what it feeds, its parts in order, and the partition and generation of the
translation it uses (R149). -/
structure RdJob where
  what  : RdWhat
  parts : List RdPart
  user  : Option (Nat × Nat)
  deriving DecidableEq, Repr

/-- A write of many lines being accepted: its requests that are left, and the lines and bytes of those that returned an
error (R414). -/
structure WrJob where
  what : WrWhat
  left : Nat
  badLines : Nat
  badBytes : Nat
  user : Option (Nat × Nat)
  deriving DecidableEq, Repr

/-- A request of a memory port (R411, R412), waiting to be issued or outstanding. -/
structure MemReq where
  port   : Nat
  id     : BitVec 12
  write  : Bool
  line   : Nat
  nline  : Nat
  mattr  : Nat
  lock   : Bool
  /-- The job it belongs to and its place in the job; a walk's read names the walk. -/
  job    : Nat
  idx    : Nat
  walk   : Bool
  /-- Write data from the first line on, one mark a byte: `none` where the byte enable is 0. -/
  data   : List (Option PByte)
  /-- Its data is dropped on return, because master enable was cleared (R119). -/
  drop   : Bool
  deriving DecidableEq, Repr

/-- The memory ports (R411 to R418): requests waiting and outstanding, and the jobs they belong to. -/
structure MemPorts where
  queue  : List MemReq
  out    : List MemReq
  rjobs  : Tbl RdJob
  wjobs  : Tbl WrJob
  jobNo  : Nat
  deriving DecidableEq, Repr

/-- A cached fragment (R135). -/
structure Frag where
  part   : Nat
  blk    : Nat
  /-- Virtual extent (end exclusive), and the physical address of its first byte. -/
  lo     : Nat
  hi     : Nat
  pa     : Nat
  perms  : BitVec 5
  mattr  : Nat
  /-- Installed by the windlass and not used yet; time of last use, for replacement. -/
  fresh  : Bool
  used   : Nat
  deriving DecidableEq, Repr

/-- A local write of the collective sequencer that goes through translation (R127). -/
structure LocalOp where
  d    : Nat
  what : CollWrite
  va   : Nat
  data : List PByte
  deriving DecidableEq, Repr

/-- Who waits for a translation (R137). -/
inductive Waiter where
  | pkt   (no : Nat) (va : Nat)
  | desc  (d : Nat) (va : Nat)
  | op    (o : LocalOp) (va : Nat)
  deriving DecidableEq, Repr

/-- A lookup that has missed: who waits, and its number among all misses, by which handlers go to the oldest (R137). -/
structure Missed where
  who : Waiter
  no  : Nat
  deriving DecidableEq, Repr

/-- What a walk serves: lookups at the target, lookups at an initiator, a windlass prefetch, or a PRELOAD. -/
inductive WalkKind where
  | target | initiator | prefetch | preload
  deriving DecidableEq, Repr

/-- A walk (R133), in a miss handler or waiting for one. -/
structure Walk where
  kind    : WalkKind
  part    : Nat
  va      : Nat
  /-- A prefetch needs this permission for its stream's use (R144). -/
  perm    : Nat
  /-- It holds a handler; the range list and the search bounds. -/
  active  : Bool
  list    : Nat
  count   : Nat
  lo      : Nat
  hi      : Nat
  /-- Blocks read so far, and the block (none: the directory slot) whose read is under way. -/
  blocks  : Tbl (List Byte)
  cur     : Option Nat
  parts   : List RdPart
  waiters : List Missed
  deriving DecidableEq, Repr

/-- A running translation command (R147 to R151): its code, partition, and the generations it waits to end. -/
structure InvCmd where
  cmd   : Nat
  part  : Nat
  parts : List (Nat × Nat)
  deriving DecidableEq, Repr

/-- The translator (R126 to R155); `walkNo` numbers walks and misses together. -/
structure Xlat where
  frags  : List Frag
  walks  : Tbl Walk
  walkNo : Nat
  gens   : Tbl Nat
  inv    : Option InvCmd
  stamp  : Nat
  deriving DecidableEq, Repr

/-- The impeller (R156 to R166): the descriptor bound to each pipe, whether a reservation change still waits for the
pipe, the stored programs, and a load in progress. -/
structure Impeller where
  pipes    : Tbl Nat
  reserved : List Nat
  chains   : Tbl (List Byte)
  loading  : Option (Nat × Nat)
  deriving DecidableEq, Repr

/-- One queue (R90 to R98). -/
structure Queue where
  prod     : Nat
  /-- Slot reads under way, oldest first: first slot and number of slots; whether the slots are not to be fetched when
  they return (R91, R95, R119, R341). -/
  fetching : List (Nat × Nat)
  fetchDrop : Bool
  /-- Descriptors fetched and not started, in ring order. -/
  fetched  : List Nat
  crHead   : Nat
  reserved : Nat
  arrivals : BitVec 16
  deriving DecidableEq, Repr

/-- One tile queue (R115 to R118): tokens in arrival order, templates, and a load in progress. -/
structure TileQueue where
  tokens    : List (BitVec 256)
  templates : Tbl (BitVec 512)
  loading   : Option (Nat × Nat)
  deriving DecidableEq, Repr

/-- An arrival record that waits for a completion slot (R109): its queue and its words but PHASE and INDEX. -/
structure Arrival where
  queue  : Nat
  packet : Packet
  bad    : Bool
  deriving DecidableEq, Repr

/-- The queue engine (R90 to R121). -/
structure QueueEng where
  queues    : Tbl Queue
  tqs       : Tbl TileQueue
  descs     : Tbl Desc
  descNo    : Nat
  backlog   : List Arrival
  /-- Cancelled bits: pairs of group and partition (R111). -/
  cancelled : List (Nat × Nat)
  /-- Weighted round robin: the turn served last (a queue, or 256 plus a tile queue), the starts it has left (R96), and
  the number of starts so far. -/
  wrrPos    : Nat
  wrrLeft   : Nat
  starts    : Nat
  deriving DecidableEq, Repr

/-- One member of a running collective as its slot sees it (R199): its TAG once fixed, whether its CJOIN is held,
whether it has been sent one, whether it is owed one, its tally and the lines sent to it. -/
structure Member where
  tag    : Option Tag
  joined : Bool
  sent   : Bool
  owed   : Bool
  tally  : Option Nat
  lines  : Nat
  deriving DecidableEq, Repr

/-- What a running collective does: sends data of a step, waits for a step's arrivals, or reduces (for a resume:
converts a staging chunk). -/
inductive CollPhase where
  | send | await | reduce
  deriving DecidableEq, Repr

/-- A running collective, or a resume with a chain (R195 to R217), held under its descriptor. -/
structure Coll where
  cid      : Nat
  tag      : Nat
  /-- SIG, formed as it started (R199). -/
  sig      : Word
  members  : Tbl Member
  phase    : CollPhase
  /-- Step in progress, lines landed for each step. -/
  step     : Nat
  landed   : Tbl Nat
  /-- Progress: bytes of the region in progress, or the list entry in progress and the bytes of its row. -/
  cursor   : Nat
  row      : Nat
  /-- Reads for the piece in progress are under way; what they have brought. -/
  busy     : Bool
  a        : Option (List PByte)
  b        : Option (List PByte)
  /-- A part of the routing or return list, and its first entry. -/
  list     : Option (List Byte)
  listAt   : Nat
  /-- Packets that wait for a CJOIN of their receivers. -/
  waiting  : List Packet
  /-- Local writes not yet accepted, local reads not yet returned. -/
  writes   : Nat
  reads    : Nat
  /-- Expert exchange: lines received; own last packet and tallies issued. -/
  received : Nat
  issued   : Bool
  /-- Resume: bytes landed in each staging chunk, and the chunk to be converted next. -/
  chunks   : Tbl Nat
  chunk    : Nat
  deriving DecidableEq, Repr

/-- The collective sequencer (R195 to R217): running slots and jobs, identifiers refused with the time of their end,
since when every collective slot and every job slot has been occupied, and the expert table. -/
structure Sequencer where
  colls    : Tbl Coll
  refused  : List (Nat × Nat)
  collFull : Nat
  jobFull  : Nat
  experts  : Tbl (BitVec 64)
  loading  : Option (Nat × Nat)
  deriving DecidableEq, Repr

/-- A packet that waits inside the router: a multicast copy for a dimension (R247), one on its escape VC whose port takes
none now (R232), or one that was queued for a link that went down (R252). `src` is the input buffer whose space it
holds, by link and VC, with the number of the arrival. -/
structure Waiting where
  packet : Packet
  dim    : Option Nat
  src    : Option (Nat × BitVec 3 × Nat)
  deriving DecidableEq, Repr

/-- The latest probe (R228): its link, number, whether the keeper sent it, and whether it waits for its reply; a reply that
comes after the time limit still has its number. -/
structure Probe where
  link    : Nat
  number  : BitVec 16
  keeper  : Bool
  waiting : Bool
  deriving DecidableEq, Repr

/-- The router (R218 to R254): the local injection and ejection ports of the transaction engine, the collective sequencer
and the keeper's relay (R11), each with the packets that have not been taken from it; waiting packets and the number of the last arrival copied,
the probe in flight, ports whose neighbour sent DRAIN since its last HELLO (R236). -/
structure Router where
  inject   : List (List Packet)
  ejected  : List (List Packet)
  waiting  : List Waiting
  copyNo   : Nat
  probe    : Option Probe
  drained  : List Nat
  deriving DecidableEq, Repr

/-- Link states (R274). -/
inductive LinkState where
  | down | priming | init | active | retrain | failed
  deriving DecidableEq, Repr

/-- Sleep states of a direction (R312). -/
inductive SleepState where
  | awake | doze | drain
  deriving DecidableEq, Repr

/-- One sequenced flit in the replay buffer (R264). -/
structure SentFlit where
  seq     : BitVec 12
  audit   : Bool
  abt     : Bool
  payload : List Byte
  /-- It carries bytes of a packet other than fabric control or management relay (R358). -/
  traffic : Bool
  deriving DecidableEq, Repr

/-- What becomes of a packet that is still arriving: it is kept in its VC buffer; its bytes follow on the output link
that it has started on (R261); it is discarded (R287). -/
inductive InMode where
  | keep
  | cut (out : Nat)
  | drop
  deriving DecidableEq, Repr

/-- A packet that is arriving: its header, the bytes of its stream that have left the crossing, what becomes of it. -/
structure Incoming where
  header : Packet
  got    : List Byte
  mode   : InMode
  deriving DecidableEq, Repr

/-- A packet in an input VC buffer; `taken` says that its link might hand it to the router when it arrived (R227,
R252). -/
structure Arrived where
  packet : Packet
  taken  : Bool
  deriving DecidableEq, Repr

/-- A packet that has started on an output: its bytes that have not entered the crossing to the link's tile, and how
many are still to arrive (R261). -/
structure Sending where
  packet : Packet
  rest   : List Byte
  toCome : Nat
  deriving DecidableEq, Repr

/-- An entry of the crossing from the core to a link's tile (R14): up to 128 bytes of one packet, and whether it holds
the packet's first and its last byte. -/
structure Crossed where
  packet : Packet
  bytes  : List Byte
  first  : Bool
  ends   : Bool
  deriving DecidableEq, Repr

/-- A replay (R266): the number of its first flit, the time it started, the time its last flit has left, and whether an ACK
timeout started it. -/
structure Replay where
  first : BitVec 12
  since : Nat
  until_ : Nat
  byTmo : Bool
  deriving DecidableEq, Repr

/-- One line block (R293): its lane, its header code, and the body as it is sent. -/
structure LineBlock where
  lane : Nat
  head : BitVec 4
  body : List Byte
  deriving DecidableEq, Repr

/-- One link: link layer, priming and sleep (R255 to R289, R302 to R315). -/
structure Link where
  state     : LinkState
  /-- RATE, WIDTH, FEC and REACH in force since the last full link reset (R276, R422). -/
  rate      : BitVec 2
  width     : BitVec 2
  fecS      : Bool
  reach     : Bool
  /-- Sender: next sequence number, last ACK received, SENT, RELEASED received, replay buffer and the packets it
  carries with the sequence number of their last flit. -/
  txSeq     : BitVec 12
  ackIn     : BitVec 12
  sent      : Word
  relIn     : Word
  replay    : List SentFlit
  carried   : List (BitVec 12 × Packet)
  /-- Packets queued; packets started, and the crossing to the tile with at most 16 entries (R14); the VCs of the last
  72 flit slots for which another VC waited, and the slots each VC has waited (R235). -/
  txq       : List Packet
  txOut     : List Sending
  txX       : List Crossed
  grants    : List (BitVec 3)
  waited    : List Nat
  /-- Flits of the FEC frame that is being built, the block count of R261, and the blocks sent on each lane since its
  last comma (R296). -/
  frame     : List (List Byte)
  blocks    : Nat
  column    : Nat
  /-- Replays: the last one (R266), the sequence number it began at while the ACK has not passed it, and how many followed
  one another (R267); DATA since AUDIT. -/
  rpl       : Option Replay
  rplFrom   : Option (BitVec 12)
  rplCount  : Nat
  dataCount : Nat
  auditDue  : Bool
  /-- Receiver: expected number, awaiting replay, ACCEPTED, own RELEASED, audit result; landing buffer (each flit's ABT
  and payload) with the bytes of its first flit that have been passed on; of the bytes that have not, those that stand in
  the crossing to the core, at most 16 entries of up to 128 bytes, each with its flit's ABT (R14); the packet that is
  arriving in the router, and the input VC buffers in order of arrival. -/
  rxSeq     : BitVec 12
  awaiting  : Bool
  accepted  : Word
  relOut    : Word
  aud       : Byte
  landing   : List (Bool × List Byte)
  rxPos     : Nat
  rxX       : List (Bool × List Byte)
  rxPart    : Option Incoming
  inbuf     : List Arrived
  /-- Float valve: STOP shown to the partner and STOP received (R250, R251). -/
  stopOut   : Byte
  stopIn    : Byte
  /-- What the partner was last told: ACK, RELEASED, STOP. -/
  toldAck   : BitVec 12
  toldRel   : Word
  toldStop  : Byte
  /-- INIT: FRESH, own RX_OK, INITs sent with RX_OK, a go-ahead seen, what the partner's INITs carried. -/
  fresh     : Bool
  rxOk      : Bool
  initsSent : Nat
  initSeen  : Bool
  initWord  : Option (List Byte)
  partner   : Option (BitVec 16 × BitVec 16)
  lresets   : BitVec 16
  frameLock : Bool
  /-- Retrain starts (times) and the step of R279 reached; MODE was RECOVERY since the last full link reset (R283). -/
  starts    : List Nat
  rtStep    : Nat
  recov     : Bool
  /-- Neighbour: last verified node, last INCARN seen. -/
  nbr       : Option NodeId
  nbrInc    : Option (BitVec 16)
  /-- Times of the uncorrectable codewords of the last 1 ms, and the last time at which they were more than
  `MGT_STEER_CTL.UNCORR_MAX` (R381); when the link last began to show STALE (R318, R383). -/
  uncorrAt  : List Nat
  noisyAt   : Option Nat
  staleAt   : Option Nat
  probeNo   : BitVec 16
  /-- Sleep of each direction, the hold phase of duty-cycling. -/
  txSleep   : SleepState
  rxSleep   : Bool
  hold      : Bool
  holdEnded : Bool
  drainTold : Bool
  /-- Priming: step (0 to 5, 7 when not priming), consecutive failures, a re-prime; alignment, RX_DONE and REQ_DONE,
  the partner's READY frames seen on each lane in P5, READY sent, lanes on which END has come. -/
  step      : Nat
  fails     : Nat
  reprime   : Bool
  aligned   : Bool
  rxDone    : Bool
  partRdy   : Tbl Nat
  sentReady : Bool
  endSeen   : List Nat
  deriving DecidableEq, Repr

/-- Equalizer and trim codes of a lane (R316). -/
structure Equal where
  peak : Int
  gain : Int
  dfe  : List Int
  term : Int
  deriving DecidableEq, Repr

/-- What a lane's transmitter drives (R302, R310 to R312, R362): its fuse-mapped reset state, electrical idle, comma
blocks, training frames with a control block of a type, the flits of the link, the PRBS pattern, what the lane
receives. -/
inductive LineOut where
  | reset | idle | commas
  | training (ctype : Nat)
  | flits | pattern | retransmit
  deriving DecidableEq, Repr

/-- One lane (R290 to R320). -/
structure Lane where
  los      : Bool
  lol      : Bool
  /-- What its transmitter drives, and the state of its transmit scrambler (R295). -/
  sends    : LineOut
  scr      : BitVec 58
  taps     : List Int
  eq       : Equal
  /-- Tap requests of the partner: last REQ_ID acted on, outcome. -/
  reqIn    : BitVec 4
  resp     : BitVec 2
  /-- Own tap requests (R299, R301): the commands and preset of the last one, its REQ_ID, the ACK_ID and RESP that the
  partner sent last. -/
  ask      : BitVec 14
  reqOut   : BitVec 4
  ackIn    : BitVec 4
  respIn   : BitVec 2
  /-- Far-end loop: retransmitting for the partner, or confirmed by the partner. -/
  farServe : Bool
  farOk    : Bool
  /-- Capture temperature of the user calibration loaded at the last cold attempt (R318). -/
  capture  : Option Int
  /-- The LOS threshold's code loaded at the last cold attempt; none while it is the factory layer's (R307, R317). -/
  losCode  : Option Nat
  /-- Adaptation periods of 100 µs since CTLE last moved (R319). -/
  ctleAge  : Nat
  /-- The last 31 bits of the PRBS generator, the newest lowest (R309), and the end of the electrical idle that ends a
  far-end loop (R311). -/
  prbs     : BitVec 31
  idleTill : Option Nat
  deriving DecidableEq, Repr

/-- What the block has driven out of its pins, other than what its registers and buffers show. -/
inductive Out where
  | flit    (k : Nat) (bytes : List Byte)
  | line    (blocks : List LineBlock)
  | comma   (k : Nat)
  | wake    (k : Nat) (drain : Bool)
  | sleep   (k : Nat) (drain : Bool)
  | block   (n : Nat) (body : List Byte)
  | idle    (n : Nat)
  | serial  (n : Nat) (levels : List Int)
  | invert  (n : Nat)
  | fuseBus (v : Nat)
  | tdo     (v : Nat) (width : Nat)
  | session (accepted : Bool)
  | zeroBeats (port beats : Nat)
  | burstEnd (port : Nat)
  deriving DecidableEq, Repr

/-- The state of the block. The fields are the owners of R11 with what each owns; registers of the configuration
window that hold a value of their own stand in `regs` under their address (a register that is not listed holds its
reset value), and registers that show another field's value are computed when read. `pending` is the queue of waiting
commands; `draws` counts free values taken; `out` is what was driven out so far. -/
structure State where
  pending  : List Instr
  now      : Nat
  draws    : Nat
  out      : List Out
  regs     : Tbl (BitVec 64)
  /-- Configuration port: staged and captured upper words (R442), read data of the last response. -/
  staged   : Tbl Word
  captured : Tbl Word
  rdata    : Word
  evq      : List Event
  rst      : ResetUnit
  fuses    : Fuses
  shadow   : Option Fuses
  flash    : Flash
  keeper   : Keeper
  sec      : Security
  txn      : Txn
  mem      : MemPorts
  xlt      : Xlat
  imp      : Impeller
  qe       : QueueEng
  seq      : Sequencer
  router   : Router
  links    : Tbl Link
  lanes    : Tbl Lane
  deriving DecidableEq, Repr

/-- The faults of the machine. No meaning of this model faults: every command of the table has an effect the manual
gives, and a command whose event cannot occur in a state changes nothing. The reason below is kept for a repair that
finds a command the manual gives no effect; no one raises it, so it is safe. -/
inductive Fault where
  | undefinedEffect
  deriving DecidableEq, Repr

/-- The refusals of the machine. -/
inductive Refusal where
  /-- Raised by `exec` for a command that has no meaning yet, under its mnemonic. Safe: the run stops. -/
  | notModelled (mnemonic : String)
  deriving DecidableEq, Repr

/-- A bank of erased flash (R397). -/
def Bank.erased : Bank := ⟨0xFFFFFFFF, 0xFFFFFFFF, 0xFFFFFFFF, 0xFFFFFFFF, 0xFFFFFFFF, 0xFFFFFFFF, 0xFFFFFFFF, [], []⟩

/-- A keeper flash that nothing has been written to. -/
def Flash.erased : Flash := ⟨Bank.erased, Bank.erased, [], [], []⟩

/-- A fuse array in which nothing has been programmed (R362, R426). -/
def Fuses.blank : Fuses := ⟨0, 0, false, 0, 0, 0, 0, 0, 0, 0⟩

/-- The reset unit while a power-on reset is held: every island in reset, every reference input present. -/
def ResetUnit.initial : ResetUnit :=
  { porLow := true, hardLow := false, step := .held, soft := false, keeperUp := false, coreUp := false,
    unitsUp := false, tiles := 0, trip := false, hot := [], tripDue := false, refOk := 0x1FF#9, pllInput := some 0,
    sensors := ⟨[], [], []⟩, wdExpiries := [], bursts := [], stale := [] }

/-- The keeper in reset. -/
def Keeper.initial : Keeper :=
  { running := false, ring := Tbl.empty, next := 0, toCopy := [], hostBusy := false, lostNote := false, coal := [],
    bankB := false, trial := false, recovery := false, reason := 0, reverted := false, lateConf := false,
    presented := none, store := none, lastStore := none, captured := Tbl.empty, sessions := 0,
    throttle := Tbl.empty, steered := [], limits := Tbl.empty }

/-- A free partition (R322). -/
def Part.initial : Part := ⟨.free, 0, zeros 48, [], [], false⟩

/-- A closed channel (R331). -/
def Chan.initial : Chan := ⟨.closed, 0, 0, none, none, [], 0, none, [], 0, 0, 0⟩

/-- The security unit after reset (R322, R327): no partition active, no channel open, slots 4 to 511 zero. -/
def Security.initial : Security :=
  { parts := Tbl.empty, quarantine := [], keys := Tbl.empty, chans := Tbl.empty, cfgDigest := none, cfgDirect := false,
    openBit := false, opening := false, granted := false, cmdBlock := none, tapIr := Tbl.empty, cells := [] }

/-- The transaction engine after reset (R353). -/
def Txn.initial : Txn :=
  { tags := Tbl.empty, windows := Tbl.empty, held := [], heldNo := 0, fenceQ := Tbl.empty, miss := [], missNo := 0,
    sets := [], atoms := Tbl.empty, atomNo := 0, groups := Tbl.empty, groupNo := 0, stopVcs := [] }

/-- The memory ports with nothing requested. -/
def MemPorts.initial : MemPorts := ⟨[], [], Tbl.empty, Tbl.empty, 0⟩

/-- The translator after reset (R153): nothing cached, no walk, no command. -/
def Xlat.initial : Xlat := ⟨[], Tbl.empty, 0, Tbl.empty, none, 0⟩

/-- The impeller after reset (R194): every pipe free, two pipes reserved (R157), every slot empty. -/
def Impeller.initial : Impeller := ⟨Tbl.empty, [6, 7], Tbl.empty, none⟩

/-- A queue after reset (R91). -/
def Queue.initial : Queue := ⟨0, [], false, [], 0, 0, 0⟩

/-- A tile queue after reset (R118). -/
def TileQueue.initial : TileQueue := ⟨[], Tbl.empty, none⟩

/-- The queue engine after reset. -/
def QueueEng.initial : QueueEng := ⟨Tbl.empty, Tbl.empty, Tbl.empty, 0, [], [], 0, 0, 0⟩

/-- The collective sequencer after reset: no slot, no job, every expert entry invalid. -/
def Sequencer.initial : Sequencer := ⟨Tbl.empty, [], 0, 0, Tbl.empty, none⟩

/-- The router after reset. -/
def Router.initial : Router := ⟨[[], [], []], [[], [], []], [], 0, none, []⟩

/-- A link after the reset of its island (R277, R353): DOWN, with fresh sequence state (R264) and every VC at GO. -/
def Link.initial : Link :=
  { state := .down, rate := 3, width := 0, fecS := false, reach := false,
    txSeq := 0, ackIn := 0xFFF, sent := 0, relIn := 0, replay := [], carried := [], txq := [], txOut := [],
    txX := [], grants := [], waited := [0, 0, 0, 0, 0, 0, 0, 0], frame := [], blocks := 0, column := 0, rpl := none,
    rplFrom := none, rplCount := 0, dataCount := 0,
    auditDue := false, rxSeq := 0, awaiting := false, accepted := 0, relOut := 0, aud := 0, landing := [], rxPos := 0,
    rxX := [], rxPart := none, inbuf := [], stopOut := 0, stopIn := 0, toldAck := 0xFFF, toldRel := 0,
    toldStop := 0, fresh := true, rxOk := false, initsSent := 0, initSeen := false, initWord := none, partner := none,
    lresets := 0, frameLock := false, starts := [], rtStep := 0, recov := false, nbr := none, nbrInc := none,
    uncorrAt := [], noisyAt := none, staleAt := none,
    probeNo := 0, txSleep := .awake, rxSleep := false, hold := false, holdEnded := false, drainTold := false,
    step := 7, fails := 0, reprime := false, aligned := false, rxDone := false, partRdy := Tbl.empty, sentReady := false, endSeen := [] }

/-- A lane after reset: nothing detected, the taps of preset 1, equalizer codes 0. -/
def Lane.initial : Lane :=
  { los := false, lol := false, sends := .reset, scr := 0, taps := [0, 0, 64, 0, 0], eq := ⟨0, 0, [0, 0, 0], 0⟩,
    reqIn := 0, resp := 0, ask := 0, reqOut := 0, ackIn := 0, respIn := 0, farServe := false, farOk := false,
    capture := none, losCode := none, ctleAge := 10, prbs := 0, idleTill := none }

/-- The block right after reset: a power-on reset is held, so every island is in reset and every register reads its
reset value (R350, R353); fuses and flash, which no reset changes, are blank. -/
def State.reset : State :=
  { pending := [], now := 0, draws := 0, out := [], regs := Tbl.empty, staged := Tbl.empty, captured := Tbl.empty,
    rdata := 0, evq := [], rst := ResetUnit.initial, fuses := Fuses.blank, shadow := none, flash := Flash.erased,
    keeper := Keeper.initial, sec := Security.initial, txn := Txn.initial, mem := MemPorts.initial,
    xlt := Xlat.initial, imp := Impeller.initial, qe := QueueEng.initial, seq := Sequencer.initial,
    router := Router.initial, links := Tbl.empty, lanes := Tbl.empty }

end Sys2Proof.Machine
end

