-- ==== Sys2Proof/Machine/Ops.lean ====
section
/-!
DEFINITION. Machine/Ops.lean: the named operations that every meaning is built from: registers and their fields,
counters, events, free values, islands in reset.
-/

namespace Sys2Proof.Machine

/-- The outcome of a command. -/
abbrev Res := Host.Outcome State Fault Refusal

/-- Apply `f` if `c` holds; a state that a command does not concern stays as it is. -/
def onlyIf (c : Bool) (f : State → State) (s : State) : State := if c then f s else s

/-! ### Registers (R441 to R453) -/

/-- The registers of the family an address lies in. -/
def familyOf (a : Nat) : List RegDesc :=
  if a < 0x1000 then regsGEN
  else if a < 0x2000 then regsRST
  else if a < 0x3000 then regsFAB
  else if a < 0x4000 then regsXLT
  else if a < 0x5000 then regsIMP
  else if a < 0x6000 then regsSEC
  else if a < 0x7000 then regsMGT
  else if a < 0x8000 then []
  else if a < 0x28000 then regsQ
  else if a < 0x40000 then []
  else if a < 0x64000 then regsLNK
  else if a < 0x80000 then []
  else if a < 0xA4000 then regsLANE
  else []

/-- Where an address lies in a register array: instance, entry and word, if the array has that word. -/
def RegDesc.place (d : RegDesc) (a : Nat) : Option (Nat × Nat × Nat) :=
  if a < d.base then none
  else
    let o := a - d.base
    let i := o / d.s1
    let r := o % d.s1
    let j := r / d.s2
    let w := r % d.s2
    if i < d.n1 && j < d.n2 && w % 4 == 0 && w / 4 < d.words then some (i, j, w / 4) else none

/-- The register that holds the word at an address: its description, its base address and the word's number. -/
def findReg (a : Nat) : Option (RegDesc × Nat × Nat) :=
  (familyOf a).findSome? fun d => (d.place a).map fun x => (d, a - 4 * x.2.2, x.2.2)

/-- A register description's reset value. -/
def RegDesc.resetValue (d : RegDesc) : Nat := d.fields.foldl (fun v f => v + f.reset * 2 ^ f.lo) 0

/-- The reset value of the register at a base address (R441 to R453). -/
def resetValue (a : Nat) : BitVec 64 :=
  match findReg a with
  | some (d, _, _) => BitVec.ofNat 64 d.resetValue
  | none => 0

/-- The value a register holds. -/
def reg (s : State) (a : Nat) : BitVec 64 := s.regs.get a (resetValue a)

/-- A register set to a value. -/
def setReg (a : Nat) (v : BitVec 64) (s : State) : State := { s with regs := s.regs.set a v }

/-- A field of a register. -/
def fld (s : State) (a lo w : Nat) : Nat := natField (reg s a).toNat lo w

/-- One bit of a register. -/
def bit (s : State) (a i : Nat) : Bool := (reg s a).getLsbD i

/-- A value with one field replaced. -/
def withField (v : BitVec 64) (lo w x : Nat) : BitVec 64 :=
  let m := BitVec.ofNat 64 ((2 ^ w - 1) * 2 ^ lo)
  (v &&& ~~~m) ||| (BitVec.ofNat 64 (x % 2 ^ w * 2 ^ lo))

/-- A field of a register set. -/
def setFld (a lo w x : Nat) (s : State) : State := setReg a (withField (reg s a) lo w x) s

/-- A flag of a register set. -/
def raise (a i : Nat) (s : State) : State := setFld a i 1 1 s

/-- A flag of a register cleared. -/
def lower (a i : Nat) (s : State) : State := setFld a i 1 0 s

/-- A 32-bit counter advanced by `n`, modulo 2^32 (R443). -/
def bumpBy (a n : Nat) (s : State) : State := setReg a (BitVec.ofNat 64 ((fld s a 0 32 + n) % 2 ^ 32)) s

/-- A 32-bit counter advanced by one. -/
def bump (a : Nat) (s : State) : State := bumpBy a 1 s

/-- A 48-bit counter advanced by `n`, modulo 2^48 (R443). -/
def bump48 (a n : Nat) (s : State) : State := setReg a (BitVec.ofNat 64 ((fld s a 0 48 + n) % 2 ^ 48)) s

/-- A 48-bit counter that saturates (R309) advanced by `n`. -/
def bumpSat48 (a n : Nat) (s : State) : State := setReg a (BitVec.ofNat 64 (min (fld s a 0 48 + n) (2 ^ 48 - 1))) s

/-- The registers whose address meets `p` take their reset value, and what is staged or captured for them is
discarded (R353, R454). -/
def clearRegs (p : Nat → Bool) (s : State) : State :=
  { s with regs := s.regs.keep fun a => !p a, staged := s.staged.keep fun a => !p a,
           captured := s.captured.keep fun a => !p a }

/-- Key under which the admission-list entry `e` of logical port `p` is held (R242): above the configuration window. -/
def pkeyEntry (p e : Nat) : Nat := 0x100000 + 64 * p + e

/-- Addresses of the core island's registers (R353). -/
def isCoreReg (a : Nat) : Bool :=
  a < 0x1000 || (0x2000 ≤ a && a < 0x6000) || (0x8000 ≤ a && a < 0x28000) || 0x100000 ≤ a

/-- Addresses of the registers of link `k` and of its lanes. -/
def isLinkReg (k a : Nat) : Bool :=
  (0x40000 + 0x1000 * k ≤ a && a < 0x41000 + 0x1000 * k)
    || (0x80000 + 0x1000 * k ≤ a && a < 0x81000 + 0x1000 * k)

/-! ### Islands (R350, R354) -/

/-- The core island runs (step 3 of R354). -/
def coreUp (s : State) : Bool := s.rst.coreUp

/-- Queue engine, translator and impeller run (step 4 of R354). -/
def unitsUp (s : State) : Bool := s.rst.unitsUp

/-- Link tile `k` is released (step 5 of R354). -/
def tileUp (s : State) (k : Nat) : Bool := k < s.rst.tiles

/-- Keeper firmware runs. -/
def keeperRuns (s : State) : Bool := s.rst.keeperUp && s.keeper.running

/-- `GEN_CTL.MASTER_EN`. -/
def masterEn (s : State) : Bool := bit s Reg.GEN_CTL 0

/-- The own node ID (R218). -/
def ownId (s : State) : NodeId := BitVec.ofNat 8 (fld s Reg.FAB_NODE_ID 0 8)

/-- `FAB_CTL.EN`. -/
def fabEn (s : State) : Bool := bit s Reg.FAB_CTL 0

/-- `FAB_CTL.READY`. -/
def fabReady (s : State) : Bool := bit s Reg.FAB_CTL 1

/-! ### Free values, pins -/

/-- A free value, and the state in which the next one is another (assumption log 2). -/
def draw (s : State) : Nat × State := (Config.freeValue s.draws, { s with draws := s.draws + 1 })

/-- A free choice between two outcomes. -/
def choose (s : State) : Bool × State := (Config.freeValue s.draws % 2 == 1, { s with draws := s.draws + 1 })

/-- `n` free bytes. -/
def drawBytes (n : Nat) (s : State) : List Byte × State :=
  (fit n (Config.randomBytes s.draws n), { s with draws := s.draws + 1 })

/-- Something driven out of a pin (assumption log 5). -/
def drive (o : Out) (s : State) : State := { s with out := s.out ++ [o] }

/-! ### Events (R386 to R394) -/

/-- The class of each cause (R394). -/
def classOf (cause : Nat) : Nat :=
  if [0x0105].contains cause then 3
  else if [0x0104, 0x0401, 0x0601, 0x0602, 0x0603, 0x0608, 0x060A, 0x0903, 0x0904, 0x0905, 0x0907].contains cause then 0
  else if [0x0505, 0x0604, 0x0801, 0x0802, 0x0803, 0x0901, 0x0906].contains cause then 1
  else 2

/-- An event entry as it lies in the ring (R388): eight words, least significant byte first. -/
def Event.bytes (e : Event) : List Byte :=
  leBytes 4 (e.cls.toNat * 2 ^ 30 + (if e.summary then 2 ^ 29 else 0) + (if e.relayed then 2 ^ 28 else 0)
      + e.cause.toNat)
    ++ leBytes 4 (e.node.toNat + 2 ^ 8 * e.reporter.toNat + 2 ^ 16 * e.part.toNat)
    ++ leBytes 4 e.count.toNat ++ leBytes 4 e.index.toNat ++ leBytes 8 e.time.toNat ++ leBytes 8 e.data.toNat

/-- `MGT_TIME` (R388). -/
def timeNow (s : State) : BitVec 64 := BitVec.ofNat 64 s.now

/-- First-error capture (R391). -/
def captureEvent (e : Event) (s : State) : State :=
  let c := e.cls.toNat
  if bit s (Reg.GEN_FERR_VALID c) 0 then
    setReg (Reg.GEN_FERR_MORE c) (BitVec.ofNat 64 (min (fld s (Reg.GEN_FERR_MORE c) 0 32 + 1) (2 ^ 32 - 1))) s
  else
    let b := e.bytes
    setReg (Reg.GEN_FERR_VALID c) 1
      (setReg (Reg.GEN_FERR_TIME c) (timeNow s)
        (setReg (Reg.GEN_FERR_EVT3 c) (BitVec.ofNat 64 (sliceNat b 12 4))
          (setReg (Reg.GEN_FERR_EVT1 c) (BitVec.ofNat 64 (sliceNat b 4 4))
            (setReg (Reg.GEN_FERR_EVT0 c) (BitVec.ofNat 64 (sliceNat b 0 4)) s))))

/-- The event that a unit reports now. -/
def makeEvent (s : State) (cause : Nat) (node : NodeId) (part index data : Nat) : Event :=
  { cls := BitVec.ofNat 2 (classOf cause), summary := false, relayed := false, cause := BitVec.ofNat 16 cause,
    node := node, reporter := ownId s, part := BitVec.ofNat 8 part, count := 1, index := BitVec.ofNat 16 index,
    time := timeNow s, data := BitVec.ofNat 64 data }

/-- A unit posts an event (R387): first-error capture, then the queue of 256 entries, or `GEN_EVT_LOST`. While the core
island is in reset there is no queue. -/
def postEvent (cause : Nat) (node : NodeId) (part index data : Nat) (s : State) : State :=
  if coreUp s then
    let e := makeEvent s cause node part index data
    let s := captureEvent e s
    if s.evq.length < 256 then { s with evq := s.evq ++ [e] } else bump Reg.GEN_EVT_LOST s
  else s

/-- An event about the own node that names no partition. -/
def postOwn (cause index data : Nat) (s : State) : State := postEvent cause (ownId s) 0xFF index data s

/-! ### Links and lanes -/

/-- Link `k`. -/
def link (s : State) (k : Nat) : Link := s.links.get k Link.initial

/-- Link `k` replaced. -/
def setLink (k : Nat) (l : Link) (s : State) : State := { s with links := s.links.set k l }

/-- Link `k` changed by `f`. -/
def modLink (k : Nat) (f : Link → Link) (s : State) : State := setLink k (f (link s k)) s

/-- Lane `n`. -/
def lane (s : State) (n : Nat) : Lane := s.lanes.get n Lane.initial

/-- Lane `n` replaced. -/
def setLane (n : Nat) (l : Lane) (s : State) : State := { s with lanes := s.lanes.set n l }

/-- Lane `n` changed by `f`. -/
def modLane (n : Nat) (f : Lane → Lane) (s : State) : State := setLane n (f (lane s n)) s

/-- `LNK_CTL.MODE`: 0 MAINT, 1 SERVICE, 2 RECOVERY (R283). -/
def linkMode (s : State) (k : Nat) : Nat := fld s (Reg.LNK_CTL k) 8 2

/-- The neighbour that an event about link `k` names (R388): the one last verified, or the own node. -/
def linkNode (s : State) (k : Nat) : NodeId := (link s k).nbr.getD (ownId s)

/-- An event about link `k`. -/
def postLink (cause k data : Nat) (s : State) : State := postEvent cause (linkNode s k) 0xFF k data s

/-! ### Partitions -/

/-- Partition `p`. -/
def partOf (s : State) (p : Nat) : Part := s.sec.parts.get p Part.initial

/-- Partition `p` changed by `f`. -/
def modPart (p : Nat) (f : Part → Part) (s : State) : State :=
  { s with sec := { s.sec with parts := s.sec.parts.set p (f (partOf s p)) } }

/-- The ACTIVE partition that holds a key, if one does (R322). -/
def partOfKey (s : State) (k : PKey) : Option Nat :=
  (s.sec.parts.filterV fun p => p.state == .active && p.key == k).head?.map (·.1)

/-! ### Queues -/

/-- Queue `q`. -/
def queue (s : State) (q : Nat) : Queue := s.qe.queues.get q Queue.initial

/-- Queue `q` replaced. -/
def setQueue (q : Nat) (v : Queue) (s : State) : State := { s with qe := { s.qe with queues := s.qe.queues.set q v } }

/-- Queue `q` changed by `f`. -/
def modQueue (q : Nat) (f : Queue → Queue) (s : State) : State := setQueue q (f (queue s q)) s

/-- Tile queue `t`. -/
def tileQueue (s : State) (t : Nat) : TileQueue := s.qe.tqs.get t TileQueue.initial

/-- Tile queue `t` changed by `f`. -/
def modTq (t : Nat) (f : TileQueue → TileQueue) (s : State) : State :=
  { s with qe := { s.qe with tqs := s.qe.tqs.set t (f (tileQueue s t)) } }

/-- Descriptor `d`, if it is in progress. -/
def desc (s : State) (d : Nat) : Option Desc := s.qe.descs.find d

/-- Descriptor `d` replaced. -/
def setDesc (d : Nat) (v : Desc) (s : State) : State := { s with qe := { s.qe with descs := s.qe.descs.set d v } }

/-- Descriptor `d`, if it is in progress, changed by `f`. -/
def modDesc (d : Nat) (f : Desc → Desc) (s : State) : State :=
  match desc s d with
  | some v => setDesc d (f v) s
  | none => s

/-- Tag `t`, if it is not free. -/
def tagOf (s : State) (t : Nat) : Option TagSt := s.txn.tags.find t

/-- Tag `t` replaced. -/
def setTag (t : Nat) (v : TagSt) (s : State) : State := { s with txn := { s.txn with tags := s.txn.tags.set t v } }

/-- Tag `t`, if it is not free, changed by `f`. -/
def modTag (t : Nat) (f : TagSt → TagSt) (s : State) : State :=
  match tagOf s t with
  | some v => setTag t (f v) s
  | none => s

/-! ### Folding an operation over a list -/

/-- An operation applied for each element of a list, first to last. -/
def each {α : Type} (l : List α) (f : α → State → State) (s : State) : State := l.foldl (fun s a => f a s) s

end Sys2Proof.Machine
end

