-- ==== Sys2Proof/Machine/Impeller.lean ====
section
/-!
DEFINITION. Machine/Impeller.lean: chain programs, their checks, and what a pipe computes on one chunk of its source
(R159 to R193).
-/

namespace Sys2Proof.Machine

/-- One stage of a chain program (R162). -/
structure Stage where
  op    : Nat
  fmt   : Nat
  rnd   : Nat
  src   : Nat
  param : Nat
  imm   : Nat
  deriving DecidableEq, Repr

/-- A chain program (R162). -/
structure Prog where
  infmt    : Nat
  outfmt   : Nat
  fmt2     : Nat
  nstage   : Nat
  ornd     : Nat
  sat      : Bool
  flagmask : Nat
  stages   : List Stage
  table    : List Nat
  map      : List Nat
  deriving DecidableEq, Repr

/-- Stage words `s` of a program. -/
def parseStage (bs : List Byte) (s : Nat) : Stage :=
  let w := sliceNat bs (16 + 8 * s) 4
  { op := natField w 0 8, fmt := natField w 8 4, rnd := natField w 12 2, src := natField w 14 2,
    param := natField w 16 16, imm := sliceNat bs (20 + 8 * s) 4 }

/-- A program read from its 256 bytes; stages beyond NSTAGE are dropped. -/
def parseProg (bs : List Byte) : Prog :=
  let w := sliceNat bs 0 4
  let n := natField w 12 4
  { infmt := natField w 0 4, outfmt := natField w 4 4, fmt2 := natField w 8 4, nstage := n, ornd := natField w 16 2,
    sat := w.testBit 18, flagmask := natField (sliceNat bs 4 4) 0 4,
    stages := (List.range (min n 8)).map (parseStage bs),
    table := (List.range 16).map fun i => sliceNat bs (80 + 2 * i) 2,
    map := (List.range 64).map fun j => sliceNat bs (112 + j) 1 % 64 }

/-- Stages whose operation is arithmetic on two operands. -/
def isBinary (op : Nat) : Bool := 0x10 ≤ op && op ≤ 0x14

/-- A grouped stage. -/
def Stage.grouped (s : Stage) : Bool := s.op == 0x03 || s.op == 0x04

/-- Elements of a group: the G of a grouped stage's PARAM. -/
def Stage.group (s : Stage) : Nat := 32 * 2 ^ (s.param % 4)

/-- A stage's result format, given its input format. -/
def Stage.outFmt (s : Stage) (f : Nat) : Nat := if s.fmt = 15 then f else s.fmt

/-- Formats entering each stage, and the format the last stage gives. -/
def Prog.formats (p : Prog) : List Nat × Nat :=
  p.stages.foldl (fun (acc : List Nat × Nat) s => (acc.1 ++ [acc.2], s.outFmt acc.2)) ([], p.infmt)

/-- The chain starts with EXPAND_GRP. -/
def Prog.startsGrouped (p : Prog) : Bool := match p.stages with | s :: _ => s.op == 0x03 | [] => false

/-- The chain ends in QUANT. -/
def Prog.endsQuant (p : Prog) : Bool := match p.stages.getLast? with | some s => s.op == 0x04 | none => false

/-- G of the chain's grouped stage, if it has one. -/
def Prog.groupSize (p : Prog) : Option Nat := (p.stages.find? Stage.grouped).map Stage.group

/-- The chain has a stage that takes the second stream. -/
def Prog.usesSecond (p : Prog) : Bool := p.stages.any fun s => s.src == 2

/-! ### Checks at load (R164 to R167) -/

/-- Cause 0x1: a reserved field, or a stage word beyond NSTAGE, is nonzero; RND of a QUANT stage (R173). -/
def badReserved (bs : List Byte) : Bool :=
  let w := sliceNat bs 0 4
  let n := natField w 12 4
  natField w 19 13 != 0 || natField (sliceNat bs 4 4) 4 28 != 0 || sliceNat bs 8 8 != 0
    || ((slice bs 112 64).any fun b => 64 ≤ b.toNat) || !allZero (slice bs 176 80)
    || ((List.range 8).any fun s => n ≤ s && !allZero (slice bs (16 + 8 * s) 8))
    || ((List.range (min n 8)).any fun s => (parseStage bs s).op == 0x04 && (parseStage bs s).rnd != 0)

/-- The operations of R167. -/
def knownOp (op : Nat) : Bool :=
  [0x01, 0x02, 0x03, 0x04, 0x10, 0x11, 0x12, 0x13, 0x14, 0x15, 0x16, 0x20, 0x21, 0x22, 0x23, 0x30].contains op

/-- A PARAM value that R167 reserves for its operation. -/
def badParam (s : Stage) (f : Nat) : Bool :=
  if s.op = 0x03 || s.op = 0x04 then 2 < s.param
  else if s.op = 0x21 then 31 < s.param || natField s.param 2 2 == 0
  else if s.op = 0x22 then 1 < s.param
  else if s.op = 0x23 then 3 < s.param || (s.param == 2) || (f == 6 && s.param != 3)
  else if s.op = 0x30 then 15 < s.param || 4 < s.param % 8
  else s.param != 0

/-- A format code that R159 reserves. -/
def reservedFmt (f : Nat) : Bool := 8 ≤ f && f ≤ 14

/-- Cause 0x2. -/
def badCode (bs : List Byte) : Bool :=
  let p := parseProg bs
  reservedFmt p.infmt || reservedFmt p.outfmt || reservedFmt p.fmt2
    || ((p.stages.zip p.formats.1).any fun x =>
      !knownOp x.1.op || reservedFmt x.1.fmt || x.1.src == 3 || badParam x.1 x.2)

/-- A stage's input format, FMT and SRC are allowed for its operation (R167). Model's choice: of an UNPACK whose PARAM
does not suit its input, PARAM 3 with an input that is no integer gives cause 0x3, and an INT4 input with another PARAM
gives cause 0x2, where the manual says 0x3 or 0x2 (assumption log 26). -/
def stageAllowed (p : Prog) (s : Stage) (f : Nat) : Bool :=
  let arith : Bool :=
    (isFloat f && ([0, 1, 2].contains s.fmt || (s.fmt == 15 && [0, 1, 2].contains f)))
      || ((f == 5 || f == 7) && (s.fmt == 7 || (s.fmt == 15 && f == 7)))
  let any4 : Bool := isFmt f && f != 6
  if s.op = 0x01 then any4 && isFmt s.fmt && s.fmt != 6 && s.src == 0
  else if s.op = 0x02 then f == 6 && (s.fmt == 0 || s.fmt == 1) && s.src == 0
  else if s.op = 0x03 then [3, 4, 5, 6].contains f && [0, 1, 2].contains s.fmt && s.src == 0
  else if s.op = 0x04 then [0, 1, 2].contains f && [3, 4, 5].contains s.fmt && s.src == 0
  else if isBinary s.op then
    arith && (s.src == 1 || (s.src == 2 && (isFloat p.fmt2 == isFloat f) && isFmt p.fmt2 && p.fmt2 != 6))
  else if s.op = 0x15 || s.op = 0x16 then arith && s.src == 0
  else if s.op = 0x20 || s.op = 0x21 then any4 && s.fmt == 15 && s.src == 0
  else if s.op = 0x22 then
    s.src == 0 && (((f == 0 || f == 7) && [1, 2].contains s.fmt) || ([1, 2].contains f && [3, 4, 5].contains s.fmt))
  else if s.op = 0x23 then
    s.src == 0 && ((f == 6 && s.fmt == 5) || ([3, 4, 5].contains f && [1, 2].contains s.fmt)
        || ([1, 2].contains f && [0, 7].contains s.fmt))
      && (!s.param.testBit 1 || isInt f)
  else if s.op = 0x30 then
    any4 && s.fmt == 15 && (s.src == 0 || (s.src == 1 && s.param % 8 != 0)) && (s.param % 8 != 4 || isInt f)
  else false

/-- Cause 0x3. -/
def badFormat (bs : List Byte) : Bool :=
  let p := parseProg bs
  p.outfmt == 6 || p.outfmt == 15 || p.fmt2 == 6 || p.fmt2 == 15 || p.infmt == 15
    || (p.fmt2 != 0 && !p.usesSecond)
    || ((p.stages.zip p.formats.1).any fun x => !stageAllowed p x.1 x.2)

/-- Cause 0x4: the placement rules of R165. -/
def badPlacement (bs : List Byte) : Bool :=
  let p := parseProg bs
  let atMostOne (f : Stage → Bool) : Bool := (p.stages.filter f).length ≤ 1
  (p.stages.drop 1).any (fun s => s.op == 0x02 || s.op == 0x03)
    || (p.infmt == 6 && (match p.stages with | s :: _ => !(([0x02, 0x03, 0x23] : List Nat).contains s.op) | [] => true))
    || p.stages.dropLast.any (fun s => s.op == 0x04)
    || (match p.stages.getLast? with | some s => s.op == 0x04 && s.fmt != p.outfmt | none => false)
    || !atMostOne (fun s => s.op == 0x20) || !atMostOne (fun s => s.op == 0x30) || !atMostOne (fun s => s.src == 2)
    || (p.startsGrouped && p.endsQuant)

/-- The cause with which a program is refused, 0 if it is valid (R164). -/
def progCause (bs : List Byte) : Nat :=
  if badReserved bs then 1
  else if badCode bs then 2
  else if badFormat bs then 3
  else if badPlacement bs then 4
  else if 8 < natField (sliceNat bs 0 4) 12 4 then 5
  else 0

/-! ### Lengths (R186, R187) -/

/-- Bytes of parameter lines for `n` elements in groups of `g`. -/
def paramBytes (n g : Nat) : Nat := 64 * ceilDiv n (16 * g)

/-- Source bytes of `n` elements (R186). -/
def Prog.srcBytes (p : Prog) (n : Nat) : Nat :=
  n * fmtBits p.infmt / 8 + (if p.startsGrouped then paramBytes n (p.groupSize.getD 32) else 0)

/-- Output bytes of `n` elements: OUTLEN (R187). -/
def Prog.outBytes (p : Prog) (n : Nat) : Nat :=
  n * fmtBytes p.outfmt + (if p.endsQuant then paramBytes n (p.groupSize.getD 32) else 0)

/-- N, the element count of a source of `len` bytes, if it meets R186. For a chain that starts with EXPAND_GRP the
count is the one whose source length is `len`; whole superblocks come first, then the rest after its parameter line. -/
def Prog.count (p : Prog) (len : Nat) : Option Nat :=
  let b := fmtBits p.infmt
  let g := p.groupSize.getD 1
  let ok (n : Nat) : Bool := 0 < n && n % 64 == 0 && n % g == 0 && p.srcBytes n == len
  if b = 0 then none
  else if p.startsGrouped then
    let sb := 16 * g * b / 8 + 64
    let n := len / sb * (16 * g) + (len % sb - 64) * 8 / b
    if ok n then some n else none
  else
    let n := len * 8 / b
    if len * 8 % b == 0 && ok n then some n else none

/-! ### Elements in a pipe -/

/-- An element in a pipe: its code and whether it is derived from poisoned data (R193). -/
structure Elem where
  code : Nat
  bad  : Bool
  deriving DecidableEq, Repr

/-- Bytes read as elements of a format; INT4 packs two in a byte, the lower index in the low half (R159). -/
def toElems (fmt : Nat) (bs : List PByte) : List Elem :=
  if fmt = 6 then bs.flatMap fun b => [⟨b.b.toNat % 16, b.p⟩, ⟨b.b.toNat / 16, b.p⟩]
  else
    let n := fmtBytes fmt
    if n = 0 then []
    else (List.range (bs.length / n)).map fun i =>
      let w := (bs.drop (n * i)).take n
      ⟨leNat (w.map (·.b)), w.any (·.p)⟩

/-- Elements written as bytes, least significant byte first. -/
def ofElems (fmt : Nat) (es : List Elem) : List PByte :=
  es.flatMap fun e => (leBytes (fmtBytes fmt) e.code).map fun b => ⟨b, e.bad⟩

/-- A list cut into pieces of `n`, the last one shorter. -/
def pieces {α : Type} (n : Nat) : Nat → List α → List (List α)
  | 0, _ => []
  | fuel + 1, l => if l.isEmpty || n = 0 then [] else l.take n :: pieces n fuel (l.drop n)

/-- A list cut into pieces of `n`. -/
def cutEvery {α : Type} (n : Nat) (l : List α) : List (List α) := pieces n l.length l

/-- The poison marks of a part of a stream spread over its 512 B windows (R193); the part begins at byte `off`. -/
def spreadWindows (off : Nat) (bs : List PByte) : List PByte :=
  let first := 512 - off % 512
  (bs.take first :: cutEvery 512 (bs.drop first)).flatMap fun w => let p := w.any (·.p); w.map fun b => ⟨b.b, p⟩

/-- The rounding of a stage (R185). -/
def Prog.rounding (p : Prog) (s : Stage) (last : Bool) (out : Nat) : Rnd :=
  let code := if s.rnd = 0 then (if last && out == p.outfmt then (if p.ornd = 0 then 1 else p.ornd) else 3) else s.rnd
  if code = 1 then .rne else if code = 2 then .rtz else .rto

/-- The rounding of the output conversion (R185). -/
def Prog.outRounding (p : Prog) : Rnd := if p.ornd = 2 then .rtz else if p.ornd = 3 then .rto else .rne

/-- The floating-point result of an arithmetic operation before rounding (R167, R168). -/
def floatOp (op : Nat) (x b : Val) : Val × Flags :=
  if op = 0x10 then x.add b
  else if op = 0x11 then x.add b.neg
  else if op = 0x12 then x.mul b
  else if op = 0x13 then x.min b
  else if op = 0x14 then x.max b
  else if op = 0x15 then (x.abs, 0)
  else (x.neg, 0)

/-- The integer result of an arithmetic operation, modulo 2^32 (R169). -/
def intOp (op : Nat) (x b : Int) : Nat :=
  codeOf 32
    (if op = 0x10 then x + b
    else if op = 0x11 then x - b
    else if op = 0x12 then x * b
    else if op = 0x13 then min x b
    else if op = 0x14 then max x b
    else if op = 0x15 then x.natAbs
    else -x)

/-- One element through ADD to NEG. `b` is the second operand's code in its own format. -/
def arithElem (p : Prog) (s : Stage) (m : Rnd) (f out : Nat) (x : Nat) (bf b : Nat) : Nat × Flags :=
  if isFloat f then
    let (v, fl) := floatOp s.op (decodeElem f x) (decodeElem bf b)
    let (c, fl') := roundTo out m p.sat v
    (c, fl ||| fl')
  else (intOp s.op (signedOf (fmtBits f) x) (signedOf (fmtBits bf) b), 0)

/-- Elements mapped one by one, with the flags they raise. -/
def mapElems (f : Elem → Nat × Flags) (es : List Elem) : List Elem × Flags :=
  es.foldr (fun e acc => let r := f e; (⟨r.1, e.bad⟩ :: acc.1, r.2 ||| acc.2)) ([], 0)

/-- Elements paired with those of a second stream. -/
def zipElems (f : Nat → Nat → Nat × Flags) : List Elem → List Elem → List Elem × Flags
  | a :: as, b :: bs =>
    let r := f a.code b.code
    let t := zipElems f as bs
    (⟨r.1, a.bad || b.bad⟩ :: t.1, r.2 ||| t.2)
  | _, _ => ([], 0)

/-- EXPAND_GRP: one superblock, its element data and its parameter line (R172, R174). -/
def expandBlock (p : Prog) (s : Stage) (m : Rnd) (f : Nat) (block : List PByte) : List Elem × Flags :=
  let g := s.group
  let params := block.drop (block.length - 64)
  let es := toElems f (block.take (block.length - 64))
  let grouped := (cutEvery g es).zip (List.range 16)
  grouped.foldr
    (fun x acc =>
      let rec_ := (params.drop (4 * x.2)).take 4
      let sc := decodeElem 1 (leNat (rec_.map (·.b)) % 2 ^ 16)
      let z := decodeElem 5 (natField (leNat (rec_.map (·.b))) 16 8)
      let bad := rec_.any (·.p)
      let r := mapElems
        (fun e =>
          let v := decodeElem f e.code
          let (y, fl) := (v.add z.neg).1.mul sc
          let nv := if v = .nan || sc = .nan then flagNV else 0
          let (c, fl') := roundTo s.fmt m p.sat y
          (c, fl ||| fl' ||| nv)) x.1
      ((r.1.map fun e => ⟨e.code, e.bad || bad⟩) ++ acc.1, r.2 ||| acc.2))
    ([], 0)

/-- EXPAND_GRP over a chunk: superblocks of 16 groups, each followed by its parameter line (R172). -/
def expandGrp (p : Prog) (s : Stage) (m : Rnd) (f : Nat) (bs : List PByte) : List Elem × Flags :=
  let sb := 16 * s.group * fmtBits f / 8 + 64
  (cutEvery sb bs).foldr
    (fun blk acc => let r := expandBlock p s m f blk; (r.1 ++ acc.1, r.2 ||| acc.2)) ([], 0)

/-- Q of QUANT for an output format (R173). -/
def quantMax (fmt : Nat) : Nat := if fmt = 3 then 448 else if fmt = 4 then 57344 else 127

/-- The quotient of a finite value and a positive finite value. -/
def Val.quot : Val → Val → Val
  | .fin s n d e, .fin _ n' d' e' => .fin s (n * d') (d * n') (e - e')
  | v, _ => v

/-- QUANT of one group (R173): the scale's code, the elements' codes, the flags. -/
def quantGroup (fmt : Nat) (f : Nat) (es : List Elem) : Nat × List Elem × Flags :=
  let vals := es.map fun e => decodeElem f e.code
  let a := vals.foldl
    (fun (acc : Val) (v : Val) => match v with | .fin .. => if acc.lt v.abs then v.abs else acc | _ => acc)
    (.fin false 0 1 0)
  let q : Val := .fin false (quantMax fmt) 1 0
  let (sc, fl) := match a with
    | .fin _ 0 _ _ => (0x3F80, 0)
    | v =>
      let (c, fl) := roundTo 1 .rne false (v.quot q)
      if c = 0 then (0x0001, flagUF ||| flagNX) else (c, fl)
  let sv := decodeElem 1 sc
  let r := mapElems
    (fun e =>
      match decodeElem f e.code with
      | .nan => (if isFloat fmt then (roundTo fmt .rne true .nan).1 else 0, flagNV)
      | .inf neg => ((roundTo fmt .rne true (.fin neg (quantMax fmt) 1 0)).1, flagOF)
      | .fin neg n d x =>
        let v := (Val.fin neg n d x).quot sv
        if q.lt v.abs then ((roundTo fmt .rne true (.fin neg (quantMax fmt) 1 0)).1, flagNX)
        else roundTo fmt .rne true v) es
  (sc, r.1, fl ||| r.2)

/-- QUANT of a chunk (R172, R173): superblocks of element data followed by a parameter line. -/
def quantAll (fmt g f : Nat) (es : List Elem) : List PByte × Flags :=
  (cutEvery (16 * g) es).foldr
    (fun blk acc =>
      let qs := (cutEvery g blk).map (quantGroup fmt f)
      let data := qs.flatMap fun q => ofElems fmt q.2.1
      let line := qs.flatMap fun q =>
        let bad := q.2.1.any (·.bad)
        (leBytes 4 q.1).map fun b => (⟨b, bad⟩ : PByte)
      let pad := List.replicate (64 - line.length) (⟨0, false⟩ : PByte)
      (data ++ line ++ pad ++ acc.1, qs.foldl (fun x q => x ||| q.2.2) acc.2))
    ([], 0)

/-- PERMUTE of one window (R177): derived bytes make the whole window derived (R193). -/
def permuteWindow (map : List Nat) (w : List PByte) : List PByte :=
  let n := w.length / 8
  let bad := w.any (·.p)
  (List.range n).flatMap fun j =>
    let src := map.getD j 0
    if src < n then ((w.drop (8 * src)).take 8).map fun b => ⟨b.b, bad⟩
    else List.replicate 8 ⟨0, bad⟩

/-- SHUFFLE of one window (R178). -/
def shuffleWindow (param : Nat) (w : List PByte) : List PByte :=
  let e := 2 ^ (param % 4)
  let k := 2 ^ natField param 2 2
  let n := w.length / e
  let bad := w.any (·.p)
  (List.range n).flatMap fun i =>
    let src := if param.testBit 4 then (i % (n / k)) * k + i / (n / k) else (i % k) * (n / k) + i / k
    ((w.drop (e * src)).take e).map fun b => ⟨b.b, bad⟩

/-- PACK: the kept half of an element (R167, R179). -/
def packElem (out param x : Nat) : Nat := if param.testBit 0 then x % 2 ^ fmtBits out else x / 2 ^ fmtBits out

/-- UNPACK: an element placed in one half of an element twice as wide (R179). -/
def unpackElem (f param x : Nat) : Nat :=
  let w := fmtBits f
  if param.testBit 0 then
    (if param.testBit 1 then codeOf (2 * w) (signedOf w x) else x)
  else x * 2 ^ w

/-- Whether an element meets an EXIT stage's condition (R180). -/
def exitMeets (s : Stage) (f x : Nat) : Bool :=
  let v := decodeElem f x
  let imm := if isFloat f then decodeElem 0 s.imm else decodeElem 7 s.imm
  let c := s.param % 8
  if c = 0 then (match v with | .fin .. => false | _ => true)
  else if c = 1 then v.abs.ge imm
  else if c = 2 then v.ge imm
  else if c = 3 then imm.ge v
  else if c = 4 then v.ge imm && imm.ge v
  else false

/-- What a pipe holds while a chunk passes it: the elements, their format, the flags raised, the window of this chunk
on which EXIT fired, and whether a STOP cut the stream. -/
structure Pipe where
  es    : List Elem
  fmt   : Nat
  flags : Flags
  fired : Option Nat
  stop  : Bool
  deriving DecidableEq, Repr

/-- The elements of a stream rebuilt from bytes. -/
def Pipe.viaBytes (f : List PByte → List PByte) (x : Pipe) : Pipe :=
  { x with es := toElems x.fmt ((cutEvery 512 (ofElems x.fmt x.es)).flatMap f) }

/-- EXIT: the test on each 512 B window; STOP passes the firing window and nothing after it (R180, R181). -/
def exitStage (s : Stage) (armed : Bool) (x : Pipe) : Pipe :=
  let n := 512 / fmtBytes x.fmt
  let ws := cutEvery n x.es
  match if armed then ws.findIdx? (fun w => w.any fun e => exitMeets s x.fmt e.code) else none with
  | none => x
  | some i =>
    if s.param.testBit 3 then { x with es := x.es.take (n * (i + 1)), fired := some i, stop := true }
    else { x with fired := some i }

/-- One stage other than EXPAND_GRP and QUANT (R167). -/
def runStage (p : Prog) (s : Stage) (last armed : Bool) (second : List Elem) (x : Pipe) : Pipe :=
  let out := s.outFmt x.fmt
  let m := p.rounding s last out
  let put (r : List Elem × Flags) : Pipe := { x with es := r.1, fmt := out, flags := x.flags ||| r.2 }
  if s.op = 0x01 then put (mapElems (fun e => roundTo out m p.sat (decodeElem x.fmt e.code)) x.es)
  else if s.op = 0x02 then
    put (mapElems
      (fun e =>
        let v := decodeElem 1 (p.table.getD e.code 0)
        ((roundTo out m p.sat v).1, if v = .nan then flagNV else 0)) x.es)
  else if s.op = 0x15 || s.op = 0x16 then
    put (mapElems (fun e => arithElem p s m x.fmt out e.code x.fmt e.code) x.es)
  else if isBinary s.op then
    if s.src = 2 then put (zipElems (fun a b => arithElem p s m x.fmt out a p.fmt2 b) x.es second)
    else put (mapElems (fun e => arithElem p s m x.fmt out e.code (if isFloat x.fmt then 0 else 7) s.imm) x.es)
  else if s.op = 0x20 then x.viaBytes (permuteWindow p.map)
  else if s.op = 0x21 then x.viaBytes (shuffleWindow s.param)
  else if s.op = 0x22 then put (x.es.map (fun e => ⟨packElem out s.param e.code, e.bad⟩), 0)
  else if s.op = 0x23 then put (x.es.map (fun e => ⟨unpackElem x.fmt s.param e.code, e.bad⟩), 0)
  else if s.op = 0x30 then exitStage s armed x
  else x

/-- The stages of a chain in turn, up to a final QUANT. -/
def runStages (p : Prog) (armed : Bool) (second : List Elem) : List Stage → Pipe → Pipe
  | [], x => x
  | s :: rest, x => if s.op = 0x04 then x else runStages p armed second rest (runStage p s rest.isEmpty armed second x)

/-- What a pipe makes of one chunk: output bytes, flags, the element index at which EXIT's window starts in the chunk,
and whether a STOP cut the stream. `armed` says whether the EXIT test may still fire. -/
structure PipeOut where
  bytes : List PByte
  flags : Flags
  fired : Option Nat
  stop  : Bool
  deriving DecidableEq, Repr

/-- A part of the source, starting where every stage starts afresh, through a pipe (R167 to R193). `off` and `off2` are
the places of its first bytes in the two streams. -/
def runPipe (p : Prog) (armed : Bool) (off off2 : Nat) (source second : List PByte) : PipeOut :=
  let src := spreadWindows off source
  let es2 := toElems p.fmt2 (spreadWindows off2 second)
  let start : Pipe := match p.stages with
    | s :: _ =>
      if s.op = 0x03 then
        let r := expandGrp p s (p.rounding s (p.stages.length == 1) s.fmt) p.infmt src
        ⟨r.1, s.fmt, r.2, none, false⟩
      else ⟨toElems p.infmt src, p.infmt, 0, none, false⟩
    | [] => ⟨toElems p.infmt src, p.infmt, 0, none, false⟩
  let start := if p.usesSecond then { start with es := start.es.take es2.length } else start
  let stages := if p.startsGrouped then p.stages.drop 1 else p.stages
  let x := runStages p armed es2 stages start
  if p.endsQuant then
    let r := quantAll p.outfmt (p.groupSize.getD 32) x.fmt x.es
    ⟨r.1, x.flags ||| r.2, x.fired, x.stop⟩
  else if x.fmt = p.outfmt && !p.stages.isEmpty then ⟨ofElems p.outfmt x.es, x.flags, x.fired, x.stop⟩
  else
    let r := mapElems (fun e => roundTo p.outfmt p.outRounding p.sat (decodeElem x.fmt e.code)) x.es
    ⟨ofElems p.outfmt r.1, x.flags ||| r.2, x.fired, x.stop⟩

/-- Elements of a chunk: every stage starts afresh at its end, and for grouped input so does a 512 B window. -/
def Prog.chunk (p : Prog) : Nat := if p.startsGrouped then 16384 else 2048

/-- Elements of the largest 512 B window of the chain's PERMUTE, SHUFFLE and EXIT stages, each at its own input (R175). -/
def Prog.window (p : Prog) : Nat :=
  (p.stages.zip p.formats.1).foldl
    (fun n x => if [0x20, 0x21, 0x30].contains x.1.op then max n (512 / fmtBytes x.2) else n)
    (if p.infmt = 6 then 2 else 1)

/-- Every stage starts afresh at each multiple of this number of elements: a superblock, and a window of every stage that
has one (R46). All these numbers are powers of two. -/
def Prog.restart (p : Prog) : Nat := max p.window (match p.groupSize with | some g => 16 * g | none => 1)

/-- Elements of a superblock of EXPAND_GRP, which needs all of one to expand any of it (R172); 1 for another chain. -/
def Prog.sourceUnit (p : Prog) : Nat := if p.startsGrouped then 16 * p.groupSize.getD 32 else 1

/-- A pipe that gets no more input passes on the output of whole multiples of this number of elements: windows, and the
groups that QUANT completes (R141, R192, R194). -/
def Prog.passUnit (p : Prog) : Nat := max p.window (if p.endsQuant then p.groupSize.getD 32 else 1)

/-- Of a part of `n` elements, those that the pipe gets from the first `len` bytes of their source; a last superblock that
is not full comes whole or not at all. -/
def Prog.elemsIn (p : Prog) (n len : Nat) : Nat :=
  if p.srcBytes n ≤ len then n
  else if p.startsGrouped then len / p.srcBytes p.sourceUnit * p.sourceUnit
  else len * 8 / fmtBits p.infmt

/-- Of a part of `n` elements, those whose output the pipe passes on when it gets the first `len` bytes of their source
and the first `len2` bytes of their second stream, before a block that faults (R141, R194). -/
def Prog.passedBy (p : Prog) (n len len2 : Nat) : Nat :=
  let k := min (p.elemsIn n len) (if p.usesSecond then len2 / fmtBytes p.fmt2 else n)
  k / p.passUnit * p.passUnit

/-- The elements of the source that `k` elements need: whole superblocks for a chain that starts with EXPAND_GRP. -/
def Prog.wholeSource (p : Prog) (k : Nat) : Nat := ceilDiv k p.sourceUnit * p.sourceUnit

/-- The output bytes of `n` elements that end before the stream does: the last superblock of a QUANT, if it is not full,
has no parameter line (R173, R192). -/
def Prog.outBefore (p : Prog) (n : Nat) : Nat :=
  n * fmtBytes p.outfmt + (if p.endsQuant then 64 * (n / (16 * p.groupSize.getD 32)) else 0)

/-- Bytes of an element as it enters the EXIT stage. -/
def Prog.exitBytes (p : Prog) : Nat :=
  match (p.stages.zip p.formats.1).find? (fun x => x.1.op == 0x30) with
  | some x => fmtBytes x.2
  | none => 1

end Sys2Proof.Machine
end

