-- ==== Sys2Proof/Machine/Operands.lean ====
section
/-!
DEFINITION. Machine/Operands.lean: packets (R24 to R30) and descriptors (R99 to R105, R195): their fields, what a packet
touches, and the checks that need no translation.
-/

namespace Sys2Proof.Machine

/-! ### Packets -/

/-- Packet types (R27, R201, R393). -/
abbrev tRD : BitVec 6 := 0x01
abbrev tRDR : BitVec 6 := 0x02
abbrev tGRD : BitVec 6 := 0x03
abbrev tWR : BitVec 6 := 0x08
abbrev tMSG : BitVec 6 := 0x09
abbrev tATOM : BitVec 6 := 0x0C
abbrev tATOMR : BitVec 6 := 0x0D
abbrev tVACC : BitVec 6 := 0x0E
abbrev tLACK : BitVec 6 := 0x10
abbrev tCJOIN : BitVec 6 := 0x20
abbrev tCDATA : BitVec 6 := 0x21
abbrev tCABORT : BitVec 6 := 0x22
abbrev tEDSP : BitVec 6 := 0x24
abbrev tECMB : BitVec 6 := 0x25
abbrev tETALLY : BitVec 6 := 0x26
abbrev tPWR : BitVec 6 := 0x28
abbrev tPRD : BitVec 6 := 0x29
abbrev tPRDR : BitVec 6 := 0x2A
abbrev tMEVT : BitVec 6 := 0x30
abbrev tHELLO : BitVec 6 := 0x38
abbrev tDRAIN : BitVec 6 := 0x39
abbrev tPROBE : BitVec 6 := 0x3A
abbrev tPROBER : BitVec 6 := 0x3B

/-- The types that some table of the manual lists. -/
def listedType (t : BitVec 6) : Bool :=
  [tRD, tRDR, tGRD, tWR, tMSG, tATOM, tATOMR, tVACC, tLACK, tCJOIN, tCDATA, tCABORT, tEDSP, tECMB, tETALLY, tPWR, tPRD,
    tPRDR, tMEVT, tHELLO, tDRAIN, tPROBE, tPROBER].contains t

/-- Status codes (R64). -/
abbrev stOK : Byte := 0x00
abbrev stPARTIAL : Byte := 0x01
abbrev stXLT : Byte := 0x02
abbrev stACCESS : Byte := 0x03
abbrev stALIGN : Byte := 0x04
abbrev stBADOP : Byte := 0x05
abbrev stWINFAULT : Byte := 0x06
abbrev stHOLDTMO : Byte := 0x07
abbrev stHOLDFULL : Byte := 0x08
abbrev stWINRESET : Byte := 0x09
abbrev stPOISONED : Byte := 0x0A
abbrev stSUMP : Byte := 0x0B
abbrev stTIMEOUT : Byte := 0x0C
abbrev stLOCAL : Byte := 0x0D
abbrev stDISABLED : Byte := 0x0E
abbrev stCANCELLED : Byte := 0x0F

/-- The order of R65, first to last. -/
def statusOrder : List Byte :=
  [stDISABLED, stCANCELLED, stSUMP, stTIMEOUT, stLOCAL, stBADOP, stACCESS, stALIGN, stXLT, stWINFAULT, stWINRESET,
    stHOLDFULL, stHOLDTMO, stPOISONED]

/-- The status that R65 reports for the statuses with which an operation's parts ended. Model's choice: a status that R64
reserves, 0x10 to 0xFF, or a PARTIAL in an answer, is ranked nowhere, so it leaves OK where nothing else ended
differently (assumption log 47). -/
def worst (l : List Byte) : Byte := (statusOrder.find? fun x => l.contains x).getD stOK

/-- A packet with every field 0 (R25). -/
def blankPacket : Packet :=
  { ptype := 0, ff := false, sealed := false, epoch := false, mcast := false, poison := false, scope := 0, vc := 0,
    pkey := 0, src := 0, dst := 0, seq := 0, tag := 0, win := 0, addr := 0, len := 0, expect := 0, chan := 0, subop := 0,
    aux := 0, status := 0, prior := 0, payload := [], trailer := none, abt := false }

/-- Write-class types (R27, R201). -/
def writeClass (t : BitVec 6) : Bool := [tWR, tMSG, tATOM, tVACC, tPWR].contains t

/-- Width in bytes of an ATOM (R51); 32 for the reserved code. -/
def atomWidth (p : Packet) : Nat := 4 * 2 ^ natField p.subop.toNat 1 2

/-- OP of an ATOM (R51). -/
def atomOp (p : Packet) : Nat := natField p.subop.toNat 3 4

/-- FETCH of an ATOM (R51). -/
def atomFetch (p : Packet) : Bool := p.ptype == tATOM && p.subop.getLsbD 7

/-- Bytes that a request covers at the target (R30). -/
def covered (p : Packet) : Nat := if p.ptype = tATOM then atomWidth p else p.len.toNat

/-- Lines that `len` bytes from an address touch. -/
def touched (addr len : Nat) : Nat := if len = 0 then 0 else (addr + len - 1) / 64 - addr / 64 + 1

/-- Lines that a packet counts as (R30). -/
def packetLines (p : Packet) : Nat := if p.ptype = tATOM then 1 else touched p.addr.toNat (covered p)

/-- The element that a write-class packet's lines count in: its own for WR, else 0 (R26). -/
def linesElem (p : Packet) : Nat := if p.ptype = tWR then p.aux.toNat % 16 else 0

/-- A packet crosses an aligned 2,048 B block (R30). -/
def crosses (p : Packet) : Bool :=
  0 < covered p && (p.addr.toNat + covered p - 1) / 2048 != p.addr.toNat / 2048

/-- MCAST is allowed on a type (R28). -/
def mcastAllowed (t : BitVec 6) : Bool := t == tWR || t == tVACC || (0x20 ≤ t.toNat && t.toNat < 0x30)

/-- The check of a request at its target that needs no translation (R28, R30, R32, R52, R55): the failing status. The
manual orders the checks for a GRD alone (R32). Model's choice: an ATOM or VACC that fails several answers BAD_OP for its
SUBOP, its MCAST or an ATOM's LEN before ALIGN, and ALIGN before a crossing (assumption log 47). -/
def requestFault (p : Packet) : Option Byte :=
  let a := p.addr.toNat
  if p.ptype = tGRD then
    if a % 4 != 0 then some stALIGN
    else if p.mcast || p.len != 0 || p.expect.toNat < 4 || 65536 < p.expect.toNat || p.expect.toNat % 4 != 0 then
      some stBADOP
    else none
  else if p.mcast && !mcastAllowed p.ptype then some stBADOP
  else if p.ptype = tATOM then
    if p.len != 32 || natField p.subop.toNat 1 2 == 3 || 12 < atomOp p then some stBADOP
    else if a % atomWidth p != 0 then some stALIGN
    else none
  else if p.ptype = tVACC then
    if 3 < natField p.subop.toNat 4 4 then some stBADOP
    else if a % 64 != 0 || p.len.toNat % 64 != 0 || p.len = 0 || 2048 < p.len.toNat then some stALIGN
    else if crosses p then some stBADOP
    else none
  else if (p.ptype == tMSG && !p.ff) || p.len = 0 || 2048 < p.len.toNat || crosses p then some stBADOP
  else none

/-- The permission that a request needs at its target (R145). -/
def requestPerm (p : Packet) : Nat :=
  if [tRD, tGRD, tPRD].contains p.ptype then 2 else if [tATOM, tVACC].contains p.ptype then 4 else 3

/-- The 4 KiB blocks that a request touches: the address at which each is entered, and its bytes there (R128). -/
def blocksOf : Nat → Nat → Nat → List (Nat × Nat)
  | 0, _, _ => []
  | fuel + 1, va, len =>
    if len = 0 then []
    else
      let n := min len (4096 - va % 4096)
      (va, n) :: blocksOf fuel (va + n) (len - n)

/-- The 4 KiB blocks that `len` bytes from `va` touch. -/
def blocks4k (va len : Nat) : List (Nat × Nat) := blocksOf (len / 4096 + 2) va len

/-- The header of an answer to a request: own node to its source, same key and tag, sealed as the request (R335), on
VC7 if the request arrived there (R29). -/
def answerTo (s : State) (p : Packet) : Packet :=
  { blankPacket with src := ownId s, dst := p.src, pkey := p.pkey, tag := p.tag, vc := if p.vc = 7 then 7 else 3,
                     sealed := p.sealed, chan := if p.sealed then p.chan else 0 }

/-- The unit that takes a packet from its ejection port (R11): 0 transaction engine, 1 collective sequencer, 2 relay. -/
def unitOf (t : BitVec 6) : Nat :=
  if t = tMEVT then 2
  else if [tCJOIN, tCDATA, tCABORT, tEDSP, tECMB, tETALLY].contains t then 1
  else 0

/-- The packets at the ejection port of a packet's unit. -/
def ejectedAt (s : State) (t : BitVec 6) : List Packet := s.router.ejected.getD (unitOf t) []

/-- A packet enters the ejection port of its unit. -/
def putEjected (p : Packet) (s : State) : State :=
  { s with router := { s.router with
      ejected := s.router.ejected.mapIdx fun i q => if i = unitOf p.ptype then q ++ [p] else q } }

/-- A packet leaves the ejection port of its unit. -/
def takeEjected (p : Packet) (s : State) : State :=
  { s with router := { s.router with
      ejected := s.router.ejected.mapIdx fun i q => if i = unitOf p.ptype then q.erase p else q } }

/-- A packet handed to one of the local injection ports: 0 transaction engine, 1 collective sequencer, 2 relay. -/
def inject (unit : Nat) (p : Packet) (s : State) : State :=
  { s with router := { s.router with inject := s.router.inject.mapIdx fun i q => if i = unit then q ++ [p] else q } }

/-- A response of a load (R31, R32). -/
def sendRdr (p : Packet) (status : Byte) (seq aux : BitVec 16) (len : Nat) (data : List PByte) (s : State) : State :=
  let prd := p.ptype == tPRD
  inject 0 { (answerTo s p) with
    ptype := if prd then tPRDR else tRDR, seq := seq, aux := aux, len := BitVec.ofNat 12 len, status := status,
    addr := if prd then p.addr else 0, poison := data.any (·.p), payload := data.map (·.b) } s

/-- The failing answer of a load: no payload (R31, R32). Model's choice: the one RDR that answers a failed GRD carries SEQ
0 and LEN 0, which the manual does not give (assumption log 47). -/
def failLoad (p : Packet) (status : Byte) (s : State) : State :=
  if p.ptype = tGRD then sendRdr p status 0 (p.aux &&& 0xF) 0 [] s
  else sendRdr p status p.seq 0 p.len.toNat [] s

/-- An ATOMR (R54). -/
def sendAtomr (p : Packet) (status : Byte) (old : List Byte) (poison : Bool) (s : State) : State :=
  inject 0 { (answerTo s p) with
    ptype := tATOMR, seq := p.seq, aux := 0, len := 16, status := status, poison := poison, payload := fit 16 old } s

/-! ### Descriptors -/

/-- Word `i` of a descriptor (R99). -/
def dword (b : BitVec 512) (i : Nat) : Nat := natField b.toNat (32 * i) 32

/-- A field of a word of a descriptor. -/
def dfld (b : BitVec 512) (i lo w : Nat) : Nat := natField (dword b i) lo w

/-- OPCODE. -/
def opcode (b : BitVec 512) : Nat := dfld b 0 0 8

/-- Opcodes (R100). -/
abbrev opREAD : Nat := 0x01
abbrev opWRITE : Nat := 0x02
abbrev opGATHER : Nat := 0x03
abbrev opSCATTER : Nat := 0x04
abbrev opATOMIC : Nat := 0x05
abbrev opVACC : Nat := 0x06
abbrev opMESSAGE : Nat := 0x07
abbrev opFILL : Nat := 0x08
abbrev opNOP : Nat := 0x0F
abbrev opALLREDUCE : Nat := 0x20
abbrev opREDSCAT : Nat := 0x21
abbrev opALLGATHER : Nat := 0x22
abbrev opBROADCAST : Nat := 0x23
abbrev opDISPATCH : Nat := 0x24
abbrev opCOMBINE : Nat := 0x25
abbrev opPARK : Nat := 0x28
abbrev opRESUME : Nat := 0x29

/-- The opcodes of R100. -/
def knownOpcode (o : Nat) : Bool :=
  [1, 2, 3, 4, 5, 6, 7, 8, 0x0F, 0x20, 0x21, 0x22, 0x23, 0x24, 0x25, 0x28, 0x29].contains o

/-- The opcodes of the transfer format (R101). -/
def transferFormat (o : Nat) : Bool := [opREAD, opWRITE, opVACC, opMESSAGE, opFILL].contains o

/-- The opcodes of the collective format (R195). -/
def collFormat (o : Nat) : Bool := 0x20 ≤ o

/-- A flag of word 0 (R99). -/
def dflag (b : BitVec 512) (i : Nat) : Bool := (dword b 0).testBit i

/-- DST. -/
def dDst (b : BitVec 512) : Nat := dfld b 0 24 8
/-- CGRP. -/
def dGroup (b : BitVec 512) : Nat := dfld b 0 16 6
/-- CG_EN. -/
def dCgEn (b : BitVec 512) : Bool := dflag b 14
/-- MCAST. -/
def dMcast (b : BitVec 512) : Bool := dflag b 13
/-- SEAL. -/
def dSeal (b : BitVec 512) : Bool := dflag b 11
/-- PRIO. -/
def dPrio (b : BitVec 512) : Bool := dflag b 10
/-- FENCE. -/
def dFence (b : BitVec 512) : Bool := dflag b 9
/-- FF. -/
def dFf (b : BitVec 512) : Bool := dflag b 8
/-- LADDR (R101, R103, R195). -/
def dLaddr (b : BitVec 512) : Nat := dword b 2 + 2 ^ 32 * dfld b 3 0 20
/-- The field of STREAM. -/
def dStream (b : BitVec 512) : Nat := dfld b 3 20 6
/-- STREAM, for the formats that have one: a NOP has none, and an ATOMIC has COMPARE in its place (R104, R105). -/
def dStream? (b : BitVec 512) : Option Nat := if opcode b = opATOMIC || opcode b = opNOP then none else some (dStream b)
/-- RADDR (R101, R104); XADDR of the collective format. -/
def dRaddr (b : BitVec 512) : Nat := dword b 4 + 2 ^ 32 * dfld b 5 0 20
/-- WIN. -/
def dWin (b : BitVec 512) : Nat := dfld b 5 20 12
/-- LEN. -/
def dLen (b : BitVec 512) : Nat := dword b 6 + 2 ^ 32 * dfld b 7 0 8
/-- SUBOP; DIMMASK of the collective format. -/
def dSubop (b : BitVec 512) : Nat := dfld b 7 24 8
/-- CHAN. -/
def dChan (b : BitVec 512) : Nat := dfld b 7 16 8
/-- CHAIN_EN. -/
def dChainEn (b : BitVec 512) : Bool := (dword b 7).testBit 14
/-- CHAIN. -/
def dChain (b : BitVec 512) : Nat := dfld b 7 8 6
/-- EXPECT. -/
def dExpect (b : BitVec 512) : Nat := dword b 8
/-- LADDR2, or ELIST of the element format. -/
def dLaddr2 (b : BitVec 512) : Nat := dword b 11 + 2 ^ 32 * dfld b 12 0 20
/-- NELEM (R103). -/
def dNelem (b : BitVec 512) : Nat := dfld b 9 0 5
/-- YADDR (R195). -/
def dYaddr (b : BitVec 512) : Nat := dword b 10 + 2 ^ 32 * dfld b 11 0 20
/-- ZADDR (R195). -/
def dZaddr (b : BitVec 512) : Nat := dword b 12 + 2 ^ 32 * dfld b 13 0 20
/-- CID, TOPK, ROOT, FMT, NROW, NTOK and ROWLEN (R195). -/
def dCid (b : BitVec 512) : Nat := dfld b 9 20 12
/-- TOPK. -/
def dTopk (b : BitVec 512) : Nat := dfld b 9 16 4
/-- ROOT. -/
def dRoot (b : BitVec 512) : Nat := dfld b 9 8 8
/-- FMT. -/
def dFmt (b : BitVec 512) : Nat := dfld b 9 4 4
/-- NROW. -/
def dNrow (b : BitVec 512) : Nat := dfld b 14 16 16
/-- NTOK. -/
def dNtok (b : BitVec 512) : Nat := dfld b 14 0 16
/-- ROWLEN. -/
def dRowlen (b : BitVec 512) : Nat := dfld b 15 0 11

/-- A descriptor's OPCODE is an atomic with FETCH (R51, R107). -/
def dFetch (b : BitVec 512) : Bool := opcode b == opATOMIC && (dSubop b).testBit 7

/-- The node that a descriptor's requests go to: DST, or ROOT for PARK and RESUME. -/
def dTarget (b : BitVec 512) : Nat := if collFormat (opcode b) then dRoot b else dDst b

/-- Bits that R99 to R105 and R195 reserve, or give as 0 for the opcode, as pairs of word and mask. -/
def zeroMasks (o : Nat) : List (Nat × Nat) :=
  let w0 : List (Nat × Nat) := [(0, 0x8000)]
  if o = opNOP then w0 ++ (List.range 14).map fun i => (i + 2, 0xFFFFFFFF)
  else if transferFormat o then w0 ++ [(3, 0xFC000000), (7, 0x8000), (12, 0xFFF00000), (13, 0xFFFFFFFF),
    (14, 0xFFFFFFFF), (15, 0xFFFFFFFF)]
    ++ (if o = opFILL then [] else [(9, 0xFFFFFFFF), (10, 0xFFFFFFFF)])
    ++ (if o = opVACC || o = opMESSAGE then [] else [(7, 0xFF000000)])
  else if o = opGATHER || o = opSCATTER then w0 ++ [(3, 0xFC000000), (4, 0xFFFFFFFF), (5, 0x000FFFFF),
    (6, 0xFFFFFFFF), (7, 0xFF00FFFF), (9, 0xFFFFFFE0), (10, 0xFFFFFFFF), (12, 0xFFF00000), (13, 0xFFFFFFFF),
    (14, 0xFFFFFFFF), (15, 0xFFFFFFFF)]
  else if o = opATOMIC then w0 ++ [(6, 0xFFFFFFFF), (7, 0x0000FFFF), (15, 0xFFFFFFFF)]
  else w0 ++ [(3, 0xFC000000), (7, 0x8000), (9, 0xF), (11, 0xFFF00000), (13, 0xFFF00000), (15, 0xFFFFF800)]

/-- A reserved field, or one that its opcode or flags give as 0, is nonzero (R106): SCOPE outside ATOMIC, VACC and
COMBINE; CHAN with SEAL 0; CHAIN with CHAIN_EN 0 is no such field. -/
def reservedSet (b : BitVec 512) : Bool :=
  let o := opcode b
  (zeroMasks o).any (fun m => dword b m.1 &&& m.2 != 0)
    || (dfld b 0 22 2 != 0 && o != opATOMIC && o != opVACC && o != opCOMBINE)
    || (o != opNOP && !dSeal b && dChan b != 0)

end Sys2Proof.Machine
end

