-- ==== Sys2Proof/Machine/MemPort.lean ====
section
/-!
DEFINITION. Machine/MemPort.lean: the requests of the memory ports (R411 to R417) and the reads and writes of many
lines that they make up.
-/

namespace Sys2Proof.Machine

/-- The port of a physical address (R417). -/
def portOf (pa : Nat) : Nat := natField pa 8 4 ^^^ natField pa 12 4 ^^^ natField pa 16 4 ^^^ natField pa 20 4

/-- A physical extent cut at every 256 B boundary, so that each piece is one request of at most four lines (R412). -/
def extents : Nat → Nat → Nat → List (Nat × Nat)
  | 0, _, _ => []
  | fuel + 1, pa, len =>
    if len = 0 then []
    else
      let n := min len (256 - pa % 256)
      (pa, n) :: extents fuel (pa + n) (len - n)

/-- The requests of an extent. -/
def cutExtent (pa len : Nat) : List (Nat × Nat) := extents (len / 256 + 2) pa len

/-- Lines that `len` bytes from `pa` touch. -/
def linesOf (pa len : Nat) : Nat := if len = 0 then 0 else (pa + len - 1) / 64 - pa / 64 + 1

/-- The requests of a read of some extents, in order, as part of a job. -/
def readReqs (job : Nat) (lock : Bool) (xs : List Extent) : List MemReq :=
  let cuts := xs.flatMap fun x => (cutExtent x.pa x.len).map fun c => (c, x.mattr)
  cuts.mapIdx fun i c =>
    { port := portOf c.1.1, id := 0, write := false, line := c.1.1 / 64, nline := linesOf c.1.1 c.1.2, mattr := c.2,
      lock := lock, job := job, idx := i, walk := false, data := [], drop := false }

/-- The parts that those requests bring. -/
def readParts (xs : List Extent) : List RdPart :=
  xs.flatMap fun x => (cutExtent x.pa x.len).map fun c => ⟨c.1 % 64, c.2, none⟩

/-- Ask for a read of some extents for `what`; `order` puts its requests in the order in which they are to go out, and
they wait for their ports. -/
def readOrdered (order : List MemReq → List MemReq) (what : RdWhat) (xs : List Extent) (lock : Bool)
    (user : Option (Nat × Nat)) (s : State) : State :=
  let job := s.mem.jobNo
  { s with mem := { s.mem with queue := s.mem.queue ++ order (readReqs job lock xs), jobNo := job + 1,
                               rjobs := s.mem.rjobs.set job ⟨what, readParts xs, user⟩ } }

/-- Ask for a read of some extents, in order, for `what`; the requests wait for their ports. -/
def readMem (what : RdWhat) (xs : List Extent) (lock : Bool) (user : Option (Nat × Nat)) (s : State) : State :=
  readOrdered (fun l => l) what xs lock user s

/-- One part of a write: the physical address of its first byte, its memory attribute, and its bytes, `none` where the
byte enable is 0. -/
structure Store where
  pa    : Nat
  mattr : Nat
  bytes : List (Option PByte)
  deriving DecidableEq, Repr

/-- The requests of a write of some extents, as part of a job. -/
def writeReqs (job : Nat) (lock : Bool) (xs : List Store) : List MemReq :=
  xs.flatMap fun x => (cutExtent x.pa x.bytes.length).map fun c =>
    { port := portOf c.1, id := 0, write := true, line := c.1 / 64, nline := linesOf c.1 c.2, mattr := x.mattr,
      lock := lock, job := job, idx := 0, walk := false,
      data := List.replicate (c.1 % 64) none ++ (x.bytes.drop (c.1 - x.pa)).take c.2, drop := false }

/-- The requests of a write that carry a poisoned line. -/
def poisonedWrites (xs : List Store) : Nat :=
  ((writeReqs 0 false xs).filter fun r => r.data.any fun b => (b.map (·.p)).getD false).length

/-- Ask for a write of some extents for `what`; the requests wait for their ports. -/
def writeMem (what : WrWhat) (xs : List Store) (lock : Bool) (user : Option (Nat × Nat)) (s : State) : State :=
  let job := s.mem.jobNo
  let reqs := writeReqs job lock xs
  { s with mem := { s.mem with queue := s.mem.queue ++ reqs, jobNo := job + 1,
                               wjobs := s.mem.wjobs.set job ⟨what, reqs.length, 0, 0, user⟩ } }

/-- Bytes with every enable set. -/
def allBytes (bs : List PByte) : List (Option PByte) := bs.map some

/-- Clean bytes. -/
def clean (bs : List Byte) : List PByte := bs.map fun b => ⟨b, false⟩

/-- A walk's read cut as little as R412 allows: it is one request unless it passes a 1 KiB boundary or, where its list
is not aligned to a line, touches a fifth line (R133). -/
def walkCuts (pa len : Nat) : List (Nat × Nat) :=
  let n := min len (min (256 - pa % 64) (1024 - pa % 1024))
  (pa, n) :: (if n < len then [(pa + n, len - n)] else [])

/-- Ask for one of the reads of a walk. -/
def readWalk (w pa len : Nat) (s : State) : State :=
  let cuts := walkCuts pa len
  let reqs := cuts.mapIdx fun i c =>
    ({ port := portOf c.1, id := 0, write := false, line := c.1 / 64, nline := linesOf c.1 c.2, mattr := 0,
       lock := false, job := w, idx := i, walk := true, data := [], drop := false } : MemReq)
  { s with mem := { s.mem with queue := s.mem.queue ++ reqs },
           xlt := { s.xlt with walks := match s.xlt.walks.find w with
             | some v => s.xlt.walks.set w { v with parts := cuts.map fun c => ⟨c.1 % 64, c.2, none⟩ }
             | none => s.xlt.walks } }

/-- The lines a request covers. -/
def MemReq.covers (r : MemReq) (l : Nat) : Bool := r.line ≤ l && l < r.line + r.nline

/-- A request of the atomic unit. -/
def isAtomicReq (s : State) (r : MemReq) : Bool :=
  !r.walk && (if r.write then (match s.mem.wjobs.find r.job with | some ⟨.atomic _, _, _, _, _⟩ => true | _ => false)
    else (match s.mem.rjobs.find r.job with | some ⟨.atomic _, _, _⟩ => true | _ => false))

/-- An operation of the atomic unit bars a request: a plain write waits for an operation in progress on its line (R85),
and any request waits for a locked pair on its line (R415). -/
def barred (s : State) (r : MemReq) : Bool :=
  !isAtomicReq s r && s.txn.atoms.values.any fun o =>
    0 < o.stage && r.covers (o.pa / 64) && (r.write || 2 ≤ o.packet.scope.toNat)

/-- A request may go out: its port has fewer than 2,048 of its kind outstanding (R412) and nothing bars it. -/
def canIssue (s : State) (r : MemReq) : Bool :=
  (s.mem.out.filter fun o => o.port == r.port && o.write == r.write).length < 2048 && !barred s r

/-- One waiting request goes out under the lowest identifier that its port does not use (R412), or waits on. -/
def issueOne (s : State) (r : MemReq) : State :=
  if canIssue s r then
    let used := (s.mem.out.filter fun o => o.port == r.port).map (·.id.toNat)
    { s with mem := { s.mem with out := s.mem.out ++ [{ r with id := BitVec.ofNat 12 (leastNotIn used) }] } }
  else { s with mem := { s.mem with queue := s.mem.queue ++ [r] } }

/-- Every waiting request that may go out does (none while master enable is 0, R119). -/
def issueAll (s : State) : State :=
  if coreUp s && masterEn s then s.mem.queue.foldl issueOne { s with mem := { s.mem with queue := [] } } else s

/-- The outstanding request that a response names. -/
def findReq (s : State) (port id : Nat) (write walk : Bool) : Option MemReq :=
  s.mem.out.find? fun r => r.port == port && r.id.toNat == id && r.write == write && r.walk == walk

/-- An outstanding request that has been answered. -/
def dropReq (r : MemReq) (s : State) : State :=
  { s with mem := { s.mem with out := s.mem.out.filter fun o => o != r } }

/-- The bytes of a beat with their indications: `RD_ERR` poisons every line (R414). -/
def beatBytes (b : Beat) : List PByte := b.data.mapIdx fun i x => ⟨x, b.err || b.poison.getLsbD (i / 64)⟩

/-- A part filled from a beat. -/
def RdPart.fill (p : RdPart) (b : Beat) : RdPart := { p with data := some (((beatBytes b).drop p.skip).take p.len) }

/-- The bytes of a read whose every part has returned. -/
def partsData : List RdPart → Option (List PByte)
  | [] => some []
  | p :: ps => match p.data, partsData ps with
    | some d, some r => some (d ++ r)
    | _, _ => none

/-- The memory ports are held off by the surroundings (R21): 256 requests wait for a port. Model's choice: the number
(assumption log 7). -/
def memBacked (s : State) : Bool := 256 ≤ s.mem.queue.length

/-- The result of a read response: the finished job and its data, if it was the job's last. -/
def readReturn (r : MemReq) (b : Beat) (s : State) : Option (RdJob × List PByte) × State :=
  let s := dropReq r s
  match s.mem.rjobs.find r.job with
  | none => (none, s)
  | some j =>
    let ps := j.parts.mapIdx fun i p => if i = r.idx then p.fill b else p
    match partsData ps with
    | some d => (some (j, d), { s with mem := { s.mem with rjobs := s.mem.rjobs.erase r.job } })
    | none => (none, { s with mem := { s.mem with rjobs := s.mem.rjobs.set r.job { j with parts := ps } } })

/-- The bytes that a write request stores. -/
def MemReq.stored (r : MemReq) : Nat := (r.data.filter (·.isSome)).length

/-- A response is gathered into its write: one request less is left, and an error makes that request's lines bad
(R414). -/
def WrJob.answered (j : WrJob) (r : MemReq) (err : Bool) : WrJob :=
  if err then { j with left := j.left - 1, badLines := j.badLines + r.nline, badBytes := j.badBytes + r.stored }
  else { j with left := j.left - 1 }

/-- The result of a write response: the job with its error gathered, and whether that was its last request. -/
def writeReturn (r : MemReq) (err : Bool) (s : State) : Option (WrJob × Bool) × State :=
  let s := dropReq r s
  match s.mem.wjobs.find r.job with
  | none => (none, s)
  | some j =>
    let j := j.answered r err
    if j.left = 0 then (some (j, true), { s with mem := { s.mem with wjobs := s.mem.wjobs.erase r.job } })
    else (some (j, false), { s with mem := { s.mem with wjobs := s.mem.wjobs.set r.job j } })

/-- A request is part of a read job. -/
def MemReq.reads (r : MemReq) (job : Nat) : Bool := !r.write && !r.walk && r.job == job

/-- The descriptor that a read is for. -/
def RdWhat.owner : RdWhat → Option Nat
  | .source d _ => some d
  | .resend d _ => some d
  | .elist d => some d
  | .coll d _ => some d
  | .gone o => o
  | _ => none

/-- A read that nothing waits for any more. -/
def RdWhat.isGone : RdWhat → Bool
  | .gone _ => true
  | _ => false

/-- The reads that meet `p` are given up: those still waiting for a port are withdrawn. A job with a read outstanding
stays until the last of them has returned, since it still uses its translation (R149); `keepUser` says for which that
is so (R152). -/
def giveUpReads (p : Nat → RdJob → Bool) (keepUser : RdJob → Bool) (s : State) : State :=
  let gone := (s.mem.rjobs.entries.filter fun e => p e.1 e.2).map (·.1)
  let left : Nat → Bool := fun k => s.mem.out.any fun r => r.reads k
  let ended (j : RdJob) : RdJob := { j with what := .gone j.what.owner, user := if keepUser j then j.user else none }
  { s with mem := { s.mem with
      rjobs := ⟨(s.mem.rjobs.entries.filter fun e => !gone.contains e.1 || left e.1).map
        fun e => if gone.contains e.1 then (e.1, ended e.2) else e⟩
      queue := s.mem.queue.filter fun r => r.write || r.walk || !gone.contains r.job } }

/-- A read is for descriptor `d`, which still waits for it. -/
def RdWhat.ofDesc (d : Nat) (w : RdWhat) : Bool := !w.isGone && w.owner == some d

/-- Reads that descriptor `d` has given up and whose data has not all returned. -/
def goneReads (s : State) (d : Nat) : Bool := s.mem.rjobs.values.any fun j => j.what == .gone (some d)

/-- The data of every outstanding read that meets `p` is dropped on return and counted (R119). -/
def dropOnReturn (p : MemReq → Bool) (s : State) : State :=
  { s with mem := { s.mem with out := s.mem.out.map fun r => if !r.write && p r then { r with drop := true } else r } }

/-- A given-up read whose last request has returned is over. -/
def reapRead (job : Nat) (s : State) : State :=
  match s.mem.rjobs.find job with
  | some j =>
    if j.what.isGone && s.mem.out.all (fun r => !r.reads job) then
      { s with mem := { s.mem with rjobs := s.mem.rjobs.erase job } }
    else s
  | none => s

/-- The local writes that meet `p` and wait for a port are withdrawn (R119); a write of which nothing is left is over.
Answers the writes that are over. -/
def withdrawWrites (p : WrJob → Bool) (s : State) : List WrJob × State :=
  let gone := (s.mem.wjobs.filterV p).map (·.1)
  let mine : MemReq → Bool := fun r => r.write && gone.contains r.job
  let left : Nat → Nat := fun k => (s.mem.out.filter fun r => r.write && r.job == k).length
  ((s.mem.wjobs.entries.filter fun e => gone.contains e.1 && left e.1 = 0).map (·.2),
    { s with mem := { s.mem with
        queue := s.mem.queue.filter fun r => !mine r
        wjobs := ⟨(s.mem.wjobs.entries.filter fun e => !gone.contains e.1 || left e.1 != 0).map
          fun e => if gone.contains e.1 then (e.1, { e.2 with left := left e.1 }) else e⟩ } })

/-! ### Responses to requests issued before a reset (R360) -/

/-- The outstanding requests as a reset leaves them behind. -/
def staleOf (m : MemPorts) : List StaleReq := m.out.map fun r =>
  ⟨r.port, r.id, r.job, if r.write || r.walk then none else (m.rjobs.find r.job).bind fun j => match j.what with
    | .whole (.image true) => none
    | .whole w => some w
    | _ => none⟩

/-- A request issued before a reset has been answered: discarded and counted (R360). -/
def staleReturn (port : Nat) (id : BitVec 12) (s : State) : State :=
  match s.rst.stale.find? fun x => x.port == port && x.id == id with
  | some x => bump Reg.RST_MEM_DROP { s with rst := { s.rst with stale := s.rst.stale.erase x } }
  | none => s

/-- The data that one command brings whole comes for a read begun before a reset: every response of that read is
discarded and counted (R360). -/
def staleWhole (p : Whole → Bool) (s : State) : State :=
  match s.rst.stale.find? fun x => (x.whole.map p).getD false with
  | some x =>
    let mine (y : StaleReq) : Bool := y.whole == x.whole && y.job == x.job
    bumpBy Reg.RST_MEM_DROP (s.rst.stale.filter mine).length
      { s with rst := { s.rst with stale := s.rst.stale.filter fun y => !mine y } }
  | none => s

/-- A read that one command brings whole returns: `f` while the core island runs; in a reset its data is discarded. -/
def wholeCommand (p : Whole → Bool) (f : State → State) (s : State) : State := if coreUp s then f s else staleWhole p s

/-! ### Reads whose data one command brings whole -/

/-- Ask for a read of `len` bytes from a physical address, without translation and with MATTR 0 (R92, R416). -/
def askWhole (w : Whole) (pa len : Nat) (s : State) : State := readMem (.whole w) [⟨pa, len, 0⟩] false none s

/-- A read of a kind that meets `p` is under way. -/
def wholeBusy (p : Whole → Bool) (s : State) : Bool :=
  s.mem.rjobs.values.any fun j => match j.what with | .whole w => p w | _ => false

/-- The oldest read of a kind that meets `p`, its job number, and the requests of it that are outstanding. -/
def findWhole (p : Whole → Bool) (s : State) : Option (Nat × Whole × List MemReq) :=
  s.mem.rjobs.entries.findSome? fun e => match e.2.what with
    | .whole w => if p w then some (e.1, w, s.mem.out.filter fun r => r.reads e.1) else none
    | _ => none

/-- The whole data of a read that meets `p` returns, once every request of it has been issued: its requests are
answered. Answers the read and whether its data is to be dropped, which is counted for each request (R119). -/
def wholeBack (p : Whole → Bool) (s : State) : Option (Whole × Bool) × State :=
  match findWhole p s with
  | none => (none, s)
  | some (job, w, rs) =>
    if s.mem.queue.any (fun r => r.reads job) then (none, s)
    else
      let dropped := (rs.filter fun r => r.drop).length
      (some (w, 0 < dropped), onlyIf (0 < dropped) (bumpBy Reg.GEN_MEM_DROP dropped) { s with mem := { s.mem with
        out := s.mem.out.filter fun r => !r.reads job, rjobs := s.mem.rjobs.erase job } })

end Sys2Proof.Machine
end

