-- ==== Sys2Proof/Machine/Translate.lean ====
section
/-!
DEFINITION. Machine/Translate.lean: range entries, the range cache, lookups and the walk search (R126 to R146).
-/

namespace Sys2Proof.Machine

/-- Permission bits of a range entry (R129): LR, LW, RR, RW, RA. -/
abbrev permLR : Nat := 0
abbrev permLW : Nat := 1
abbrev permRR : Nat := 2
abbrev permRW : Nat := 3
abbrev permRA : Nat := 4

/-- A range entry as a walk reads it (R129). -/
structure RangeEntry where
  valid  : Bool
  clean  : Bool
  vstart : Nat
  len    : Nat
  pstart : Nat
  perms  : BitVec 5
  mattr  : Nat
  deriving DecidableEq, Repr

/-- A range entry read from its 32 bytes (R129). `clean` says that no reserved bit is set and that neither extent
passes its address space (R130). -/
def parseEntry (bs : List Byte) : RangeEntry :=
  let w (i : Nat) : Nat := sliceNat bs (4 * i) 4
  let vstart := natField (w 0) 12 20 * 2 ^ 12 + natField (w 1) 0 20 * 2 ^ 32
  let pstart := natField (w 2) 12 20 * 2 ^ 12 + natField (w 3) 0 16 * 2 ^ 32
  let len := (w 4 + natField (w 5) 0 2 * 2 ^ 32 + 1) * 4096
  { valid := (w 0).testBit 0
    clean := natField (w 0) 1 11 == 0 && natField (w 1) 20 12 == 0 && natField (w 2) 0 12 == 0
      && natField (w 3) 16 16 == 0 && natField (w 5) 2 6 == 0 && natField (w 5) 13 3 == 0
      && natField (w 5) 20 12 == 0 && w 6 == 0 && w 7 == 0 && vstart + len ≤ 2 ^ 52 && pstart + len ≤ 2 ^ 48
    vstart := vstart, len := len, pstart := pstart
    perms := BitVec.ofNat 5 (natField (w 5) 8 5), mattr := natField (w 5) 16 4 }

/-- The entry's virtual extent covers an address. -/
def RangeEntry.covers (e : RangeEntry) (va : Nat) : Bool := e.vstart ≤ va && va < e.vstart + e.len

/-- The 1 GiB block of an address. -/
def gib (va : Nat) : Nat := va / 2 ^ 30

/-- The fragment of an entry that lies in the block of an address (R135). -/
def RangeEntry.fragment (e : RangeEntry) (part va : Nat) (fresh : Bool) (stamp : Nat) : Frag :=
  let lo := max e.vstart (gib va * 2 ^ 30)
  { part := part, blk := gib va, lo := lo, hi := min (e.vstart + e.len) ((gib va + 1) * 2 ^ 30),
    pa := e.pstart + (lo - e.vstart), perms := e.perms, mattr := e.mattr, fresh := fresh, used := stamp }

/-- The set of a fragment (R135). -/
def setOf (part blk : Nat) : Nat := Config.cacheSet part blk 256 % 256

/-- The fragment that goes when a set of 16 is full: the least recently used of those not fresh, else of the fresh. -/
def victim (fs : List Frag) : Option Frag :=
  let old (l : List Frag) : Option Frag :=
    l.foldl (fun b f => match b with | none => some f | some g => if f.used < g.used then some f else some g) none
  match fs.filter (fun f => !f.fresh) with
  | [] => old fs
  | l => old l

/-- A fragment installed from a completed walk (R135, R136). -/
def install (f : Frag) (s : State) : State :=
  let rest := s.xlt.frags.filter fun g => !(g.part == f.part && g.blk == f.blk && g.lo == f.lo)
  let same := rest.filter fun g => setOf g.part g.blk == setOf f.part f.blk
  let rest := if same.length < 16 then rest
    else match victim same with
      | some v => rest.filter fun g => g != v
      | none => rest
  { s with xlt := { s.xlt with frags := rest ++ [f], stamp := s.xlt.stamp + 1 } }

/-- `XLT_DIR_BASE.EN` of a partition. -/
def dirEn (s : State) (part : Nat) : Bool := bit s (Reg.XLT_DIR_BASE part) 0

/-- The cached fragment that covers an address. -/
def findFrag (s : State) (part va : Nat) : Option Frag :=
  s.xlt.frags.find? fun f => f.part == part && f.lo ≤ va && va < f.hi

/-- What a lookup gives: a fragment and the physical address; no entry, without a walk, because the directory is not
enabled (R126); or a miss. -/
inductive Look where
  | hit (f : Frag) (pa : Nat)
  | absent
  | miss
  deriving DecidableEq, Repr

/-- A lookup that leaves the cache as it is. -/
def peek (s : State) (part va : Nat) : Look :=
  if !dirEn s part || 2 ^ 52 ≤ va then .absent
  else match findFrag s part va with
    | some f => .hit f (f.pa + (va - f.lo))
    | none => .miss

/-- Two fragments are the same part of the same block of a partition. -/
def Frag.same (f g : Frag) : Bool := f.part == g.part && f.blk == g.blk && f.lo == g.lo

/-- A hit marks its fragment used, and counts if the windlass had brought it and nothing has used it yet (R135,
R144). -/
def touch (f : Frag) (s : State) : State :=
  let s := if s.xlt.frags.any fun g => g.same f && g.fresh then bump Reg.XLT_PF_HIT_CNT s else s
  { s with xlt := { s.xlt with
      stamp := s.xlt.stamp + 1
      frags := s.xlt.frags.map fun g => if g.same f then { g with fresh := false, used := s.xlt.stamp } else g } }

/-- The translation generation of a partition (R149). -/
def genOf (s : State) (part : Nat) : Nat := s.xlt.gens.get part 0

/-- Report a translation fault (R146): `op` is the packet TYPE or the OPCODE, `src` the source node at a target. -/
def reportFault (target : Bool) (part va op : Nat) (src : NodeId) (s : State) : State :=
  let s := bump Reg.XLT_FAULT_CNT s
  let s := postEvent (if target then 0x0303 else 0x0304) (if target then src else ownId s) part op va s
  if bit s Reg.XLT_FAULT_STATUS 0 then s
  else
    raise Reg.XLT_FAULT_STATUS 0 (setReg Reg.XLT_FAULT_VA (BitVec.ofNat 64 va)
      (setReg Reg.XLT_FAULT_INFO
        (BitVec.ofNat 64 (part + (if target then 2 ^ 7 else 0) + 2 ^ 8 * op + (if target then 2 ^ 16 * src.toNat else 0)))
        s))

/-! ### Walks (R133 to R139) -/

/-- A walk as it begins. -/
def Walk.new (kind : WalkKind) (part va perm : Nat) (ws : List Missed) : Walk :=
  { kind := kind, part := part, va := va, perm := perm, active := false, list := 0, count := 0, lo := 0,
    hi := 0, blocks := Tbl.empty, cur := none, parts := [], waiters := ws }

/-- The physical base of a partition's directory. -/
def dirBase (s : State) (part : Nat) : Nat := fld s (Reg.XLT_DIR_BASE part) 16 32 * 2 ^ 16

/-- Walk `w` replaced. -/
def setWalk (w : Nat) (v : Walk) (s : State) : State := { s with xlt := { s.xlt with walks := s.xlt.walks.set w v } }

/-- A walk takes a handler and reads its directory slot's line (R133). -/
def beginWalk (w : Nat) (v : Walk) (s : State) : State :=
  let s := setWalk w { v with active := true, blocks := Tbl.empty, cur := none, parts := [] } s
  readWalk w ((dirBase s v.part + 16 * (v.va / 2 ^ 40)) / 64 * 64) 64 s

/-- A target's packet waits. -/
def Waiter.isTarget : Waiter → Bool
  | .pkt _ _ => true
  | _ => false

/-- A target-side lookup waits on the walk, so it belongs to the class that goes first (R137). -/
def Walk.forTarget (v : Walk) : Bool := v.waiters.any (·.who.isTarget)

/-- The number of the oldest miss that waits on walk `w`, of those at the target if there is one; of a preload its own. -/
def Walk.age (w : Nat) (v : Walk) : Nat :=
  let ws := if v.forTarget then v.waiters.filter (·.who.isTarget) else v.waiters
  (leastOf (ws.map (·.no))).getD w

/-- Walks that hold a handler. -/
def activeWalks (s : State) : Nat := (s.xlt.walks.filterV (·.active)).length

/-- The walk that takes the next free handler: that of the oldest target-side miss, else that of the oldest miss
(R137). -/
def nextWalk (s : State) : Option (Nat × Walk) :=
  let ws := sortBy (fun x => Walk.age x.1 x.2) (s.xlt.walks.filterV fun v => !v.active)
  match ws.find? (fun x => x.2.forTarget) with
  | some x => some x
  | none => ws.head?

/-- Free handlers go to waiting demand walks (R137). -/
def grantHandlers : Nat → State → State
  | 0, s => s
  | fuel + 1, s =>
    if 16 ≤ activeWalks s then s
    else match nextWalk s with
      | some (w, v) => grantHandlers fuel (beginWalk w v s)
      | none => s

/-- A lookup that missed takes the next number, and waits on the walk of its block or starts one of its own (R137). -/
def awaitWalk (kind : WalkKind) (part va : Nat) (wt : Waiter) (s : State) : State :=
  let no := s.xlt.walkNo
  let s := { s with xlt := { s.xlt with walkNo := no + 1 } }
  match (s.xlt.walks.filterV fun v => v.part == part && gib v.va == gib va).head? with
  | some (w, v) => setWalk w { v with waiters := v.waiters ++ [⟨wt, no⟩] } s
  | none => grantHandlers 16 (setWalk no (Walk.new kind part va 0 [⟨wt, no⟩]) s)

/-- The windlass starts a prefetch walk for a point (R143): not where a fragment covers it, a walk of its block runs,
or twelve prefetches hold handlers. -/
def prefetch (part va perm : Nat) (s : State) : State :=
  let busy := s.xlt.walks.values.any fun v => v.part == part && gib v.va == gib va
  let n := (s.xlt.walks.filterV fun v => v.kind == .prefetch).length
  if busy || 12 ≤ n || 16 ≤ activeWalks s || (findFrag s part va).isSome || !dirEn s part then s
  else
    let w := s.xlt.walkNo
    let v := Walk.new .prefetch part va perm []
    beginWalk w v (bump Reg.XLT_PF_CNT { s with xlt := { s.xlt with walkNo := w + 1 } })

/-- The points that the windlass forms for a stream, in order of k, and for one k in the order of the given start
addresses; each with the permission of the stream's use (R142, R143). -/
def prefetchPoints (s : State) (stream : Nat) (ps : List (Nat × Nat)) : List (Nat × Nat) :=
  let r := Reg.XLT_WL_CFG stream
  if !bit s r 0 then []
  else
    let stride := signedOf 32 (fld s r 32 32) * 4096
    (List.range (fld s r 4 4)).flatMap fun k => ps.filterMap fun p =>
      let x : Int := p.1 + stride * (k + 1)
      if 0 ≤ x && x < 2 ^ 52 then some (x.toNat, p.2) else none

/-- The windlass at the start of a descriptor or token of a stream, for its start addresses. -/
def windlass (part stream : Nat) (ps : List (Nat × Nat)) (s : State) : State :=
  each (prefetchPoints s stream ps) (fun x s => prefetch part x.1 x.2 s) s

/-- How a walk goes on: it reads a block next, or it has ended, with the entry it found and whether a malformed entry
would have been used (with that entry's address). -/
inductive WalkNext where
  | read (w : Walk) (blk : Nat)
  | done (e : Option RangeEntry) (bad : Option Nat)
  deriving DecidableEq, Repr

/-- The final scan of a block (R130, R133) ends at the first valid entry that covers the address: it is found, or, where
it is malformed, it is ignored and no entry is found; then its physical address is given. -/
def scanBlock (w : Walk) (bs : List Byte) : Option RangeEntry × Option Nat :=
  let n := min 8 (w.count - 8 * w.lo)
  let es := (List.range n).map fun i => (w.list + 256 * w.lo + 32 * i, parseEntry (slice bs (32 * i) 32))
  match es.find? fun x => x.2.valid && x.2.covers w.va with
  | some x => if x.2.clean then (some x.2, none) else (none, some x.1)
  | none => (none, none)

/-- The binary search over the blocks read so far (R133). -/
def search : Nat → Walk → WalkNext
  | 0, _ => .done none none
  | fuel + 1, w =>
    if w.lo < w.hi then
      let mid := (w.lo + w.hi + 1) / 2
      match w.blocks.find mid with
      | none => .read w mid
      | some b =>
        if (parseEntry b).vstart ≤ w.va then search fuel { w with lo := mid } else search fuel { w with hi := mid - 1 }
    else match w.blocks.find w.lo with
      | none => .read w w.lo
      | some b => let r := scanBlock w b; .done r.1 r.2

/-- A walk whose directory slot has returned (R131, R133). -/
def takeSlot (w : Walk) (line : List Byte) : WalkNext :=
  let bs := slice line (16 * (w.va / 2 ^ 40 % 4)) 16
  let w0 := sliceNat bs 0 4
  let count := natField (sliceNat bs 8 4) 0 16
  if !w0.testBit 0 || count = 0 then .done none none
  else
    search 40 { w with list := natField w0 5 27 * 2 ^ 5 + natField (sliceNat bs 4 4) 0 16 * 2 ^ 32,
                       count := count, lo := 0, hi := ceilDiv count 8 - 1 }

/-- A read of a walk has returned whole: the walk takes it and goes on. -/
def takeBlock (w : Walk) (data : List Byte) : WalkNext :=
  match w.cur with
  | none => takeSlot w data
  | some b => search 40 { w with blocks := w.blocks.set b data }

end Sys2Proof.Machine
end

