-- ==== Sys2Proof/Machine/CollBase.lean ====
section
/-!
DEFINITION. Machine/CollBase.lean: pipes and their flags (R156 to R158, R189, R190), authentication failures (R336), and
how a collective ends early (R216).
-/

namespace Sys2Proof.Machine

/-! ### Streams (R138) -/

/-- The stream of descriptor `d`, if it is in progress and has one. -/
def streamOf (s : State) (d : Nat) : Option Nat := (desc s d).bind fun v => dStream? v.bits

/-- A waiter holds a stream up (R138). -/
def Waiter.holds (s : State) (stream : Nat) : Waiter → Bool
  | .pkt _ _ => false
  | .desc d _ => streamOf s d == some stream
  | .op o _ => streamOf s o.d == some stream

/-- A stream is parked by a demand miss of one of its descriptors (R138). -/
def streamParked (s : State) (stream : Nat) : Bool :=
  s.xlt.walks.values.any fun w => w.waiters.any fun x => x.who.holds s stream

/-- A descriptor is held up by its stream. -/
def isParked (s : State) (v : Desc) : Bool :=
  !v.bad && (match dStream? v.bits with | some x => streamParked s x | none => false)

/-- A descriptor may issue memory reads and packets. -/
def mayIssue (s : State) (v : Desc) : Bool := masterEn s && !v.disabled && !v.stopped && !isParked s v

/-! ### Pipes -/

/-- Pipe `p` is free. -/
def pipeFree (s : State) (p : Nat) : Bool := (s.imp.pipes.find p).isNone

/-- The pipe that a descriptor binds (R156, R157): the collective sequencer any free pipe, its reserved ones first; the
queue engine the lowest-numbered free pipe that is not reserved. -/
def choosePipe (s : State) (coll : Bool) : Option Nat :=
  let free := (List.range 8).filter (pipeFree s)
  if coll then
    match free.find? (fun p => s.imp.reserved.contains p) with
    | some p => some p
    | none => free.head?
  else free.find? (fun p => !s.imp.reserved.contains p)

/-- Pipe `p` is one of the highest-numbered `IMP_PIPE_RSV.COLL` pipes (R157). -/
def wantsReserved (s : State) (p : Nat) : Bool := 8 ≤ p + fld s Reg.IMP_PIPE_RSV 0 4

/-- Pipes that are free take the present reservation; bound ones keep theirs (R157). -/
def refreshReserved (s : State) : State :=
  let keep : Nat → Bool := fun p => if pipeFree s p then wantsReserved s p else s.imp.reserved.contains p
  { s with imp := { s.imp with reserved := (List.range 8).filter keep } }

/-- Flags raised on the pipe that descriptor `d` holds (R189). -/
def raiseFlags (d : Nat) (fl : Flags) (s : State) : State :=
  match desc s d with
  | none => s
  | some v =>
    match v.pipe with
    | none => s
    | some p =>
      if fl = 0 then s
      else
        let old := fld s Reg.IMP_PIPE_FLAGS (4 * p) 4
        let s := if old = 0 then
          setReg (Reg.IMP_PIPE_FLAG_SRC p) (BitVec.ofNat 64 (v.queue + 2 ^ 16 * v.index.toNat)) s else s
        setDesc d { v with flags := BitVec.ofNat 4 (v.flags.toNat ||| fl) }
          (setFld Reg.IMP_PIPE_FLAGS (4 * p) 4 (old ||| fl) s)

/-- Descriptor `d` releases its pipe (R158): IMP_FLAG is posted if it raised a flag of its program's FLAGMASK (R190). -/
def releasePipe (d : Nat) (s : State) : State :=
  match desc s d with
  | none => s
  | some v =>
    match v.pipe with
    | none => s
    | some p =>
      let mask := (parseProg v.chain).flagmask
      let s := if v.flags.toNat &&& mask != 0 then
        postEvent 0x0401 (ownId s) v.part v.queue
          (v.index.toNat + 2 ^ 16 * p + 2 ^ 24 * v.flags.toNat) s else s
      let s := setDesc d { v with pipe := none, buf := none, buf2 := none, obuf := [] } s
      refreshReserved { s with imp := { s.imp with pipes := s.imp.pipes.erase p } }

/-! ### Tags (R57 to R60) -/

/-- Bytes of a line account that count into DONE (R107). -/
def LineAcct.bytesOk (a : LineAcct) : Nat := if a.ok = a.sent then a.size else min (64 * a.ok) a.size

/-- The bytes a tag adds to DONE. -/
def TagSt.bytesOk (t : TagSt) : Nat := t.lines.values.foldl (fun n a => n + a.bytesOk) 0

/-- A tag leaves its descriptor: its OK bytes are added to DONE unless the descriptor was marked DISABLED before; the
tag becomes free, or goes into quarantine (R60, R286). -/
def freeTag (t : Nat) (quarantine : Bool) (s : State) : State :=
  match tagOf s t with
  | none => s
  | some x =>
    let s := modDesc x.desc (fun v => { v with
      tags := v.tags.filter fun y => y != t
      curTag := if v.curTag = some t then none else v.curTag
      resend := match v.resend with
        | some r => if r.packet.tag.toNat = t then none else some r
        | none => none
      done := if v.disabled then v.done else v.done + x.bytesOk }) s
    let s := if quarantine then setTag t { x with quarantine := true, expects := [], lines := Tbl.empty } s
      else { s with txn := { s.txn with tags := s.txn.tags.erase t } }
    match desc s x.desc with
    | some v => if v.phase = .drain && v.resend.isNone then releasePipe x.desc s else s
    | none => s

/-- A tag that is closed and has nothing left to account for is freed (R57). -/
def settleTag (t : Nat) (s : State) : State :=
  match tagOf s t with
  | none => s
  | some x =>
    if !x.quarantine && x.closed && x.expects.isEmpty && x.lines.values.all (fun a => a.left == 0) then
      freeTag t x.sump s
    else s

/-- What a request of this node waits for under its tag is forgotten: no answer of it will come. -/
def unexpect (p : Packet) (s : State) : State :=
  modTag p.tag.toNat (fun x =>
    let e := linesElem p
    let a := x.lines.get e ⟨0, 0, 0, 0⟩
    { x with lines := if a.sent = 0 then x.lines else x.lines.set e { a with left := a.left - packetLines p },
             expects := x.expects.filter fun y => y.seq != p.seq.toNat }) s

/-- A request of this node will never be sealed, since its channel is no longer open: it is not sent, and its descriptor
ends with ACCESS once its tags are accounted for (R334, R349). -/
def neverSealed (p : Packet) (s : State) : State :=
  match tagOf s p.tag.toNat with
  | some x =>
    if x.quarantine || !(writeClass p.ptype || [tRD, tGRD, tPRD].contains p.ptype) then s
    else settleTag p.tag.toNat (modDesc x.desc (fun v => { v with ends := v.ends ++ [stACCESS] }) (unexpect p s))
  | none => s

/-! ### Sealed packets that fail (R336) -/

/-- An authentication or replay failure is counted, recorded and posted (R336): `cause` as `SEC_AUTH_FAIL_INFO` codes
it, 5 a replay. -/
def authFail (cause chan : Nat) (src : NodeId) (ty : BitVec 6) (s : State) : State :=
  let s := bump (if cause = 5 then Reg.SEC_REPLAY_DROP_CNT else Reg.SEC_AUTH_FAIL_CNT) s
  let s := if bit s Reg.SEC_AUTH_FAIL_INFO 0 then s
    else setReg Reg.SEC_AUTH_FAIL_INFO
      (BitVec.ofNat 64 (1 + 2 * cause + 2 ^ 8 * chan + 2 ^ 16 * src.toNat + 2 ^ 24 * ty.toNat)) s
  postEvent 0x0701 src 0xFF chan cause s

/-- Channel `c`. -/
def chanOf (s : State) (c : Nat) : Chan := s.sec.chans.get c Chan.initial

/-! ### Collectives -/

/-- The running collective, park or resume of descriptor `d`. -/
def collOf (s : State) (d : Nat) : Option Coll := s.seq.colls.find d

/-- The collective of descriptor `d` replaced. -/
def setColl (d : Nat) (c : Coll) (s : State) : State := { s with seq := { s.seq with colls := s.seq.colls.set d c } }

/-- The nodes whose IDs agree with the own one outside a mask, the own one included, ascending (R198). -/
def subCube (own mask : Nat) : List Nat :=
  (List.range 256).filter fun n => (n ^^^ own) &&& (255 - mask % 256) == 0

/-- A collective packet to a member (R202). -/
def collPacket (s : State) (v : Desc) (c : Coll) (ty : BitVec 6) (dst : Nat) : Packet :=
  { blankPacket with ptype := ty, vc := 5, pkey := v.pkey, src := ownId s, dst := BitVec.ofNat 8 dst,
                     tag := BitVec.ofNat 17 c.tag, win := BitVec.ofNat 12 c.cid }

/-- A packet of collective `d` goes out under the next SEQ of its tag (R24, R57). Model's choice: a collective that sends
more than 65,536 packets keeps its one tag, and SEQ wraps (assumption log 47). -/
def injectColl (d : Nat) (p : Packet) (s : State) : State :=
  match desc s d with
  | some v => inject 1 { p with seq := BitVec.ofNat 16 v.nseq } (setDesc d { v with nseq := v.nseq + 1 } s)
  | none => s

/-- The opcodes with members and CABORTs (R216). -/
def isCollective (o : Nat) : Bool := 0x20 ≤ o && o ≤ 0x25

/-- The reads of a descriptor that meet `p` and have not all been issued are withdrawn (R72, R112, R113, R141); a
collective no longer waits for them. -/
def withdrawReads (d : Nat) (p : RdWhat → Bool) (s : State) : State :=
  let mine : Nat → RdJob → Bool := fun k j => j.what.ofDesc d && p j.what && s.mem.queue.any fun r => r.reads k
  let n := (s.mem.rjobs.entries.filter fun e => mine e.1 e.2 && match e.2.what with | .coll _ _ => true | _ => false).length
  let s := giveUpReads mine (fun _ => true) s
  match collOf s d with
  | some c => if n = 0 then s else setColl d { c with reads := c.reads - n } s
  | none => s

/-- The CABORTs of a stopped collective go out, unless its stream is parked (R138, R216). -/
def sendAborts (d : Nat) (s : State) : State :=
  match desc s d, collOf s d with
  | some v, some c =>
    if v.stopped && masterEn s && !v.disabled && !isParked s v then
      each c.waiting (injectColl d) (setColl d { c with waiting := [] } s)
    else s
  | _, _ => s

/-- Descriptor `d` stops with a status (R112, R141, R216): nothing further is issued for it, its reads that wait for a
port are withdrawn, its tag closes, its pipe is free, and its record waits for its tags and local accesses. A collective
keeps its tag (R202), and its CABORTs to the members that it sent a CJOIN to, if `tell` says so, stand in place of the
packets that waited. -/
def stopDesc (d : Nat) (st : Byte) (tell : Bool) (s : State) : State :=
  match desc s d with
  | none => s
  | some v =>
    let s := withdrawReads d (fun _ => true)
      (setDesc d { v with stopped := true, phase := .drain, ends := v.ends ++ [st], reading := false } s)
    let s := match v.curTag with
      | some t => if isCollective (opcode v.bits) then s else settleTag t (modTag t (fun x => { x with closed := true }) s)
      | none => s
    let s := match collOf s d with
      | none => s
      | some c =>
        let told := if tell && isCollective (opcode v.bits) then (c.members.filterV (·.sent)).map (·.1) else []
        let cabort (m : Nat) : Packet := { (collPacket s v c tCABORT m) with len := 4, payload := fit 4 [st] }
        sendAborts d (setColl d { c with waiting := told.map cabort } s)
    releasePipe d s

end Sys2Proof.Machine
end

