-- ==== Sys2Proof/Machine/Ring.lean ====
section
/-!
DEFINITION. Machine/Ring.lean: completion rings (R92, R97, R98), arrival records and their backlog (R108, R109).
-/

namespace Sys2Proof.Machine

/-- Slots of queue `q`'s descriptor ring (R92). -/
def ringSize (s : State) (q : Nat) : Nat := 2 ^ fld s (Reg.Q_RING_SIZE q) 0 5

/-- Slots of queue `q`'s completion ring (R92). -/
def crSize (s : State) (q : Nat) : Nat := 2 ^ fld s (Reg.Q_CR_SIZE q) 0 5

/-- `Q_CTL.EN`. -/
def queueEn (s : State) (q : Nat) : Bool := bit s (Reg.Q_CTL q) 0

/-- `Q_CTL.PART`. -/
def queuePart (s : State) (q : Nat) : Nat := fld s (Reg.Q_CTL q) 7 6

/-- Records written that software has not freed (R97). -/
def crUnread (s : State) (q : Nat) : Nat :=
  let n := crSize s q
  (fld s (Reg.Q_CR_TAIL q) 0 16 + n - (queue s q).crHead % n) % n

/-- Completion slots neither written nor reserved: at most N − 1 are held (R97). -/
def crFree (s : State) (q : Nat) : Nat := crSize s q - 1 - crUnread s q - (queue s q).reserved

/-- One record written at the completion tail of queue `q`, word 0 without its PHASE (R97); the tail advances and the
phase turns when it passes the end. -/
def pushRecord (q : Nat) (word0 : Nat) (rest : List Byte) (irq : Bool) (s : State) : State :=
  let tail := fld s (Reg.Q_CR_TAIL q) 0 16
  let phase := fld s (Reg.Q_CR_TAIL q) 16 1
  let pa := fld s (Reg.Q_CR_BASE q) 12 36 * 4096 + 32 * tail
  let bytes := leBytes 4 (word0 % 2 ^ 31 + phase * 2 ^ 31) ++ fit 28 rest
  let next := (tail + 1) % crSize s q
  let s := writeMem (.record q) [⟨pa, 0, allBytes (clean bytes)⟩] false none s
  let s := setReg (Reg.Q_CR_TAIL q) (BitVec.ofNat 64 (next + 2 ^ 16 * (if next = 0 then 1 - phase else phase))) s
  if irq then raise (Reg.Q_STATUS q) 3 s else s

/-- The arrival record of a released MSG (R108), written to a slot that no descriptor has reserved. -/
def writeArrival (a : Arrival) (s : State) : State :=
  let p := a.packet
  let v := queue s a.queue
  let prior := p.prior.toNat + 2 ^ 24 * p.subop.toNat + 2 ^ 32 * natField p.aux.toNat 8 8
  let start := (p.addr.toNat + 2 ^ 52 - prior % 2 ^ 52) % 2 ^ 52
  let total := prior + p.len.toNat
  let word0 := 2 ^ 24 + 2 ^ 16 * (if a.bad then 0x0A else 0) + v.arrivals.toNat
  let rest := leBytes 4 (p.src.toNat + 2 ^ 8 * p.win.toNat) ++ leBytes 4 start
    ++ leBytes 4 (start / 2 ^ 32 + 2 ^ 20 * p.len.toNat) ++ leBytes 4 p.expect.toNat
    ++ leBytes 4 total ++ leBytes 4 (natField total 32 8) ++ zeros 4
  pushRecord a.queue word0 rest true (setQueue a.queue { v with arrivals := v.arrivals + 1 } s)

/-- An arrival record is dropped (R109). Model's choice: the event's DATA is the source node (assumption log 9). -/
def loseArrival (a : Arrival) (s : State) : State :=
  postOwn 0x0201 a.queue a.packet.src.toNat
    (bump (Reg.Q_ARR_LOST_CNT a.queue) (raise (Reg.Q_STATUS a.queue) 4 s))

/-- The partition of a queue is being torn down or scrubbed, so no arrival record of it is written (T3 of R341). -/
def arrivalBarred (s : State) (q : Nat) : Bool :=
  (partOf s (queuePart s q)).state == .teardown || bit s Reg.SEC_SCRUB_STATUS 0

/-- A descriptor marked DISABLED waits for its record, which comes before any further fetch or other record (R121). -/
def disabledLeft (s : State) : Bool := s.qe.descs.values.any (·.disabled)

/-- Arrival records may be written: master enable is 1 and the DISABLED records are written (R119, R121). -/
def arrivalsGo (s : State) : Bool := masterEn s && !disabledLeft s

/-- An arrival record takes a free slot, waits in the backlog of 256 entries, or is dropped (R109). While master enable
is 0, or a DISABLED record is due, it is not written (R119, R121). -/
def arrive (a : Arrival) (s : State) : State :=
  if arrivalBarred s a.queue then s
  else if !queueEn s a.queue then loseArrival a s
  else if arrivalsGo s && 0 < crFree s a.queue && s.qe.backlog.all (fun b => b.queue != a.queue) then writeArrival a s
  else if s.qe.backlog.length < 256 then { s with qe := { s.qe with backlog := s.qe.backlog ++ [a] } }
  else loseArrival a s

/-- Backlogged arrival records whose queue has a slot are written, in backlog order (R109). Model's choice: one whose
queue has been disabled since is dropped and counted, as an arrival to a disabled queue is (assumption log 47). -/
def flushBacklog (s : State) : State :=
  if arrivalsGo s then
    s.qe.backlog.foldl
      (fun s a =>
        if queueEn s a.queue && (crFree s a.queue = 0 || s.qe.backlog.any fun b => b.queue == a.queue) then
          { s with qe := { s.qe with backlog := s.qe.backlog ++ [a] } }
        else if queueEn s a.queue then writeArrival a s
        else loseArrival a s)
      { s with qe := { s.qe with backlog := [] } }
  else s

/-! ### Slot reads (R94 to R97) -/

/-- Slots from the ring head up to the producer index. -/
def slotsLeft (s : State) (q : Nat) : Nat :=
  let n := ringSize s q
  ((queue s q).prod + n - fld s (Reg.Q_HEAD q) 0 16 % n) % n

/-- Descriptors and tokens of queue `q` in progress (R96). -/
def inFlight (s : State) (q : Nat) : Nat := (s.qe.descs.filterV fun d => d.queue == q).length

/-- `Q_CTL.MAX_INFLIGHT`. -/
def maxInflight (s : State) (q : Nat) : Nat := fld s (Reg.Q_CTL q) 18 11

/-- Slots of a queue whose reads are under way. -/
def Queue.reading (v : Queue) : Nat := v.fetching.foldl (fun n x => n + x.2) 0

/-- Slots of all queues whose reads are under way. -/
def slotsReading (s : State) : Nat := s.qe.queues.values.foldl (fun n v => n + v.reading) 0

/-- Queue `q` is below its limit of descriptors and tokens in progress, and the block is below its own (R96): how many
more may be fetched. -/
def limitLeft (s : State) (q : Nat) : Nat :=
  min (maxInflight s q - inFlight s q - (queue s q).reading) (8192 - s.qe.descs.entries.length - slotsReading s)

/-- Slots that the next fetch of queue `q` covers: at most 8 in at most two reads of 4 (R95), to the end of the ring,
within the limits of R96 and the free completion slots of R97. A read ends at a multiple of 4 slots, so that it is one
request (assumption log 27). -/
def fetchCount (s : State) (q : Nat) : Nat :=
  let head := fld s (Reg.Q_HEAD q) 0 16
  min (min (8 - head % 4) (slotsLeft s q)) (min (min (ringSize s q - head) (crFree s q)) (limitLeft s q))

/-- The reads of a fetch of `n` slots from `head` on: the first up to a multiple of 4 slots, and the rest (R95). -/
def fetchReads (head n : Nat) : List (Nat × Nat) :=
  let a := min n (4 - head % 4)
  (head, a) :: (if a < n then [(head + a, n - a)] else [])

/-- A slot fetch of queue `q` starts where one may (R94, R119, R121, R341): its reads go to the memory ports, at physical
addresses of the ring (R92), and a completion slot is reserved for each descriptor (R97). -/
def tryFetch (q : Nat) (s : State) : State :=
  let n := fetchCount s q
  let head := fld s (Reg.Q_HEAD q) 0 16
  if queueEn s q && masterEn s && unitsUp s && (queue s q).fetching.isEmpty && 0 < n && !disabledLeft s
      && (partOf s (queuePart s q)).state != .teardown then
    each (fetchReads head n)
      (fun x s => askWhole (.slots q x.1 x.2) (fld s (Reg.Q_RING_BASE q) 12 36 * 4096 + 64 * x.1) (64 * x.2) s)
      (modQueue q (fun v => { v with fetching := fetchReads head n, reserved := v.reserved + n }) s)
  else s

/-- Slot reads start on every queue that may fetch. -/
def fetchAll (s : State) : State := each s.qe.queues.keys tryFetch s

end Sys2Proof.Machine
end

