-- ==== Sys2Proof/Machine/Target.lean ====
section
/-!
DEFINITION. Machine/Target.lean: what a target does with requests: landing windows, held writes, fence-final packets,
the atomic unit, landed acknowledgements (R31 to R62, R72 to R85, R139).
-/

namespace Sys2Proof.Machine

/-! ### Landed acknowledgements (R61, R62) -/

/-- A LACK record as 8 bytes (R61). -/
def LackRec.bytes (r : LackRec) : List Byte :=
  leBytes 8 (r.status.toNat * 2 ^ 56 + r.tag.toNat * 2 ^ 39 + r.elem.toNat * 2 ^ 35 + r.lines.toNat)

/-- Two record sets have the same node, key and class (R62). -/
def RecSet.same (r x : RecSet) : Bool := x.node == r.node && x.pkey == r.pkey && x.vc7 == r.vc7

/-- The record sets without one of them. -/
def dropSet (r : RecSet) (s : State) : State :=
  { s with txn := { s.txn with sets := s.txn.sets.filter fun x => !r.same x } }

/-- A record set with records goes out in one LACK, and counts anew from then on (R62). -/
def sendSet (r : RecSet) (s : State) : State :=
  if r.recs.isEmpty then s
  else inject 0 { blankPacket with
    ptype := tLACK, vc := if r.vc7 then 7 else 3, pkey := r.pkey, src := ownId s, dst := r.node,
    len := BitVec.ofNat 12 (8 * r.recs.length), payload := r.recs.flatMap LackRec.bytes } (dropSet r s)

/-- The record set of a packet: initiator node, key and class (R62). -/
def findSet (s : State) (p : Packet) : RecSet :=
  (s.txn.sets.find? fun x => x.node == p.src && x.pkey == p.pkey && x.vc7 == (p.vc == 7)).getD
    ⟨p.src, p.pkey, p.vc == 7, [], 0⟩

/-- A record merged into a set: only OK records of one tag and element merge (R62). -/
def mergeRec (r : LackRec) : List LackRec → List LackRec
  | [] => [r]
  | x :: xs =>
    if x.status = stOK && r.status = stOK && x.tag = r.tag && x.elem = r.elem then
      { x with lines := x.lines + r.lines } :: xs
    else x :: mergeRec r xs

/-- The element that a packet's record names: that of a scatter's WR (R61). -/
def recElem (p : Packet) : BitVec 4 := if p.ptype = tWR then BitVec.ofNat 4 p.aux.toNat else 0

/-- A record set put in its place. -/
def putSet (r : RecSet) (s : State) : State :=
  let s := dropSet r s
  { s with txn := { s.txn with sets := s.txn.sets ++ [r] } }

/-- A packet's set takes what one packet brings to it: records, if the packet makes one; `landed` says that the packet
landed, `now` that the set goes at once (R62). A set without a record has nothing to send, and goes on counting. -/
def updateSet (p : Packet) (recs : List LackRec → List LackRec) (landed now : Bool) (s : State) : State :=
  let r := findSet s p
  let r := { r with recs := recs r.recs, landed := r.landed + (if landed then 1 else 0) }
  let s := putSet r s
  if now || 64 ≤ r.landed || 64 ≤ r.recs.length then sendSet r s else s

/-- A write-class packet lands before it is answered: a fence-final one as it is counted into its window, a posted scalar
atomic as the atomic unit takes it (R35). Its set counts it (R62). -/
def noteLanded (p : Packet) (s : State) : State := updateSet p (fun l => l) true false s

/-- A packet has landed before its answer (R35). -/
def landsEarly (p : Packet) : Bool := p.ff || p.ptype == tATOM

/-- A record is added to a packet's set. -/
def record (p : Packet) (status : Byte) (lines : Nat) (landed now : Bool) (s : State) : State :=
  updateSet p (mergeRec ⟨status, p.tag, recElem p, BitVec.ofNat 32 lines⟩) landed now s

/-- The final answer to a write-class packet (R36, R54): an ATOMR for a fetch ATOM, which makes no record but counts and
flushes its set as any packet does (R62), else a record. -/
def answerWrite (p : Packet) (status : Byte) (old : List Byte) (poison landed now : Bool) (s : State) : State :=
  if atomFetch p then updateSet p (fun l => l) landed now (sendAtomr p status old poison s)
  else record p status (packetLines p) landed now s

/-- The answer to a write-class packet that is not applied (R36, R54). -/
def failWrite (p : Packet) (status : Byte) (now : Bool) (s : State) : State :=
  answerWrite p status [] false false now s

/-- The answer to a request that is not applied. -/
def failRequest (p : Packet) (status : Byte) (s : State) : State :=
  if writeClass p.ptype then failWrite p status false s else failLoad p status s

/-! ### Landing windows (R37 to R41) -/

/-- The counter of a window. -/
def winCount (s : State) (w : Nat) : Nat := (s.txn.windows.get w 0).toNat

/-- The counter of a window set. -/
def setWin (w c : Nat) (s : State) : State :=
  { s with txn := { s.txn with windows := s.txn.windows.set w (BitVec.ofNat 32 c) } }

/-- The classes of R38. -/
inductive WinClass where
  | reached | pending | fault
  deriving DecidableEq, Repr

/-- The class for a distance `d = (EXPECT − C') mod 2^32` (R38). -/
def classOfDist (d : Nat) : WinClass :=
  if d = 0 || 0xC0000000 ≤ d then .reached else if d ≤ 0x80000000 then .pending else .fault

/-- The class of `n` lines landing on counter `c` under EXPECT `e` (R38). -/
def classify (c n e : Nat) : WinClass := classOfDist ((e + 2 ^ 32 - (c + n) % 2 ^ 32) % 2 ^ 32)

/-- A partition's mask of windows that its packets have counted into (R341). -/
def markWindow (part w : Nat) (s : State) : State :=
  modPart part (fun p => if p.windows.contains w then p else { p with windows := p.windows ++ [w] }) s

/-- The window fault of R41. Model's choice: the event's DATA is EXPECT (assumption log 9). -/
def winFault (p : Packet) (part : Nat) (s : State) : State :=
  let s := setReg Reg.GEN_WIN_FAULT (BitVec.ofNat 64 (p.win.toNat + 2 ^ 16 * p.src.toNat + 2 ^ 31)) s
  failWrite p stWINFAULT false (postEvent 0x0101 p.src part p.win.toNat p.expect.toNat s)

/-! ### The atomic unit (R51 to R56) -/

/-- The places in memory of the operations that a packet makes: an ATOM's one, or every line of its extents. -/
def atomicPlaces (p : Packet) (xs : List Extent) : List (Nat × Nat) :=
  if p.ptype = tATOM then xs.head?.toList.map fun x => (x.pa, x.mattr)
  else xs.flatMap fun x => (List.range (x.len / 64)).map fun i => (x.pa + 64 * i, x.mattr)

/-- The lines of a packet, which its extents map, enter the atomic unit (R35, R56). -/
def enterAtomic (p : Packet) (xs : List Extent) (part gen : Nat) (s : State) : State :=
  let g := s.txn.groupNo
  let places := atomicPlaces p xs
  let ops := places.mapIdx fun i x =>
    ({ packet := p, pa := x.1, off := 64 * i, mattr := x.2, part := part, gen := gen, stage := 0, old := [],
       bad := p.poison, group := g } : AtomOp)
  let s := { s with txn := { s.txn with groupNo := g + 1, groups := s.txn.groups.set g ⟨p, places.length, p.poison, 0, []⟩ } }
  ops.foldl (fun s o => { s with txn := { s.txn with atomNo := s.txn.atomNo + 1,
                                                     atoms := s.txn.atoms.set s.txn.atomNo o } }) s

/-- An integer operation of `w` bytes (R51). -/
def intAtom (op w a b : Nat) : Nat :=
  let sa := signedOf (8 * w) a
  let sb := signedOf (8 * w) b
  if op = 0 then (a + b) % 2 ^ (8 * w)
  else if op = 4 then (if sb < sa then b else a)
  else if op = 5 then (if sa < sb then b else a)
  else if op = 6 then min a b
  else if op = 7 then max a b
  else if op = 8 then a &&& b
  else if op = 9 then a ||| b
  else if op = 10 then a ^^^ b
  else b

/-- The new value of an ATOM: memory's old bytes, the operand and the compare value (R51, R52). -/
def atomResult (p : Packet) (old : List Byte) : List Byte :=
  let w := atomWidth p
  let x := slice p.payload 0 w
  let op := atomOp p
  if op = 1 then mapLanes 4 (fpAdd 0) old x
  else if op = 2 then mapLanes 2 (fpAdd 1) old x
  else if op = 3 then mapLanes 2 (fpAdd 2) old x
  else if op = 12 then (if old = slice p.payload 16 w then x else old)
  else leBytes w (intAtom op w (leNat old) (leNat x))

/-- A line of a VACC: the addends added to memory's 64 bytes (R55). -/
def vaccResult (fmt : Nat) (old x : List Byte) : List Byte :=
  if fmt = 0 then mapLanes 4 (fun a b => (a + b) % 2 ^ 32) old x
  else if fmt = 1 then mapLanes 4 (fpAdd 0) old x
  else if fmt = 2 then mapLanes 2 (fpAdd 1) old x
  else mapLanes 2 (fpAdd 2) old x

/-- Bytes that an operation of the atomic unit reads and writes. -/
def AtomOp.width (o : AtomOp) : Nat := if o.packet.ptype = tATOM then atomWidth o.packet else 64

/-- What an operation of the atomic unit writes, given the bytes it read. -/
def AtomOp.result (o : AtomOp) (old : List Byte) : List Byte :=
  if o.packet.ptype = tATOM then atomResult o.packet old
  else vaccResult (natField o.packet.subop.toNat 4 4) old (slice o.packet.payload o.off 64)

/-- The operation's lock attribute (R79). -/
def AtomOp.locked (o : AtomOp) : Bool := 2 ≤ o.packet.scope.toNat

/-! ### Applying packets (R39, R40, R44, R49, R74) -/

/-- The bytes a write packet stores, with its POISON as the port's indication (R36). -/
def packetStore (p : Packet) (pa mattr : Nat) : Store :=
  ⟨pa, mattr, (slice p.payload 0 p.len.toNat).map fun b => some ⟨b, p.poison⟩⟩

/-- A fence-final packet is issued to the memory ports or to the atomic unit. -/
def applyFence (h : Held) (s : State) : State :=
  if h.packet.ptype = tATOM || h.packet.ptype = tVACC then
    enterAtomic h.packet [⟨h.pa, covered h.packet, h.mattr⟩] h.part h.gen s
  else writeMem (.fence h.packet) [packetStore h.packet h.pa h.mattr] false (some (h.part, h.gen)) s

/-- A fence-final packet joins its window's line: it is issued once the one before it has been accepted (R74). -/
def queueFence (h : Held) (s : State) : State :=
  let w := h.packet.win.toNat
  let q := s.txn.fenceQ.get w []
  let s := { s with txn := { s.txn with fenceQ := s.txn.fenceQ.set w (q ++ [h]) } }
  if q.isEmpty then applyFence h s else s

/-- A held write's EXPECT is reached by counter `c` (R44). -/
def heldReached (c : Nat) (h : Held) : Bool := classify c 0 h.packet.expect.toNat = .reached

/-- Held writes of a window whose EXPECT is reached are released in ascending serial order of EXPECT, ties in order of
arrival (R44). While master enable is 0 held writes stay held (R120). -/
def releaseHeld (w : Nat) (s : State) : State :=
  if !masterEn s then s else
  let c := winCount s w
  let ready : Held → Bool := fun h => h.packet.win.toNat == w && heldReached c h
  let out := sortBy (fun h => 2 ^ 32 - (c + 2 ^ 32 - h.packet.expect.toNat) % 2 ^ 32) (s.txn.held.filter ready)
  each out queueFence { s with txn := { s.txn with held := s.txn.held.filter fun h => !ready h } }

/-- The lines of an applied packet that are answered POISONED: all of them where the packet carries POISON or the atomic
unit read poison (R36, R56), else those whose write returned an error (R414). -/
def poisonedLines (p : Packet) (bad : Bool) (errs : Nat) : Nat :=
  if bad || p.poison then packetLines p else min errs (packetLines p)

/-- The records of an applied packet of whose lines `bad` are POISONED (R36, R61, R414). -/
def appliedRecs (p : Packet) (bad : Nat) (l : List LackRec) : List LackRec :=
  let one (st : Byte) (n : Nat) (l : List LackRec) : List LackRec :=
    if n = 0 then l else mergeRec ⟨st, p.tag, recElem p, BitVec.ofNat 32 n⟩ l
  one stPOISONED bad (one stOK (packetLines p - bad) l)

/-- `n` more lines have landed in a window (R39, R44). -/
def landLines (w n : Nat) (s : State) : State := releaseHeld w (setWin w ((winCount s w + n) % 2 ^ 32) s)

/-- The answer to an applied write-class packet, `bad` of whose lines are POISONED (R35, R36, R54): a fetch ATOM's old
value, or its records; that of a fence-final one goes at once (R20, R62). -/
def answerApplied (p : Packet) (bad : Nat) (old : List Byte) (s : State) : State :=
  if atomFetch p then
    answerWrite p (if bad = 0 then stOK else stPOISONED) old (bad != 0) (!landsEarly p) p.ff s
  else updateSet p (appliedRecs p bad) (!landsEarly p) p.ff s

/-- The fence-final packet in progress on a window has been accepted: it is answered at once (R20), a MSG's arrival
record follows (R49), and the window's next fence-final packet is issued (R74). -/
def fenceDone (p : Packet) (bad : Nat) (old : List Byte) (s : State) : State :=
  let w := p.win.toNat
  let rest := (s.txn.fenceQ.get w []).drop 1
  let s := if p.ptype = tMSG then arrive ⟨natField p.aux.toNat 0 8, p, bad != 0⟩ s else s
  let s := answerApplied p bad old s
  let s := { s with txn := { s.txn with
    fenceQ := if rest.isEmpty then s.txn.fenceQ.erase w else s.txn.fenceQ.set w rest } }
  match rest with
  | h :: _ => applyFence h s
  | [] => s

/-- A write-class packet that has been checked and translated is classified, then applied, held, refused or faulted
(R38 to R41, R45). A posted scalar atomic lands as the atomic unit takes it; the lines of any other posted packet land as
a memory port accepts their writes (R35, R39). A fence-final one that is REACHED as it arrives is released together with
the held writes that its own lines release, in R44's order (R40, R74; assumption log 47): it counts as one that arrived
last. -/
def landPacket (p : Packet) (pa mattr part gen : Nat) (s : State) : State :=
  let w := p.win.toNat
  let n := packetLines p
  let h : Held := ⟨s.txn.heldNo, p, pa, mattr, part, gen⟩
  let s := { s with txn := { s.txn with heldNo := s.txn.heldNo + 1 } }
  let c := classify (winCount s w) n p.expect.toNat
  let counted (s : State) : State := setWin w ((winCount s w + n) % 2 ^ 32) (markWindow part w s)
  if c = .fault then winFault p part s
  else if !p.ff then
    let s := markWindow part w s
    if p.ptype = tATOM then landLines w n (enterAtomic p [⟨pa, covered p, mattr⟩] part gen (noteLanded p s))
    else if p.ptype = tVACC then enterAtomic p [⟨pa, covered p, mattr⟩] part gen s
    else writeMem (.posted p) [packetStore p pa mattr] false (some (part, gen)) s
  else if c = .reached || s.txn.held.length < 1024 then
    releaseHeld w (noteLanded p (counted { s with txn := { s.txn with held := s.txn.held ++ [h] } }))
  else record p stHOLDFULL n false true (bump Reg.GEN_HOLD_FULL_CNT s)

/-! ### Receiving requests -/

/-- A request whose translation is complete and allowed: a load reads, a write lands. `pas` gives the physical extents
of its 4 KiB blocks. -/
def takeTranslated (p : Packet) (part : Nat) (pas : List Extent) (s : State) : State :=
  if writeClass p.ptype then
    match pas with
    | x :: _ => landPacket p x.pa x.mattr part (genOf s part) s
    | [] => s
  else readMem (.target p) pas false (some (part, genOf s part)) s

/-- The translation of a request's blocks, first to last: the first miss, the first fault, or the extents. -/
inductive BlockLook where
  | miss (va : Nat)
  | fault (st : Byte) (va : Nat)
  | ok (xs : List Extent) (fs : List Frag)
  deriving DecidableEq, Repr

/-- Look up the blocks of an access that needs a permission. A miss anywhere comes first, since the whole access is
translated before it is checked (R32). -/
def lookBlocks (s : State) (part perm : Nat) : List (Nat × Nat) → BlockLook
  | [] => .ok [] []
  | (va, n) :: rest =>
    match peek s part va, lookBlocks s part perm rest with
    | .miss, _ => .miss va
    | _, .miss v => .miss v
    | .absent, _ => .fault stXLT va
    | .hit f pa, r =>
      if !f.perms.getLsbD perm then .fault stACCESS va
      else match r with
        | .ok xs fs => .ok (⟨pa, n, f.mattr⟩ :: xs) (f :: fs)
        | x => x

/-- The bytes that a request is translated for. -/
def requestBytes (p : Packet) : Nat := if p.ptype = tGRD then p.expect.toNat else covered p

/-- A request fails its translation (R26, R146). -/
def xltFault (p : Packet) (part : Nat) (st : Byte) (va : Nat) (s : State) : State :=
  failRequest p st (reportFault true part va p.ptype.toNat p.src s)

/-- A request at its target: checked, translated and handled; none where it misses and the miss buffer is full
(R40, R120, R139). -/
def processTarget (p : Packet) (s : State) : Option State :=
  match partOfKey s p.pkey with
  | none => some s
  | some part =>
    if !masterEn s then some (failRequest p stDISABLED s)
    else match requestFault p with
      | some st => some (failRequest p st s)
      | none =>
        match lookBlocks s part (requestPerm p) (blocks4k p.addr.toNat (requestBytes p)) with
        | .ok xs fs => some (takeTranslated p part xs (each fs touch s))
        | .fault st va => some (xltFault p part st va s)
        | .miss va =>
          if s.txn.miss.length < 64 then
            let n := s.txn.missNo
            some (awaitWalk .target part va (.pkt n va)
              { s with txn := { s.txn with miss := s.txn.miss ++ [⟨n, p⟩], missNo := n + 1 } })
          else none

/-- The port takes nothing on a virtual channel whose next packet missed while the miss buffer was full (R139), and no
request that would reach memory while the memory ports are held off (R21). -/
def ejectHeld (s : State) (p : Packet) : Bool := s.txn.stopVcs.contains p.vc || (masterEn s && memBacked s)

/-- A request arrives at the ejection port. It stays there while the port takes none; one that misses while the miss
buffer is full stays too, and stops its virtual channel (R139). -/
def receiveRequest (p : Packet) (s : State) : State :=
  if p.abt then takeEjected p s
  else if ejectHeld s p then s
  else match processTarget p (takeEjected p s) with
    | some s => issueAll s
    | none => { s with txn := { s.txn with stopVcs := s.txn.stopVcs ++ [p.vc] } }

/-- A packet leaves the target miss buffer; the port takes from every virtual channel again (R139). -/
def freeMiss (no : Nat) (s : State) : State :=
  { s with txn := { s.txn with miss := s.txn.miss.filter fun x => x.no != no, stopVcs := [] } }

/-- A request of one of the given types arrives while its units run. -/
def receiveTyped (types : List (BitVec 6)) (p : Packet) (s : State) : State :=
  onlyIf (coreUp s && unitsUp s && types.contains p.ptype) (receiveRequest p) s

/-! ### Finished memory accesses of the target -/

/-- A finished read of a load: its response, one for each 2,048 B block of a gather element (R31, R32). -/
def answerLoad (p : Packet) (data : List PByte) (s : State) : State :=
  if p.ptype = tGRD then
    let first := 2048 - p.addr.toNat % 2048
    let cuts := (data.take first) :: ((List.range 33).map fun i => (data.drop (first + 2048 * i)).take 2048)
    (cuts.filter (fun c => !c.isEmpty)).zipIdx.foldl
      (fun s c => sendRdr p stOK (BitVec.ofNat 16 c.2) (p.aux &&& 0xF) c.1.length c.1 s) s
  else sendRdr p stOK p.seq 0 p.len.toNat data s

/-- The atomic unit's read of a line has returned: the operation is applied and written on the same port (R56, R415). -/
def atomicRead (n : Nat) (data : List PByte) (s : State) : State :=
  match s.txn.atoms.find n with
  | none => s
  | some o =>
    let bad := o.bad || data.any (·.p)
    let old := data.map (·.b)
    let new := (o.result old).map fun b => some (⟨b, bad⟩ : PByte)
    let s := { s with txn := { s.txn with atoms := s.txn.atoms.set n { o with stage := 2, old := old, bad := bad } } }
    writeMem (.atomic n) [⟨o.pa, o.mattr, new⟩] o.locked (some (o.part, o.gen)) s

/-- The atomic unit's write of a line has been accepted: a line of a posted VACC lands (R35), and the last line of a
packet answers it. -/
def atomicWritten (n : Nat) (err : Bool) (s : State) : State :=
  match s.txn.atoms.find n with
  | none => s
  | some o =>
    let s := { s with txn := { s.txn with atoms := s.txn.atoms.erase n } }
    let s := if o.packet.ptype = tVACC && !o.packet.ff then landLines o.packet.win.toNat 1 s else s
    match s.txn.groups.find o.group with
    | none => s
    | some g =>
      let g := { g with left := g.left - 1, bad := g.bad || o.bad, errs := g.errs + (if err then 1 else 0), old := o.old }
      let bad := poisonedLines g.packet g.bad g.errs
      if g.left = 0 then
        let s := { s with txn := { s.txn with groups := s.txn.groups.erase o.group } }
        if g.packet.ptype = tECMB then s
        else if g.packet.ff then fenceDone g.packet bad g.old s
        else answerApplied g.packet bad g.old s
      else { s with txn := { s.txn with groups := s.txn.groups.set o.group g } }

/-- An operation of the atomic unit may start (R56): fewer than 512 are in progress, no earlier operation on its line
is left, and no plain write to its line is outstanding (R85). -/
def atomicReady (s : State) (n : Nat) (o : AtomOp) : Bool :=
  o.stage == 0 && masterEn s
    && (s.txn.atoms.filterV fun x => 0 < x.stage).length < 512
    && s.txn.atoms.entries.all (fun e => n ≤ e.1 || e.2.pa / 64 != o.pa / 64)
    && s.mem.out.all fun r => !r.write || !r.covers (o.pa / 64)

/-- An operation of the atomic unit starts with its read. -/
def startAtomic (n : Nat) (s : State) : State :=
  match s.txn.atoms.find n with
  | none => s
  | some o =>
    if atomicReady s n o then
      readMem (.atomic n) [⟨o.pa, o.width, o.mattr⟩] o.locked (some (o.part, o.gen))
        { s with txn := { s.txn with atoms := s.txn.atoms.set n { o with stage := 1 } } }
    else s

/-! ### Held writes discarded (R42, R47) -/

/-- A held write is discarded without being applied and answered at once (R62). -/
def discardHeld (h : Held) (st : Byte) (s : State) : State :=
  failWrite h.packet st true { s with txn := { s.txn with held := s.txn.held.filter fun x => x.no != h.no } }

/-- A window's counter is set to 0 and its held writes are discarded (R37, R42). -/
def resetWindow (w : Nat) (s : State) : State :=
  let gone := s.txn.held.filter fun h => h.packet.win.toNat == w
  each gone (fun h s => discardHeld h stWINRESET s) (setWin w 0 s)

/-! ### Meanings -/

/-- RD (and PRD) at a target (R31). -/
def execRdReceive (p : Packet) (s : State) : Res := .next (receiveTyped [tRD, tPRD] p s)

/-- GRD at a target (R32). -/
def execGrdReceive (p : Packet) (s : State) : Res := .next (receiveTyped [tGRD] p s)

/-- WR (and PWR) at a target (R40, R202). -/
def execWrReceive (p : Packet) (s : State) : Res := .next (receiveTyped [tWR, tPWR] p s)

/-- MSG at a target (R49). -/
def execMsgReceive (p : Packet) (s : State) : Res := .next (receiveTyped [tMSG] p s)

/-- ATOM at a target (R52). -/
def execAtomReceive (p : Packet) (s : State) : Res := .next (receiveTyped [tATOM] p s)

/-- VACC at a target (R55). -/
def execVaccReceive (p : Packet) (s : State) : Res := .next (receiveTyped [tVACC] p s)

/-- A packet whose TYPE no table lists is dropped and counted (R28). -/
def execUnknownTypeReceive (p : Packet) (s : State) : Res :=
  .next (onlyIf (coreUp s && !listedType p.ptype) (fun s => bump Reg.GEN_RX_BADTYPE (takeEjected p s)) s)

/-- The atomic unit starts an operation (R56, R415). -/
def execAtomicUnitIssue (op : Nat) (s : State) : Res :=
  .next (onlyIf (coreUp s) (fun s => issueAll (startAtomic op s)) s)

/-- A held write has outlived `GEN_HOLD_TMO` (R47). Model's choice: the event's DATA is the packet's tag (assumption
log 9). -/
def execHoldTimeout (h : Nat) (s : State) : Res :=
  .next (match s.txn.held.find? fun x => x.no == h with
    | none => s
    | some x =>
      bump Reg.GEN_HOLD_TMO_CNT
        (postEvent 0x0102 (ownId s) x.part x.packet.win.toNat x.packet.tag.toNat (discardHeld x stHOLDTMO s)))

/-- 313 rc have passed since a record set's oldest unsent record was made (R62). -/
def execLackCoalesceTimeout (node : NodeId) (pkey : PKey) (vc7 : Bool) (s : State) : Res :=
  .next (match s.txn.sets.find? fun x => x.node == node && x.pkey == pkey && x.vc7 == vc7 with
    | none => s
    | some r => sendSet r s)

/-- A `GEN_WIN_CTL` write with RESET (R37, R42): it selects the window and resets it. -/
def execWinReset (win : BitVec 12) (s : State) : Res :=
  .next (onlyIf (coreUp s)
    (fun s => resetWindow win.toNat (setFld Reg.GEN_WIN_CTL 0 12 win.toNat s)) s)

end Sys2Proof.Machine
end

