-- ==== Sys2Proof/Machine/Initiator.lean ====
section
/-!
DEFINITION. Machine/Initiator.lean: tags, the packets of transfers, gathers, scatters and atomics, chained transfers, and
the accounting of answers (R31 to R34, R45, R46, R57 to R65, R81, R111 to R113, R141, R156 to R193).
-/

namespace Sys2Proof.Machine

/-! ### Progress -/

/-- Packets of a descriptor that wait at the transaction engine's injection port. -/
def waitingPackets (s : State) (v : Desc) : Nat :=
  ((s.router.inject.getD 0 []).filter fun p =>
    !([tRDR, tPRDR, tATOMR, tLACK] : List (BitVec 6)).contains p.ptype && v.tags.contains p.tag.toNat).length

/-- Packet building goes on for a descriptor: fewer than 64 of its packets wait at the injection port (R18, R21). Model's
choice: the number (assumption log 7). -/
def roomy (s : State) (v : Desc) : Bool := waitingPackets s v < 64

/-- The result of a descriptor's lookup (R128, R145): the extents, the fragments hit, the blocks looked up for the first
time and the oldest generation used; or the address of the first block that misses, or that has no entry or one that
forbids the access. -/
inductive LocalLook where
  | ok (xs : List Extent) (fs : List Frag) (ms : List BlockMap) (gen : Nat)
  | miss (va : Nat)
  | fault (va : Nat)
  deriving DecidableEq, Repr

/-- A block's extent joins the blocks after it. -/
def LocalLook.cons (x : Extent) (gen : Nat) (new : List (Frag × BlockMap)) : LocalLook → LocalLook
  | .ok xs fs ms g => .ok (x :: xs) (new.map (·.1) ++ fs) (new.map (·.2) ++ ms) (min gen g)
  | r => r

/-- Lookup of a descriptor's access (R128, R145): a permission over `len` bytes from `va`. A block that the descriptor
has looked up already is not looked up again. -/
def lookLocal (s : State) (v : Desc) (perm va len : Nat) : LocalLook :=
  (blocks4k (va % 2 ^ 52) len).foldr
    (fun b acc =>
      match v.maps.find? (fun m => m.blk == b.1 / 4096) with
      | some m => if m.perms.getLsbD perm then acc.cons ⟨m.pa + b.1 % 4096, b.2, m.mattr⟩ m.gen [] else .fault b.1
      | none => match peek s v.part b.1 with
        | .miss => .miss b.1
        | .absent => .fault b.1
        | .hit f pa =>
          if f.perms.getLsbD perm then
            acc.cons ⟨pa, b.2, f.mattr⟩ (genOf s v.part)
              [(f, ⟨b.1 / 4096, pa - b.1 % 4096, f.perms, f.mattr, genOf s v.part⟩)]
          else .fault b.1)
    (.ok [] [] [] (genOf s v.part))

/-- A lookup has succeeded: its fragments are used, and the descriptor keeps what it has looked up (R128). -/
def useLook (d : Nat) (fs : List Frag) (ms : List BlockMap) (s : State) : State :=
  modDesc d (fun v => { v with maps := v.maps ++ ms }) (each fs touch s)

/-- A local fault after start (R141, R146): nothing further is issued; the record carries LOCAL_FAULT. -/
def localFault (d va : Nat) (s : State) : State :=
  match desc s d with
  | none => s
  | some v => stopDesc d stLOCAL true (reportFault false v.part va (opcode v.bits) 0 s)

/-- Lookup for descriptor `d`: the extents and their generation, or none after the descriptor has started to wait or has
failed. -/
def translate (d perm va len : Nat) (s : State) : Option (List Extent × Nat) × State :=
  match desc s d with
  | none => (none, s)
  | some v =>
    match lookLocal s v perm va len with
    | .ok xs fs ms g => (some (xs, g), useLook d fs ms s)
    | .miss w => (none, awaitWalk .initiator v.part w (.desc d w) s)
    | .fault w => (none, localFault d w s)

/-! ### Tags (R57 to R60) -/

/-- No packet will follow under the descriptor's current tag. -/
def closeTag (d : Nat) (s : State) : State :=
  match (desc s d).bind (·.curTag) with
  | some t => settleTag t (modTag t (fun x => { x with closed := true }) s)
  | none => s

/-- A descriptor whose channel is a WEIGHT channel (R339). -/
def isWeight (s : State) (v : Desc) : Bool := dSeal v.bits && (chanOf s (dChan v.bits)).state == .weight

/-- A new tag for a descriptor. -/
def newTag (d : Nat) (v : Desc) (s : State) : Option (Nat × State) :=
  if 131072 ≤ s.txn.tags.keys.length then none
  else
    let t := leastNotIn s.txn.tags.keys
    let sealed := if dSeal v.bits && !isWeight s v then some (dChan v.bits) else none
    some (t, setDesc d { v with tags := v.tags ++ [t], curTag := some t, nseq := 0 }
      (setTag t ⟨d, false, false, Tbl.empty, [], sealed, false⟩ s))

/-- The tag and SEQ of a descriptor's next packet (R57): a tag covers at most 65,536 packets. None while every tag is in
use. -/
def nextSeq (d : Nat) (s : State) : Option (Nat × Nat × State) :=
  match desc s d with
  | none => none
  | some v =>
    match v.curTag with
    | some t =>
      if v.nseq < 65536 then some (t, v.nseq, setDesc d { v with nseq := v.nseq + 1 } s)
      else
        let s := closeTag d s
        match desc s d with
        | none => none
        | some v => (newTag d v s).map fun x => (x.1, 0, modDesc d (fun v => { v with nseq := 1 }) x.2)
    | none => (newTag d v s).map fun x => (x.1, 0, modDesc d (fun v => { v with nseq := 1 }) x.2)

/-! ### Packets of a descriptor -/

/-- The target address of a descriptor's data: RADDR, or YADDR for PARK and RESUME. -/
def remoteBase (b : BitVec 512) : Nat := if collFormat (opcode b) then dYaddr b else dRaddr b

/-- A request of a descriptor (R24, R29, R90). -/
def requestOf (s : State) (v : Desc) (ty : BitVec 6) (t seq addr len : Nat) (ff : Bool) : Packet :=
  let b := v.bits
  let wc := writeClass ty
  let sl := dSeal b && !isWeight s v
  { blankPacket with
    ptype := ty, ff := ff, sealed := sl, chan := if sl then BitVec.ofNat 8 (dChan b) else 0
    mcast := dMcast b, scope := if ty = tATOM || ty = tVACC then BitVec.ofNat 2 (dfld b 0 22 2) else 0
    vc := if ff then 4 else if dPrio b then 7 else 1
    pkey := v.pkey, src := ownId s, dst := BitVec.ofNat 8 (dTarget b), seq := BitVec.ofNat 16 seq
    tag := BitVec.ofNat 17 t, win := if wc then BitVec.ofNat 12 (dWin b) else 0, addr := BitVec.ofNat 52 addr
    len := BitVec.ofNat 12 len, expect := if wc then BitVec.ofNat 32 (dExpect b) else 0 }

/-- How many members answer a packet of a descriptor (R248). -/
def answersOf (b : BitVec 512) : Nat := if dMcast b then 2 ^ popcount 8 (dDst b) - 1 else 1

/-- A write-class packet of a descriptor is accounted to its tag and sent; a fence-final one is kept, without its
payload, until it is accounted for (R45, R46, R57). -/
def sendWrite (d elem : Nat) (p : Packet) (resendFrom skip : Nat) (s : State) : State :=
  match desc s d with
  | none => s
  | some v =>
    let n := packetLines p * answersOf v.bits
    let s := modTag p.tag.toNat (fun x =>
      let a := x.lines.get elem ⟨0, 0, 0, 0⟩
      { x with lines := x.lines.set elem ⟨a.sent + n, a.left + n, a.ok, a.size + covered p⟩ }) s
    let s := if p.ff then
      setDesc d { (((desc s d).getD v)) with
        resend := some ⟨{ p with payload := [] }, 0, resendFrom, skip, none, none, 0⟩ } s else s
    inject 0 p s

/-- The chained output packets and local writes that carry poisoned data are counted (R193). -/
def countPoison (v : Desc) (poison : Bool) (s : State) : State :=
  if poison && v.pipe.isSome then bump Reg.IMP_POISON_CNT s else s

/-- The type of a data packet of a descriptor: `last` is the transfer's last packet. -/
def dataType (b : BitVec 512) (last : Bool) : BitVec 6 :=
  let o := opcode b
  if o = opVACC then tVACC else if o = opPARK then tPWR else if o = opMESSAGE && last then tMSG else tWR

/-- A data packet of a descriptor: `off` is its offset in the transfer's target bytes (or in its element). -/
def dataPacket (s : State) (v : Desc) (t seq addr off elem : Nat) (last : Bool) (data : List PByte) : Packet :=
  let b := v.bits
  let ty := dataType b last
  let ff := last && (dFf b || opcode b == opMESSAGE)
  let p := { (requestOf s v ty t seq addr data.length ff) with
    poison := data.any (·.p), payload := data.map (·.b) }
  if ty = tMSG then
    { p with prior := BitVec.ofNat 24 off, subop := BitVec.ofNat 8 (off / 2 ^ 24),
             aux := BitVec.ofNat 16 (dSubop b + 2 ^ 8 * natField off 32 8) }
  else if ty = tVACC then { p with subop := BitVec.ofNat 8 (dSubop b) }
  else if opcode b = opSCATTER then { p with aux := BitVec.ofNat 16 elem }
  else p

/-- The pipe of a descriptor that issues nothing more is free unless its fence-final packet is unaccounted for (R46,
R156). -/
def freePipe (d : Nat) (s : State) : State :=
  match desc s d with
  | some v => if v.phase = .drain && v.resend.isNone then releasePipe d s else s
  | none => s

/-- Every packet of a descriptor has been issued: it waits for its tags. -/
def endIssue (d : Nat) (s : State) : State := freePipe d (closeTag d (modDesc d (fun v => { v with phase := .drain }) s))

/-! ### Unchained transfers -/

/-- The next packet's worth of an unchained transfer or scatter: local offset, target address, offset in the transfer,
length, element, and whether it is the last. -/
structure DataUnit where
  loc  : Nat
  addr : Nat
  off  : Nat
  len  : Nat
  elem : Nat
  last : Bool
  deriving DecidableEq, Repr

/-- Bytes up to the next 2,048 B boundary of a target address (R30). -/
def toBoundary (a : Nat) : Nat := 2048 - a % 2048

/-- Bytes of the elements before the one in progress: its slot, for a gather (R32). -/
def Desc.slot (v : Desc) : Nat := (v.elems.take v.elem).foldl (fun n e => n + e.2) 0

/-- The next unit of a descriptor, if data is left (R30, R34). -/
def nextUnit (v : Desc) : Option DataUnit :=
  let b := v.bits
  if opcode b = opSCATTER then
    match v.elems[v.elem]? with
    | none => none
    | some (a, len) =>
      let before := v.slot
      let n := min (len - v.pos) (toBoundary (a + v.pos))
      some ⟨before + v.pos, a + v.pos, v.pos, n, v.elem, v.pos + n == len && v.elem + 1 == v.elems.length⟩
  else
    let a := remoteBase b + v.pos
    let n := min (dLen b - v.pos) (toBoundary a)
    if n = 0 then none else some ⟨v.pos, a % 2 ^ 52, v.pos, n, 0, v.pos + n == dLen b⟩

/-- A unit's progress is taken. -/
def Desc.pass (v : Desc) (u : DataUnit) : Desc :=
  match v.elems[u.elem]? with
  | some (_, len) =>
    if opcode v.bits = opSCATTER && v.pos + u.len = len then { v with pos := 0, elem := v.elem + 1 }
    else { v with pos := v.pos + u.len }
  | none => { v with pos := v.pos + u.len }

/-- A unit's data is sent; the last unit ends the issue. None while no tag is free. -/
def sendUnit (d : Nat) (u : DataUnit) (data : List PByte) (s : State) : Option State :=
  match nextSeq d s with
  | none => none
  | some (t, seq, s) =>
    match desc s d with
    | none => none
    | some v =>
      let p := dataPacket s v t seq u.addr u.off u.elem u.last data
      let s := sendWrite d u.elem p u.loc 0 s
      let s := modDesc d (fun v => { (v.pass u) with reading := false, buf := none }) s
      some (if u.last then endIssue d s else s)

/-- The 8 B pattern of a FILL repeated over `n` bytes. -/
def patternBytes (b : BitVec 512) (n : Nat) : List PByte :=
  clean (fit n ((List.replicate (ceilDiv n 8) (leBytes 4 (dword b 9) ++ leBytes 4 (dword b 10))).flatten))

/-- One step of an unchained WRITE, VACC, MESSAGE, SCATTER, FILL or PARK: send what has been read, or read the next
unit's source. None where it must wait. -/
def stepData (d : Nat) (v : Desc) (s : State) : Option State :=
  match nextUnit v with
  | none => none
  | some u =>
    if opcode v.bits = opFILL then (if roomy s v then sendUnit d u (patternBytes v.bits u.len) s else none)
    else match v.buf with
      | some data => sendUnit d u data s
      | none =>
        if v.reading || !roomy s v then none
        else
          let va := (dLaddr v.bits + u.loc) % 2 ^ 52
          match translate d permLR va u.len s with
          | (some (xs, g), s) =>
            some (readMem (.source d false) xs false (some (v.part, g)) (modDesc d (fun v => { v with reading := true }) s))
          | (none, s) => some s

/-! ### Loads, gathers and atomics -/

/-- Expect a response under a tag. -/
def expect (t : Nat) (e : Expected) (s : State) : State := modTag t (fun x => { x with expects := x.expects ++ [e] }) s

/-- Bytes that the data of a read unit fills locally: a weight record opens to 2,032 bytes (R339). -/
def localLen (weight : Bool) (n : Nat) : Nat := if weight then 2032 else n

/-- Where the data of the target bytes from offset `off` on goes locally. -/
def localOff (weight : Bool) (off : Nat) : Nat := if weight then off / 2048 * 2032 else off

/-- One step of a READ: translate the next packet's destination and send its RD (R31, R141). -/
def stepRead (d : Nat) (v : Desc) (s : State) : Option State :=
  match nextUnit v with
  | none => none
  | some u =>
    if !roomy s v then none
    else
      let w := isWeight s v
      match translate d permLW (dLaddr v.bits + localOff w u.off) (localLen w u.len) s with
      | (none, s) => some s
      | (some (xs, g), s) =>
        match nextSeq d s with
        | none => none
        | some (t, seq, s) =>
          match desc s d with
          | none => none
          | some v =>
            let e : Expected := ⟨false, seq, 0, u.len, 0, xs, g, if w then some u.addr else none⟩
            let s := inject 0 (requestOf s v tRD t seq u.addr u.len false) (expect t e s)
            let s := modDesc d (fun v => { v with pos := v.pos + u.len }) s
            some (if u.last then endIssue d s else s)

/-- The aligned 2,048 B blocks that an element touches, with the offset of each in the element (R32). -/
def elementBlocks : Nat → Nat → Nat → Nat → List (Nat × Nat)
  | 0, _, _, _ => []
  | fuel + 1, a, off, len =>
    if len ≤ off then [] else
      let n := min (len - off) (toBoundary (a + off))
      (off, n) :: elementBlocks fuel a (off + n) len

/-- The physical pieces of the part `[off, off + n)` of a translated range. -/
def subPieces : List Extent → Nat → Nat → List Extent
  | [], _, _ => []
  | x :: xs, off, n =>
    if n = 0 then []
    else if x.len ≤ off then subPieces xs (off - x.len) n
    else
      let m := min n (x.len - off)
      ⟨x.pa + off, m, x.mattr⟩ :: subPieces xs 0 (n - m)

/-- One step of a GATHER: the GRD of the next element (R32). -/
def stepGather (d : Nat) (v : Desc) (s : State) : Option State :=
  match v.elems[v.elem]? with
  | none => none
  | some (a, len) =>
    if !roomy s v then none
    else
      match translate d permLW (dLaddr v.bits + v.slot) len s with
      | (none, s) => some s
      | (some (xs, g), s) =>
        match nextSeq d s with
        | none => none
        | some (t, _, s) =>
          match desc s d with
          | none => none
          | some v =>
            let blocks := elementBlocks 34 a 0 len
            let s := blocks.zipIdx.foldl
              (fun s b => expect t ⟨false, b.2, v.elem, b.1.2, v.elem, subPieces xs b.1.1 b.1.2, g, none⟩ s) s
            let p := { (requestOf s v tGRD t v.elem a 0 false) with
              expect := BitVec.ofNat 32 len, aux := BitVec.ofNat 16 v.elem }
            let s := modDesc d (fun v => { v with elem := v.elem + 1 }) (inject 0 p s)
            some (if v.elem + 1 = v.elems.length then endIssue d s else s)

/-- The ATOM of an ATOMIC descriptor (R52, R104). -/
def atomPacket (s : State) (v : Desc) (t seq : Nat) : Packet :=
  let b := v.bits
  { (requestOf s v tATOM t seq (dRaddr b) 32 (dFf b)) with
    subop := BitVec.ofNat 8 (dSubop b)
    payload :=
      let p : Packet := { blankPacket with subop := BitVec.ofNat 8 (dSubop b) }
      let w := atomWidth p
      let operand := leBytes 4 (dword b 9) ++ leBytes 4 (dword b 10) ++ leBytes 4 (dword b 11) ++ leBytes 4 (dword b 12)
      let compare := leBytes 4 (dword b 2) ++ leBytes 4 (dword b 3) ++ leBytes 4 (dword b 13) ++ leBytes 4 (dword b 14)
      fit 16 (operand.take w) ++ fit 16 (compare.take w) }

/-- The one step of an ATOMIC. -/
def stepAtomic (d : Nat) (s : State) : Option State :=
  match nextSeq d s with
  | none => none
  | some (t, seq, s) =>
    match desc s d with
    | none => none
    | some v =>
      let p := atomPacket s v t seq
      let s :=
        if dFetch v.bits then
          let s := if p.ff then
            setDesc d { v with resend := some ⟨{ p with payload := [] }, 0, 0, 0, none, none, 0⟩ } s else s
          inject 0 p (expect t ⟨true, seq, 0, 16, 0, [], genOf s v.part, none⟩ s)
        else sendWrite d 0 p 0 0 s
      some (endIssue d s)

/-! ### Cancellation (R111 to R114) -/

/-- A descriptor's last packet has been issued (R112); a resume goes on converting after it (R213). -/
def Desc.allIssued (v : Desc) : Bool := v.phase == .drain || (opcode v.bits == opRESUME && dLen v.bits ≤ v.pos)

/-- A cancelled bit is set and every affected descriptor but `spare` stops (R112, R183). -/
def cancelGroup (part g : Nat) (spare : Option Nat) (s : State) : State :=
  let s := if s.qe.cancelled.contains (g, part) then s
    else { s with qe := { s.qe with cancelled := s.qe.cancelled ++ [(g, part)] } }
  s.qe.descs.entries.foldl
    (fun s e =>
      if e.2.part = part && dCgEn e.2.bits && dGroup e.2.bits = g && !e.2.disabled && !e.2.stopped
          && !e.2.bad && spare != some e.1 && !e.2.allIssued then
        stopDesc e.1 stCANCELLED true s
      else s) s

/-! ### Chained transfers (R156 to R193) -/

/-- Elements of a chained descriptor's source. -/
def chainCount (v : Desc) : Nat := ((parseProg v.chain).count (dLen v.bits)).getD 0

/-- An EXIT test has fired on a descriptor (R114, R181, R182): `window` is the offset of the firing window. -/
def exitFired (d window : Nat) (s : State) : State :=
  match desc s d with
  | none => s
  | some v =>
    let s := bump Reg.IMP_EXIT_CNT s
    let s := if bit s Reg.IMP_EXIT_STATUS 0 then s
      else setReg Reg.IMP_EXIT_STATUS (BitVec.ofNat 64
        (1 + 2 * v.pipe.getD 0 + 2 ^ 8 * v.queue + 2 ^ 16 * v.index.toNat + 2 ^ 32 * window)) s
    let s := setDesc d { v with fired := true } s
    if dCgEn v.bits then cancelGroup v.part (dGroup v.bits) (some d) s else s

/-- The bytes of the next packet of a chain's output, if they are there (R30): a packet is filled to its boundary, and at
the end of the output the last one takes what is left. Before a faulting block only filled packets go out (R141). -/
def outputReady (v : Desc) : Option Nat :=
  let n := toBoundary (remoteBase v.bits + v.opos)
  if n ≤ v.obuf.length then some n
  else if (v.chainEnd = .whole || v.chainEnd = .stop) && 0 < v.obuf.length then some v.obuf.length
  else none

/-- The place in a chain's source from which the output from byte `off` on can be rebuilt, in elements, and the bytes of
that output before `off` (R46): the latest point where every stage starts afresh. -/
def restartPoint (pg : Prog) (off : Nat) : Nat × Nat :=
  let k := off / pg.outBytes pg.restart
  (k * pg.restart, off - k * pg.outBytes pg.restart)

/-- A packet of `n` bytes of a chain's output is sent. Only the whole output ends with a fence-final packet (R141, R181).
None while no tag is free. -/
def sendOutput (d n : Nat) (s : State) : Option State :=
  match nextSeq d s with
  | none => none
  | some (t, seq, s) =>
    match desc s d with
    | none => none
    | some v =>
      let a := (remoteBase v.bits + v.opos) % 2 ^ 52
      let r := restartPoint (parseProg v.chain) v.opos
      let last := v.chainEnd = .whole && v.obuf.length = n
      let p := dataPacket s v t seq a v.opos 0 last (v.obuf.take n)
      let s := countPoison v p.poison (sendWrite d 0 p r.1 r.2 s)
      some (modDesc d (fun v => { v with obuf := v.obuf.drop n, opos := v.opos + n }) s)

/-- Elements of the chunk of a chained descriptor's source that is read next. -/
def chunkLen (v : Desc) : Nat := let pg := parseProg v.chain; min pg.chunk (chainCount v - v.pos)

/-- The chunk that has been read goes through the pipe. Of the part before a faulting block the pipe passes on the output
that it can complete (R194). -/
def runChunk (d : Nat) (v : Desc) (a b : List PByte) (s : State) : State :=
  let pg := parseProg v.chain
  let n := chunkLen v
  let r := runPipe pg (!v.fired) (pg.srcBytes v.pos) (v.pos * fmtBytes pg.fmt2) a b
  let out := if v.chainEnd = .fault && !r.stop then r.bytes.take (pg.outBefore (pg.passedBy n a.length b.length))
    else r.bytes
  let ended : ChainEnd :=
    if r.stop then .stop else if v.chainEnd = .fault then .fault
    else if v.pos + n = chainCount v then .whole else .open
  let s := raiseFlags d r.flags s
  let s := modDesc d (fun v => { v with
    buf := none, buf2 := none, reading := false, obuf := v.obuf ++ out, pos := v.pos + n, chainEnd := ended }) s
  match r.fired with
  | some w => exitFired d (v.pos * pg.exitBytes / 512 + w) s
  | none => s

/-- All the output of a chained descriptor whose input has ended has been sent: the issue ends, or the descriptor stops
(R141, R181). -/
def endChain (d : Nat) (e : ChainEnd) (s : State) : Option State :=
  match e with
  | .open => none
  | .whole => some (endIssue d s)
  | .stop => some (stopDesc d stCANCELLED false s)
  | .fault => some (stopDesc d stLOCAL false s)

/-- The bytes of `len` from `va` that lie before the first faulting block. -/
def bytesBefore (s : State) (v : Desc) (perm va len : Nat) : Nat :=
  (blocks4k (va % 2 ^ 52) len).foldr
    (fun b acc => match lookLocal s v perm b.1 b.2 with
      | .ok _ _ _ _ => b.2 + acc
      | _ => 0) 0

/-- A grouped source cut into the data and the parameter line of each superblock, in order, each with its place in the
order of reading: of each superblock the line, then the data (R174). -/
def groupedParts (pg : Prog) : Nat → List Extent → Nat → List (Nat × Extent)
  | 0, _, _ => []
  | fuel + 1, xs, i =>
    let n := xs.foldl (fun n x => n + x.len) 0
    let sb := min n (pg.srcBytes (16 * pg.groupSize.getD 32))
    if n = 0 then []
    else (subPieces xs 0 (sb - 64)).map (fun x => (2 * i + 1, x)) ++ (subPieces xs (sb - 64) 64).map (fun x => (2 * i, x))
      ++ groupedParts pg fuel (subPieces xs sb (n - sb)) (i + 1)

/-- Requests in the order of their places. -/
def byRank (ranks : List Nat) (l : List MemReq) : List MemReq := (sortBy (·.1) (ranks.zip l)).map (·.2)

/-- Where the source of `n` elements from element `k` on lies, and the second stream's part for them, of length 0 where
the chain takes none. -/
def chainSource (v : Desc) (k n : Nat) : (Nat × Nat) × (Nat × Nat) :=
  let pg := parseProg v.chain
  (((dLaddr v.bits + pg.srcBytes k) % 2 ^ 52, pg.srcBytes (k + n) - pg.srcBytes k),
   ((dLaddr2 v.bits + k * fmtBytes pg.fmt2) % 2 ^ 52, if pg.usesSecond then n * fmtBytes pg.fmt2 else 0))

/-- A read of a chain's source goes out. Where the chain starts with EXPAND_GRP each superblock's parameter line is
read before its data (R174). -/
def readSource (pg : Prog) (what : RdWhat) (xs : List Extent) (user : Option (Nat × Nat)) (s : State) : State :=
  if pg.startsGrouped then
    let ys := groupedParts pg 1024 xs 0
    readOrdered (byRank (ys.flatMap fun y => List.replicate (cutExtent y.2.pa y.2.len).length y.1)) what (ys.map (·.2)) false
      user s
  else readMem what xs false user s

/-- The reads of a chained descriptor go out: its source, and its second stream if there is one. -/
def readChain (d : Nat) (what : Nat → Bool → RdWhat) (v : Desc) (r1 r2 : LocalLook) (s : State) : State :=
  match r1, r2 with
  | .ok xs fs ms g, .ok xs2 fs2 ms2 g2 =>
    let s := useLook d (fs ++ fs2) (ms ++ ms2) s
    let s := readSource (parseProg v.chain) (what d false) xs (some (v.part, g)) s
    if xs2.isEmpty then s else readMem (what d true) xs2 false (some (v.part, g2)) s
  | _, _ => s

/-- A block at `w` of the chunk to be read next faults: the part before it is read, to be passed by the pipe, and the
descriptor ends with LOCAL_FAULT (R141, R194). -/
def chainPartial (d : Nat) (v : Desc) (w : Nat) (s : State) : State :=
  let pg := parseProg v.chain
  let x := chainSource v v.pos (chunkLen v)
  let k := pg.passedBy (chunkLen v) (bytesBefore s v permLR x.1.1 x.1.2) (bytesBefore s v permLR x.2.1 x.2.2)
  let s := setDesc d { v with chainEnd := .fault, reading := 0 < k } (reportFault false v.part w (opcode v.bits) 0 s)
  let y := (chainSource v v.pos (min (chunkLen v) (pg.wholeSource k))).1
  let z := (chainSource v v.pos k).2
  if k = 0 then s
  else readChain d .source v (lookLocal s v permLR y.1 y.2) (lookLocal s v permLR z.1 z.2) s

/-- The address at which a lookup waits, or faults. -/
def LocalLook.at : LocalLook → Nat
  | .miss w => w
  | .fault w => w
  | .ok _ _ _ _ => 0

/-- One step of a chained transfer: send output that fills a packet, end, run the chunk that has been read, or read the
next one. A fault in the chunk lets the pipe pass the part before the faulting block, and then stops the descriptor
(R141). None where it must wait: while its packets are held up it reads nothing more (R18). -/
def stepChain (d : Nat) (v : Desc) (s : State) : Option State :=
  match outputReady v with
  | some n => if roomy s v then sendOutput d n s else none
  | none =>
    match v.buf, v.buf2 with
    | some a, b2 =>
      if (parseProg v.chain).usesSecond && b2.isNone then none else some (runChunk d v a (b2.getD []) s)
    | none, _ =>
      if v.reading then none
      else if v.chainEnd != .open then endChain d v.chainEnd s
      else if !roomy s v || chunkLen v = 0 then none
      else
        let x := chainSource v v.pos (chunkLen v)
        match lookLocal s v permLR x.1.1 x.1.2, lookLocal s v permLR x.2.1 x.2.2 with
        | .miss w, _ => some (awaitWalk .initiator v.part w (.desc d w) s)
        | _, .miss w => some (awaitWalk .initiator v.part w (.desc d w) s)
        | .fault w, _ => some (chainPartial d v w s)
        | _, .fault w => some (chainPartial d v w s)
        | r1, r2 => some (readChain d .source v r1 r2 (modDesc d (fun v => { v with reading := true }) s))

/-- The local addresses from which a running descriptor reads or loads next (R128). -/
def nextLocal (s : State) (v : Desc) : List Nat :=
  let b := v.bits
  if dChainEn b then
    let x := chainSource v (v.pos + if v.reading || v.buf.isSome then chunkLen v else 0) 0
    [x.1.1, x.2.1]
  else if opcode b = opGATHER then [(dLaddr b + v.slot) % 2 ^ 52]
  else match nextUnit v with
    | none => []
    | some u => [(dLaddr b + localOff (isWeight s v) (u.loc + if v.reading || v.buf.isSome then u.len else 0)) % 2 ^ 52]

/-! ### Fence-final packets sent again (R45, R46) -/

/-- The rebuilt fence-final packet goes out again. -/
def resendPacket (d : Nat) (data : List PByte) (s : State) : State :=
  match desc s d with
  | none => s
  | some v =>
    match v.resend with
    | none => s
    | some r =>
      let p := { r.packet with poison := data.any (·.p), payload := data.map (·.b) }
      countPoison v p.poison
        (inject 0 p (setDesc d { v with resend := some { r with stage := 0, data := none, data2 := none } } s))

/-- The bytes of a rebuilt packet of a chained descriptor: its source from the restart point through the pipe again; no
EXIT test fires (R46). -/
def rebuild (v : Desc) (r : Resend) (a b : List PByte) : List PByte :=
  let pg := parseProg v.chain
  ((runPipe pg false (pg.srcBytes r.from_) (r.from_ * fmtBytes pg.fmt2) a b).bytes.drop r.skip).take r.packet.len.toNat

/-- The bytes of a refused packet that is being rebuilt, once all of its source has returned (R46). -/
def rebuiltData (v : Desc) (r : Resend) : Option (List PByte) :=
  match r.data with
  | none => none
  | some a =>
    if !dChainEn v.bits then some a
    else match r.data2 with
      | some b => some (rebuild v r a b)
      | none => if (parseProg v.chain).usesSecond then none else some (rebuild v r a [])

/-- GATHER and SCATTER, whose elements end one by one (R33). -/
def isElement (b : BitVec 512) : Bool := opcode b == opGATHER || opcode b == opSCATTER

/-- The statuses of a part that decide over an element operation's status (R33). -/
def overElements : List Byte := [stDISABLED, stCANCELLED, stSUMP, stTIMEOUT, stLOCAL]

/-- A part of a descriptor has ended with a status other than OK (R33, R65). -/
def partEnded (d elem : Nat) (st : Byte) (s : State) : State :=
  modDesc d (fun v =>
    if isElement v.bits then
      { v with elemEnd := v.elemEnd.set elem (worst [st, v.elemEnd.get elem stOK]),
               ends := if overElements.contains st then v.ends ++ [st] else v.ends }
    else { v with ends := v.ends ++ [st] }) s

/-- A refused packet is not sent again: its lines end with a status, and its pipe is free (R45, R46). -/
def endResend (d : Nat) (r : Resend) (st : Byte) (s : State) : State :=
  let t := r.packet.tag.toNat
  let s := unexpect r.packet s
  let s := modDesc d (fun v => { v with resend := none }) s
  freePipe d (settleTag t (partEnded d (linesElem r.packet) st s))

/-- A read is of a descriptor's refused packet. -/
def RdWhat.ofResend : RdWhat → Bool
  | .resend _ _ => true
  | _ => false

/-- The source of a refused packet faults at `w`: its lines end with LOCAL_FAULT (R46). -/
def resendFault (d : Nat) (v : Desc) (r : Resend) (w : Nat) (s : State) : State :=
  endResend d r stLOCAL (reportFault false v.part w (opcode v.bits) 0 s)

/-- Where the bytes of a refused packet are read again: in the source, and in the second stream. -/
def resendSource (v : Desc) (r : Resend) : (Nat × Nat) × (Nat × Nat) :=
  if dChainEn v.bits then chainSource v r.from_ (chainCount v - r.from_)
  else (((dLaddr v.bits + r.from_) % 2 ^ 52, r.packet.len.toNat), (0, 0))

/-- A refused packet is being rebuilt: its source is translated and read (R46). A fault ends its lines with
LOCAL_FAULT. -/
def stepResend (d : Nat) (v : Desc) (r : Resend) (s : State) : Option State :=
  if opcode v.bits = opFILL then some (resendPacket d (patternBytes v.bits r.packet.len.toNat) s)
  else if opcode v.bits = opATOMIC then
    some (resendPacket d (clean (atomPacket s v r.packet.tag.toNat r.packet.seq.toNat).payload) s)
  else
    let x := resendSource v r
    let fresh := { v with maps := [] }
    match lookLocal s fresh permLR x.1.1 x.1.2, lookLocal s fresh permLR x.2.1 x.2.2 with
    | .miss w, _ => some (awaitWalk .initiator v.part w (.desc d w) s)
    | _, .miss w => some (awaitWalk .initiator v.part w (.desc d w) s)
    | .fault w, _ => some (resendFault d v r w s)
    | _, .fault w => some (resendFault d v r w s)
    | r1, r2 => some (readChain d .resend v r1 r2 (setDesc d { v with resend := some { r with stage := 3 } } s))

/-! ### The issue loop -/

/-- Every packet of a descriptor has been built, and none is to be built again. -/
def allBuilt (v : Desc) : Bool := v.phase == .drain && match v.resend with | some r => r.stage == 0 | none => true

/-- The channel of a sealed descriptor that has started is no longer open for it (R331, R334). A channel that its counter
has exhausted leaves descriptors alone whose packets have all been built (R349). -/
def sealLost (s : State) (v : Desc) : Bool :=
  let c := chanOf s (dChan v.bits)
  dSeal v.bits && !v.stopped && !v.disabled && 0 < v.startNo && v.phase != .written
    && !(c.part == v.part && (c.state == .opened || c.state == .weight || (c.state == .exhausted && allBuilt v)))

/-- One step of a running descriptor, by its opcode; none where it waits. -/
def stepRunning (d : Nat) (v : Desc) (s : State) : Option State :=
  let o := opcode v.bits
  if o = opNOP then some (endIssue d s)
  else if o = opREAD then stepRead d v s
  else if o = opGATHER then stepGather d v s
  else if o = opATOMIC then stepAtomic d s
  else if dChainEn v.bits && (o = opPARK || o = opWRITE || o = opVACC || o = opMESSAGE) then
    (if v.pipe.isNone then none else stepChain d v s)
  else if [opWRITE, opVACC, opMESSAGE, opSCATTER, opFILL, opPARK].contains o then stepData d v s
  else none

/-- A sealed descriptor whose channel has closed issues nothing more and ends with ACCESS, a refused packet of it too
(R334). -/
def closeSealed (d : Nat) (v : Desc) (s : State) : State :=
  let s := stopDesc d stACCESS false s
  match v.resend with
  | some r => if r.stage = 0 then s else endResend d r stACCESS s
  | none => s

/-- One step of a descriptor that is running or has a packet to rebuild; none where it must wait. -/
def stepDesc (d : Nat) (s : State) : Option State :=
  match desc s d with
  | none => none
  | some v =>
    if sealLost s v then some (closeSealed d v s)
    else if !mayIssue s v then none
    else
      match v.resend with
      | some r =>
        if r.stage = 2 then stepResend d v r s
        else if r.stage = 3 then (rebuiltData v r).map fun data => resendPacket d data s
        else none
      | none =>
        if v.phase != .running then none else stepRunning d v s

/-- A descriptor goes on until it must wait. Each step sends a packet, starts a read or ends the issue, and packet
building takes at most 64 packets at a time. -/
def advance : Nat → Nat → State → State
  | 0, _, s => s
  | fuel + 1, d, s =>
    match stepDesc d s with
    | none => s
    | some s => advance fuel d s

/-- A descriptor goes on. -/
def resume (d : Nat) (s : State) : State := advance 256 d s

/-- Every descriptor in progress goes on, oldest first. -/
def resumeAll (s : State) : State := each s.qe.descs.keys resume s

/-! ### Answers (R31, R45, R54, R57 to R61, R199, R336) -/

/-- A stray answer (R60). -/
def stray (s : State) : State := bump Reg.GEN_STRAY_DROP s

/-- A refusal fits the packet it refuses (R60): its element, and its lines, of which so many are still unaccounted; a
fetch ATOM has one line. -/
def refusalFits (x : TagSt) (p : Packet) (elem n : Nat) : Bool :=
  elem == linesElem p && n ≤ packetLines p
    && (atomFetch p && x.expects.any (fun e => e.atom && e.seq == p.seq.toNat)
      || (match x.lines.find elem with | some a => n ≤ a.left | none => false))

/-- A descriptor's fence-final packet has been refused (R45): it waits for its backoff, and ends at the 16th refusal. -/
def refused (x : TagSt) (t elem n : Nat) (s : State) : State :=
  match (desc s x.desc).bind (·.resend) with
  | none => stray s
  | some r =>
    if r.stage != 0 || r.packet.tag.toNat != t || !refusalFits x r.packet elem n then stray s
    else if r.refusals + 1 < 16 then
      modDesc x.desc (fun v => { v with resend := some { r with refusals := r.refusals + 1, stage := 1 } }) s
    else endResend x.desc r stHOLDFULL s

/-- The element that a record counts in. The sump copies AUX[3:0] of the packet into ELEM (R285), which is an element
index only for a scatter (R24): for another operation its lines are those of element 0 (assumption log 32). -/
def recordElem (s : State) (x : TagSt) (st : Byte) (elem : Nat) : Nat :=
  let scatter : Bool := match desc s x.desc with
    | some v => opcode v.bits == opSCATTER
    | none => false
  if st = stSUMP && !scatter then 0 else elem

/-- One record of a LACK at its initiator (R57, R60, R61). -/
def takeRecord (st : Byte) (t elem n : Nat) (s : State) : State :=
  match tagOf s t with
  | none => stray s
  | some x =>
    if x.quarantine then stray s
    else if st = stHOLDFULL then refused x t elem n s
    else
      let elem := recordElem s x st elem
      match x.lines.find elem with
      | none => stray s
      | some a =>
        if a.left < n then stray s
        else
          let a := { a with left := a.left - n, ok := if st = stOK then a.ok + n else a.ok }
          let s := setTag t { x with lines := x.lines.set elem a, sump := x.sump || st == stSUMP } s
          settleTag t (if st = stOK then s else partEnded x.desc elem st s)

/-- The records of a LACK payload. -/
def lackRecords (p : Packet) : List (Byte × Nat × Nat × Nat) :=
  (List.range (p.len.toNat / 8)).map fun i =>
    let v := sliceNat p.payload (8 * i) 8
    (BitVec.ofNat 8 (natField v 56 8), natField v 39 17, natField v 35 4, natField v 0 32)

/-- An unsealed answer to a sealed tag is accepted only if it is a sump answer (R336). -/
def sealedOk (x : TagSt) (p : Packet) : Bool :=
  x.sealed.isNone || p.sealed
    || (p.status == stSUMP && (if p.ptype = tATOMR then p.len == 16 && p.payload == zeros 16 else p.payload.isEmpty))

/-- Bytes put where an answer's pieces lie. -/
def storesOf : List Extent → List PByte → List Store
  | [], _ => []
  | x :: rest, data => ⟨x.pa, x.mattr, allBytes (data.take x.len)⟩ :: storesOf rest (data.drop x.len)

/-- The data of a load's response is written locally (R31); a weight record is opened first (R339). -/
def placeData (d t : Nat) (e : Expected) (p : Packet) (s : State) : State :=
  match desc s d with
  | none => s
  | some v =>
    let raw := (fit e.len p.payload).map fun b => (⟨b, p.poison⟩ : PByte)
    let put (data : List PByte) (s : State) : State :=
      writeMem (.dest t d e.elem data.length e.seq (bitOfB p.poison)) (storesOf e.pieces data) false
        (some (v.part, e.gen)) (modDesc d (fun v => { v with writes := v.writes + 1 }) s)
    match e.addr with
    | none => put raw s
    | some a =>
      let c := chanOf s (dChan v.bits)
      let r := (a - c.img) / 2048
      match if c.state = .weight && c.part = v.part then c.keySlot.bind (fun k => s.sec.keys.find k) else none with
      | none => partEnded d 0 stACCESS s
      | some key =>
        match Config.gcmOpen key (leBytes 4 c.imageId.toNat ++ beBytes 8 r) [] (p.payload.take 2032)
            (slice p.payload 2032 16) with
        | some plain => put ((fit 2032 plain).map fun b => ⟨b, p.poison⟩) s
        | none => partEnded d 0 stACCESS (authFail 4 (dChan v.bits) p.src p.ptype s)
where
  /-- A Bool as a number. -/
  bitOfB (b : Bool) : Nat := if b then 1 else 0

/-- The expected RDR that one fits (R31, R32, R60): by its SEQ, and of a gather by its element too; the failing answer to
a gather element by the element alone. -/
def fits (gather : Bool) (p : Packet) (e : Expected) : Bool :=
  !e.atom && (!gather || e.aux == p.aux.toNat % 16) && ((gather && p.status != stOK) || e.seq == p.seq.toNat)

/-- An RDR (or the PRDR of a resume without staging) at its initiator (R31, R32, R60). Model's choice: an unsealed answer
under a sealed tag is dropped with cause 1 (R336; assumption log 39). -/
def takeRdr (p : Packet) (s : State) : State :=
  let t := p.tag.toNat
  match tagOf s t with
  | none => stray s
  | some x =>
    if x.quarantine then stray s
    else if !sealedOk x p then authFail 1 (x.sealed.getD 0) p.src p.ptype s
    else match desc s x.desc with
      | none => stray s
      | some v =>
        let g := opcode v.bits == opGATHER
        match if opcode v.bits = opRESUME then none else x.expects.find? (fits g p) with
        | none => stray s
        | some e =>
          let s := setTag t { x with
            expects := x.expects.filter fun y => if g && p.status != stOK then !fits g p y else y != e
            sump := x.sump || p.status == stSUMP } s
          let s := if p.status = stOK then placeData x.desc t e p s else partEnded x.desc e.elem p.status s
          settleTag t s

/-- An ATOMR at its initiator (R54): the old value stays with the descriptor. Model's choice: an unsealed one under a
sealed tag is dropped with cause 1 (R336; assumption log 39). -/
def takeAtomr (p : Packet) (s : State) : State :=
  let t := p.tag.toNat
  match tagOf s t with
  | none => stray s
  | some x =>
    if x.quarantine then stray s
    else if !sealedOk x p then authFail 1 (x.sealed.getD 0) p.src p.ptype s
    else match x.expects.find? (fun e => e.atom && e.seq == p.seq.toNat), desc s x.desc with
      | some e, some v =>
        let w := atomWidth { blankPacket with subop := BitVec.ofNat 8 (dSubop v.bits) }
        let s := setTag t { x with expects := x.expects.filter fun y => y != e,
                                   sump := x.sump || p.status == stSUMP } s
        let keep := p.status = stOK || p.status = stPOISONED
        let s := modDesc x.desc (fun v => { v with
          resend := none
          result := if keep then BitVec.ofNat 128 (sliceNat p.payload 0 w) else v.result
          done := if p.status = stOK then v.done + w else v.done
          ends := if p.status = stOK then v.ends else v.ends ++ [p.status] }) s
        settleTag t s
      | _, _ => stray s

/-- Data of a load arrives while master enable is 0: it is dropped and counted (R119). -/
def dropData (s : State) : State := bump Reg.GEN_MEM_DROP s

/-! ### Completion records (R63, R65, R107) -/

/-- The status of a descriptor's record (R33, R65). -/
def recordStatus (v : Desc) : Byte :=
  if isElement v.bits && v.ends.isEmpty then
    let failed := v.elemEnd.entries.filter fun e => e.2 != stOK
    match failed with
    | [] => stOK
    | e :: _ => if failed.length = v.elems.length then e.2 else stPARTIAL
  else worst v.ends

/-- FAULT_MASK, FIRST_FAULT and DETAIL of a record (R33, R107), as word 2. -/
def faultWord (v : Desc) : Nat :=
  let failed := v.elemEnd.entries.filter fun e => e.2 != stOK
  match failed with
  | [] => 0
  | e :: _ => (failed.foldl (fun m x => setBit m x.1) 0) + 2 ^ 16 * e.1 + 2 ^ 24 * e.2.toNat

/-- DONE of a record: 0 for a collective that ends with another status than OK (R205, R216). -/
def recordDone (v : Desc) (st : Byte) : Nat := if isCollective (opcode v.bits) && st != stOK then 0 else v.done

/-- A collective's tag is free with its record (R202), in quarantine after a SUMP answer (R286) or where it is already
(R121). -/
def endTag (t : Nat) (s : State) : State :=
  match tagOf s t with
  | some x => if x.quarantine then s else freeTag t x.sump s
  | none => s

/-- A descriptor's record is written (R97, R98, R107), and the descriptor is over. Model's choice: for a fence (R110), the
completion tail and CR_IRQ a record is written as its write is put to the memory ports, while IDLE waits until the port
has accepted it (R91; assumption log 27). -/
def writeRecord (d : Nat) (s : State) : State :=
  match desc s d with
  | none => s
  | some v =>
    let st := recordStatus v
    let done := recordDone v st
    let word0 := 2 ^ 24 * (if v.token then 2 else 0) + 2 ^ 16 * st.toNat + v.index.toNat
    let user := if v.bad && !v.token then 0 else dword v.bits 1
    let tail := if dFetch v.bits && !v.bad then leBytes 16 v.result.toNat else leBytes 4 (natField done 32 8) ++ zeros 12
    let rest := leBytes 4 user ++ leBytes 4 (faultWord v) ++ leBytes 4 done ++ tail
    let irq := (dflag v.bits 12 && !v.bad) || st != stOK
    let s := releasePipe d s
    let s := each (if isCollective (opcode v.bits) then v.tags else []) endTag s
    let s := if isCollective (opcode v.bits) && (collOf s d).isSome && st != stOK then
      { s with seq := { s.seq with refused := s.seq.refused ++ [(dCid v.bits, s.now)] } } else s
    let s := { s with qe := { s.qe with descs := s.qe.descs.erase d }, seq := { s.seq with colls := s.seq.colls.erase d } }
    let s := modQueue v.queue (fun q => { q with reserved := q.reserved - 1,
                                                 fetched := q.fetched.filter fun x => x != d }) s
    pushRecord v.queue word0 rest irq s

/-- A record may be written (R57, R63, R72): every packet issued or the descriptor stopped, every tag accounted for,
every local write accepted, and for a collective every read returned and every CABORT sent (R216). -/
def recordDue (s : State) (d : Nat) (v : Desc) : Bool :=
  masterEn s && !v.disabled && v.phase == .drain && (v.tags.isEmpty || isCollective (opcode v.bits)) && v.writes == 0
    && (match collOf s d with
      | some c => c.writes == 0 && c.reads == 0 && c.waiting.isEmpty && !goneReads s d
      | none => true)

/-! ### Meanings -/

/-- An RDR at its initiator (R31, R119). -/
def execRdrReceive (p : Packet) (s : State) : Res :=
  .next (onlyIf (coreUp s && p.ptype == tRDR)
    (fun s =>
      let s := takeEjected p s
      if p.abt then s else if masterEn s then issueAll (takeRdr p s) else dropData s) s)

/-- An ATOMR at its initiator (R54, R119). -/
def execAtomrReceive (p : Packet) (s : State) : Res :=
  .next (onlyIf (coreUp s && p.ptype == tATOMR)
    (fun s =>
      let s := takeEjected p s
      if p.abt then s else if masterEn s then issueAll (takeAtomr p s) else dropData s) s)

/-- A LACK at its initiator (R57, R60, R61); master enable does not matter (R119). -/
def execLackReceive (p : Packet) (s : State) : Res :=
  .next (onlyIf (coreUp s && p.ptype == tLACK)
    (fun s =>
      let s := takeEjected p s
      if p.abt then s
      else issueAll (each (lackRecords p) (fun r s => takeRecord r.1 r.2.1 r.2.2.1 r.2.2.2 s) s)) s)

/-- The backoff after a refusal has ended (R45): the packet is rebuilt and sent again. -/
def execHoldFullResend (d : Nat) (s : State) : Res :=
  .next (match desc s d with
    | none => s
    | some v =>
      match v.resend with
      | none => s
      | some r =>
        if r.stage = 1 && masterEn s && !v.disabled && !v.stopped then
          issueAll (resume d (setDesc d { v with resend := some { r with stage := 2 } } s))
        else s)

/-- The elements of a tag's packets that are not wholly accounted for. -/
def TagSt.openElems (x : TagSt) : List Nat :=
  (x.lines.filterV fun a => a.left != 0).map (·.1) ++ (x.expects.map (·.elem)).eraseDups

/-- What a tag's operation timeout does to its descriptor (R33, R58): the parts not accounted for have ended with
TIMEOUT. A collective ends with it (R217). -/
def timedOut (x : TagSt) (s : State) : State :=
  match desc s x.desc with
  | none => s
  | some v =>
    if isCollective (opcode v.bits) || opcode v.bits = opRESUME then stopDesc x.desc stTIMEOUT false s
    else
      modDesc x.desc (fun v => { v with ends := v.ends ++ [stTIMEOUT] })
        (each (if isElement v.bits then x.openElems else []) (fun e s => partEnded x.desc e stTIMEOUT s) s)

/-- A tag's operation timeout has expired (R58): the descriptor reports TIMEOUT and the tag goes into quarantine. A
fence-final packet under that tag is not sent again, and what has not been read for it is not (R72). -/
def execOperationTimeout (tag : Tag) (s : State) : Res :=
  .next (match tagOf s tag.toNat with
    | none => s
    | some x =>
      if x.quarantine then s
      else
        let own : Bool := match (desc s x.desc).bind (·.resend) with
          | some r => r.packet.tag == tag
          | none => false
        timedOut x (freeTag tag.toNat true (onlyIf own (withdrawReads x.desc RdWhat.ofResend) s)))

/-- A quarantined tag may be allocated again (R60). -/
def execTagQuarantineEnd (tag : Tag) (s : State) : Res :=
  .next (match tagOf s tag.toNat with
    | none => s
    | some x =>
      if x.quarantine then { s with txn := { s.txn with tags := s.txn.tags.erase tag.toNat } } else s)

/-- A descriptor's completion record is written once every tag is accounted for (R63, R72). -/
def execWriteCompletionRecord (d : Nat) (s : State) : Res :=
  .next (match desc s d with
    | none => s
    | some v => if recordDue s d v then issueAll (fetchAll (flushBacklog (writeRecord d s))) else s)

end Sys2Proof.Machine
end

