-- ==== Sys2Proof/Machine/Collective.lean ====
section
/-!
DEFINITION. Machine/Collective.lean: the collective sequencer: reductions and gathers over sub-cubes, broadcast, expert
dispatch and combine, resume (R195 to R217).
-/

namespace Sys2Proof.Machine

/-! ### Geometry (R198, R203, R204) -/

/-- The dimensions of a collective, ascending. -/
def collDims (b : BitVec 512) : List Nat := bitsOf 8 (dSubop b)

/-- Dimension `d_k`. -/
def dimAt (b : BitVec 512) (k : Nat) : Nat := (collDims b).getD k 0

/-- Steps of one pass over the dimensions. -/
def collN (b : BitVec 512) : Nat := (collDims b).length

/-- The partner across `d_k`. -/
def partner (s : State) (b : BitVec 512) (k : Nat) : Nat := (ownId s).toNat ^^^ 2 ^ dimAt b k

/-- A member's block index (R198). -/
def blockIndex (b : BitVec 512) (id : Nat) : Nat :=
  (List.range (collN b)).foldl
    (fun j k => j + (if id.testBit (dimAt b k) then 2 ^ (collN b - 1 - k) else 0)) 0

/-- Where the region that a member holds before step `k` of a reduce-scatter begins (R203). -/
def regionStart (b : BitVec 512) (id k : Nat) : Nat :=
  (List.range k).foldl (fun x i => x + (if id.testBit (dimAt b i) then dLen b / 2 ^ (i + 1) else 0)) 0

/-- A descriptor's opcode reduces: its first `n` steps are those of R203. -/
def reduces (b : BitVec 512) : Bool := opcode b == opALLREDUCE || opcode b == opREDSCAT

/-- Steps before the first gather step. -/
def gatherBase (b : BitVec 512) : Nat := if opcode b = opALLREDUCE then collN b else 0

/-- All steps of a reduction or gather. -/
def totalSteps (b : BitVec 512) : Nat := if opcode b = opALLREDUCE then 2 * collN b else collN b

/-- A step is a reduce-scatter step. -/
def isReduceStep (b : BitVec 512) (st : Nat) : Bool := reduces b && st < collN b

/-- The dimension index that a step uses (R203, R204). -/
def stepDim (b : BitVec 512) (st : Nat) : Nat :=
  if isReduceStep b st then st else collN b - 1 - (st - gatherBase b)

/-- The blocks a node holds before gather step `m`: start and length. -/
def heldBlocks (b : BitVec 512) (id m : Nat) : Nat × Nat :=
  let blk := dLen b / 2 ^ collN b
  (blockIndex b id / 2 ^ m * 2 ^ m * blk, 2 ^ m * blk)

/-- What a step delivers here: offset of its first byte in its buffer, and its length (R203, R204). -/
def stepArea (s : State) (b : BitVec 512) (st : Nat) : Nat × Nat :=
  if isReduceStep b st then (dLen b - dLen b / 2 ^ st, dLen b / 2 ^ (st + 1))
  else heldBlocks b (partner s b (stepDim b st)) (st - gatherBase b)

/-- Lines that a step delivers here. -/
def stepLines (s : State) (b : BitVec 512) (st : Nat) : Nat := (stepArea s b st).2 / 64

/-! ### Broadcast (R207) -/

/-- The dimension masks of the two phases of a broadcast; the second is 0 where it is empty. -/
def bcastMasks (s : State) (b : BitVec 512) : Nat × Nat :=
  let rows := dSubop b &&& fld s Reg.FAB_ROW_MASK 0 8
  let cols := dSubop b - rows
  if rows = 0 then (cols, 0) else (rows, cols)

/-- The phase in which a member sends to this node, if it does: the root its row, then each of that row its column. -/
def bcastStep (s : State) (b : BitVec 512) (src : Nat) : Option Nat :=
  let own := (ownId s).toNat
  let m := bcastMasks s b
  let apart (x y mask : Nat) : Bool := (x ^^^ y) &&& (255 - mask) == 0 && x != y
  if src = dRoot b && apart src own m.1 then some 0
  else if m.2 != 0 && apart src own m.2 && (src == dRoot b || apart src (dRoot b) m.1) then some 1
  else none

/-- Whether this node sends in the second phase: the root and those that the first phase reached. -/
def bcastForwards (s : State) (b : BitVec 512) : Bool :=
  let m := bcastMasks s b
  m.2 != 0 && ((ownId s).toNat ^^^ dRoot b) &&& (255 - m.1) == 0

/-! ### Members (R198, R199) -/

/-- The nodes that a member sends a CJOIN at start (R199). -/
def joinTargets (s : State) (b : BitVec 512) : List Nat :=
  let own := (ownId s).toNat
  if opcode b = opBROADCAST || opcode b = opDISPATCH || opcode b = opCOMBINE then
    (subCube own (dSubop b)).filter (· != own)
  else (collDims b).map fun d => own ^^^ 2 ^ d

/-- SIG (R199). -/
def sigOf (v : Desc) : Word :=
  let b := v.bits
  let w := [opcode b, dCid b, dSubop b, dword b 6, dfld b 7 0 8, dRowlen b, dTopk b, dFmt b, dRoot b]
  crc32c (w.flatMap (leBytes 4) ++ (if dChainEn b then fit 256 v.chain else zeros 256))

/-- A CJOIN (R199, R201). -/
def cjoinTo (s : State) (v : Desc) (c : Coll) (m : Nat) (have_ : Bool) : Packet :=
  let data := leBytes 4 c.sig.toNat ++ leBytes 4 (c.cid + (if have_ then 2 ^ 12 else 0))
  { (collPacket s v c tCJOIN m) with len := 8, payload := data }

/-- Whether a CJOIN of every node in a list has come. -/
def joinedAll (c : Coll) (l : List Nat) : Bool :=
  l.all fun m => match c.members.find m with | some x => x.joined | none => false

/-- The nodes that a collective packet goes to. -/
def receivers (s : State) (p : Packet) : List Nat :=
  if p.mcast then (subCube (ownId s).toNat p.dst.toNat).filter (· != (ownId s).toNat) else [p.dst.toNat]

/-- A collective packet waits until the CJOINs of its receivers have come and the collective may issue it. -/
def collSend (d : Nat) (p : Packet) (s : State) : State :=
  match collOf s d with
  | none => s
  | some c => setColl d { c with waiting := c.waiting ++ [p] } s

/-- The collective slot of a CID, also one whose descriptor is marked DISABLED. -/
def collSlot (s : State) (cid : Nat) : Option (Nat × Coll) :=
  s.seq.colls.entries.find? fun e =>
    e.2.cid == cid && (match desc s e.1 with | some v => isCollective (opcode v.bits) | none => false)

/-- The collective slot whose CID a packet carries. -/
def slotOf (s : State) (cid : Nat) : Option (Nat × Coll) :=
  match collSlot s cid with
  | some (d, c) => (match desc s d with | some v => if v.disabled then none else some (d, c) | none => none)
  | none => none

/-- Member `m` of collective `d` changed. -/
def modMember (d m : Nat) (f : Member → Member) (s : State) : State :=
  match collOf s d with
  | none => s
  | some c =>
    match c.members.find m with
    | some x => setColl d { c with members := c.members.set m (f x) } s
    | none => s

/-- What a collective owes goes out before anything else, while it may issue packets (R138): a CJOIN that one of a member
asks for (R199), then a packet whose receivers' CJOINs have come. None where nothing is owed. -/
def stepOwed (d : Nat) (v : Desc) (c : Coll) (s : State) : Option State :=
  match (c.members.filterV (·.owed)).head?, c.waiting.find? (fun p => joinedAll c (receivers s p)) with
  | some (m, _), _ =>
    some (modMember d m (fun x => { x with sent := true, owed := false }) (injectColl d (cjoinTo s v c m true) s))
  | none, some p => some (injectColl d p (setColl d { c with waiting := c.waiting.erase p } s))
  | none, none => none

/-- A collective ends early: BAD_OP or a status of its own, told to the other members (R216). Later statuses only add to
what it reports. -/
def endColl (d : Nat) (st : Byte) (tell : Bool) (s : State) : State :=
  match desc s d with
  | none => s
  | some v => if v.stopped then setDesc d { v with ends := v.ends ++ [st] } s else stopDesc d st tell s

/-! ### Local accesses of the sequencer -/

/-- A collective may build packets: fewer than 64 of its own wait at the sequencer's injection port (R18, R21; assumption
log 7). -/
def collRoomy (s : State) (c : Coll) : Bool :=
  ((s.router.inject.getD 1 []).filter fun p => p.tag.toNat == c.tag).length < 64

/-- A write that has been counted in the collective, and of its pipe's output each request with a poisoned line (R193),
is translated and issued, waits for its walk, or ends the
collective with LOCAL_FAULT. -/
def issueOp (o : LocalOp) (s : State) : State :=
  match desc s o.d with
  | none => s
  | some v =>
    match lookLocal s v permLW o.va o.data.length with
    | .ok xs fs ms g =>
      let own : Bool := match o.what with | .own => true | .output _ => true | _ => false
      let n := if own then poisonedWrites (storesOf xs o.data) else 0
      let s := onlyIf (0 < n) (bumpBy Reg.IMP_POISON_CNT n) (useLook o.d fs ms s)
      writeMem (.coll o.d o.what) (storesOf xs o.data) false (some (v.part, g)) s
    | .miss w => awaitWalk .initiator v.part w (.op o w) s
    | .fault w =>
      let s := match collOf s o.d with
        | some c => setColl o.d { c with writes := c.writes - 1 } s
        | none => s
      if v.stopped then s else localFault o.d w s

/-- A local write of collective `d`. -/
def collWrite (d : Nat) (what : CollWrite) (va : Nat) (data : List PByte) (s : State) : State :=
  match collOf s d with
  | none => s
  | some c =>
    if data.isEmpty then s
    else issueOp ⟨d, what, va % 2 ^ 52, data⟩ (setColl d { c with writes := c.writes + 1 } s)

/-- A local read of collective `d`; nothing where it waits for a walk or has failed. -/
def collRead (d : Nat) (what : CollRead) (x : List Extent × Nat) (part : Nat) (s : State) : State :=
  match collOf s d with
  | none => s
  | some c =>
    let s := setColl d { c with reads := c.reads + 1, busy := true } s
    match what, desc s d with
    | .chunk, some v => readSource (parseProg v.chain) (.coll d what) x.1 (some (part, x.2)) s
    | _, _ => readMem (.coll d what) x.1 false (some (part, x.2)) s

/-- Every part of the collective is issued: it waits for its accesses and its record, with which its tag is free
(R202). -/
def finishColl (d : Nat) (s : State) : State := releasePipe d (modDesc d (fun v => { v with phase := .drain }) s)

/-! ### Reductions and gathers (R203 to R205) -/

/-- One piece of a step: offset in LADDR, its length, where it goes as CDATA (node, step and ADDR), and whether it is
also written back. -/
structure Piece where
  off  : Nat
  len  : Nat
  send : Option (Nat × Nat × Nat)
  keep : Bool
  deriving DecidableEq, Repr

/-- The next piece of the step's sends: the half sent at step 0, or the blocks held at a gather step. -/
def sendPiece (s : State) (b : BitVec 512) (c : Coll) : Option Piece :=
  let own := (ownId s).toNat
  let region := if isReduceStep b c.step then
      let half := dLen b / 2
      (if own.testBit (dimAt b 0) then 0 else half, half, 0)
    else
      let h := heldBlocks b own (c.step - gatherBase b)
      (h.1, h.2, h.1)
  let addr := region.2.2 + c.cursor
  let n := min (region.2.1 - c.cursor) (toBoundary addr)
  if n = 0 then none
  else some ⟨region.1 + c.cursor, n, some (partner s b (stepDim b c.step), c.step, addr), false⟩

/-- Bytes of the stream of the reduction of step `k` that the next step sends: a quarter, which goes first, or none in
the last step (R203). -/
def sentFirst (b : BitVec 512) (k : Nat) : Nat := if k + 1 = collN b then 0 else dLen b / 2 ^ (k + 2)

/-- Where the parts of that stream lie in the kept half: the quarter that is sent, then the quarter, or at the last step
the block, that is kept (R203). -/
def reduceParts (s : State) (b : BitVec 512) (k : Nat) : Nat × Nat :=
  let q := sentFirst b k
  if q != 0 && (ownId s).toNat.testBit (dimAt b (k + 1)) then (0, q) else (q, 0)

/-- The place in the kept half of byte `x` of the stream of step `k`. -/
def reduceAt (s : State) (b : BitVec 512) (k x : Nat) : Nat :=
  if x < sentFirst b k then (reduceParts s b k).1 + x else (reduceParts s b k).2 + (x - sentFirst b k)

/-- The next piece of the output of the reduction of step `k`, from byte `x` of its stream on (R203). -/
def reducePiece (s : State) (b : BitVec 512) (k x : Nat) : Option Piece :=
  let n := collN b
  let kl := dLen b / 2 ^ (k + 1)
  let off := regionStart b (ownId s).toNat (k + 1) + reduceAt s b k x
  if kl ≤ x then none
  else if k + 1 = n then
    some ⟨off, min (kl - x) (toBoundary off),
      if opcode b = opALLREDUCE then some (partner s b (n - 1), n, off) else none, true⟩
  else if x < sentFirst b k then
    let addr := dLen b - dLen b / 2 ^ (k + 1) + x
    some ⟨off, min (sentFirst b k - x) (toBoundary addr), some (partner s b (k + 1), k + 1, addr), false⟩
  else some ⟨off, min (kl - x) (toBoundary off), none, true⟩

/-- The places in the kept half of the next part of the stream that is read: up to 2,048 B, so that every part begins on a
512 B window of the stream (R193), cut where the quarters meet. -/
def reduceReads (s : State) (b : BitVec 512) (k x : Nat) : List (Nat × Nat) :=
  let m := min 2048 (dLen b / 2 ^ (k + 1) - x)
  let q := sentFirst b k
  if x < q && q < x + m then [(reduceAt s b k x, q - x), (reduceAt s b k q, x + m - q)] else [(reduceAt s b k x, m)]

/-- Translate some extents for descriptor `d`, one after the other; none after it has started to wait or has failed. -/
def translateAll (d perm : Nat) : List (Nat × Nat) → State → Option (List Extent × Nat) × State
  | [], s => (some ([], genOf s (match desc s d with | some v => v.part | none => 0)), s)
  | (va, n) :: rest, s =>
    match translate d perm (va % 2 ^ 52) n s with
    | (none, s) => (none, s)
    | (some (xs, g), s) =>
      match translateAll d perm rest s with
      | (some (ys, h), s) => (some (xs ++ ys, min g h), s)
      | r => r

/-- The CDATA of a piece. -/
def cdataOf (s : State) (v : Desc) (c : Coll) (dst st addr : Nat) (data : List PByte) : Packet :=
  { (collPacket s v c tCDATA dst) with
    addr := BitVec.ofNat 52 addr, len := BitVec.ofNat 12 data.length, subop := BitVec.ofNat 8 (16 * st),
    poison := data.any (·.p), payload := data.map (·.b) }

/-- The collective's progress after a piece. -/
def pastPiece (d n : Nat) (s : State) : State :=
  match collOf s d with
  | some c => setColl d { c with cursor := c.cursor + n, busy := false, a := none, b := none } s
  | none => s

/-- A collective goes into another phase or step. -/
def setPhase (d : Nat) (ph : CollPhase) (st : Nat) (s : State) : State :=
  let s := modDesc d (fun v => { v with opos := 0, obuf := [] }) s
  match collOf s d with
  | some c => setColl d { c with phase := ph, step := st, cursor := 0, busy := false, a := none, b := none } s
  | none => s

/-- One move of the sends of a step. -/
def stepSend (d : Nat) (v : Desc) (c : Coll) (s : State) : Option State :=
  match sendPiece s v.bits c with
  | none => some (setPhase d .await c.step s)
  | some x =>
    match x.send with
    | none => none
    | some (dst, st, addr) =>
      if !joinedAll c [dst] || !collRoomy s c then none
      else match c.a with
        | some data => some (pastPiece d x.len (injectColl d (cdataOf s v c dst st addr data) s))
        | none =>
          if c.busy || c.writes != 0 then none
          else match translate d permLR ((dLaddr v.bits + x.off) % 2 ^ 52) x.len s with
            | (none, s) => some s
            | (some x, s) => some (collRead d .first x v.part s)

/-- The next part of a reduction's stream is read: the kept half, and the scratch of the step (R203). -/
def readReduce (d : Nat) (v : Desc) (c : Coll) (s : State) : State :=
  let b := v.bits
  let at_ := reduceReads s b c.step c.cursor
  let kept := dLaddr b + regionStart b (ownId s).toNat (c.step + 1)
  let scratch := dRaddr b + (dLen b - dLen b / 2 ^ c.step)
  match translateAll d permLR (at_.map fun x => (kept + x.1, x.2)) s with
  | (none, s) => s
  | (some xs, s) =>
    match translateAll d permLR (at_.map fun x => (scratch + x.1, x.2)) s with
    | (none, s) => s
    | (some ys, s) => collRead d .second ys v.part (collRead d .first xs v.part s)

/-- What has been read of a reduction's stream goes through the pipe. -/
def runReduce (d : Nat) (v : Desc) (c : Coll) (a b : List PByte) (s : State) : State :=
  let r := runPipe (parseProg v.chain) false c.cursor c.cursor a b
  let s := modDesc d (fun v => { v with obuf := v.obuf ++ r.bytes }) (raiseFlags d r.flags s)
  pastPiece d a.length s

/-- A piece of a reduction's output is sent, written back, or both. -/
def emitReduce (d : Nat) (v : Desc) (c : Coll) (x : Piece) (s : State) : State :=
  let data := v.obuf.take x.len
  let s := match x.send with
    | some (dst, st, addr) =>
      let p := cdataOf s v c dst st addr data
      countPoison v p.poison (injectColl d p s)
    | none => s
  let s := modDesc d (fun v => { v with obuf := v.obuf.drop x.len, opos := v.opos + x.len }) s
  if x.keep then collWrite d .own (dLaddr v.bits + x.off) data s else s

/-- One move of the reduction of a step; the pipe is bound from the first reduction to the last. -/
def stepReduce (d : Nat) (v : Desc) (c : Coll) (s : State) : Option State :=
  let b := v.bits
  if v.pipe.isNone then none
  else match reducePiece s b c.step v.opos with
    | none =>
      if c.step + 1 = collN b then
        let s := releasePipe d s
        if opcode b = opALLREDUCE then some (setPhase d .await (c.step + 1) s) else some (finishColl d
          (modDesc d (fun v => { v with done := dLen b }) s))
      else some (setPhase d .await (c.step + 1) s)
    | some x =>
      let ready := match x.send with | some (dst, _, _) => joinedAll c [dst] && collRoomy s c | none => true
      if !ready then none
      else if x.len ≤ v.obuf.length then some (emitReduce d v c x s)
      else match c.a, c.b with
        | some a, some b2 => some (runReduce d v c a b2 s)
        | _, _ => if c.busy then none else some (readReduce d v c s)

/-! ### Broadcast -/

/-- One move of the root of a broadcast (R207). -/
def stepRoot (d : Nat) (v : Desc) (c : Coll) (s : State) : Option State :=
  let b := v.bits
  let n := min (dLen b - c.cursor) (toBoundary c.cursor)
  if n = 0 then some (finishColl d (modDesc d (fun v => { v with done := dLen b }) s))
  else if !joinedAll c (joinTargets s b) || !collRoomy s c then none
  else match c.a with
    | some data =>
      let m := bcastMasks s b
      let send (mask st : Nat) (s : State) : State :=
        injectColl d { (cdataOf s v c mask st c.cursor data) with mcast := true } s
      let s := send m.1 0 s
      some (pastPiece d n (if m.2 = 0 then s else send m.2 1 s))
    | none =>
      if c.busy then none
      else match translate d permLR ((dLaddr b + c.cursor) % 2 ^ 52) n s with
        | (none, s) => some s
        | (some x, s) => some (collRead d .first x v.part s)

/-- A receiver of a broadcast is done once its lines have landed and its forwarding has issued (R207). -/
def stepLeaf (d : Nat) (v : Desc) (c : Coll) (s : State) : Option State :=
  if dLen v.bits ≤ 64 * c.landed.get 0 0 && c.waiting.isEmpty then
    some (finishColl d (modDesc d (fun w => { w with done := dLen v.bits }) s))
  else none

/-! ### Expert exchange (R209 to R211) -/

/-- Bytes of a token row. -/
def rowBytes (b : BitVec 512) : Nat := 64 * dRowlen b

/-- Entries of the list that a dispatch or combine goes through. -/
def listEntries (b : BitVec 512) : Nat := if opcode b = opDISPATCH then dNtok b * dTopk b else dNrow b

/-- What a list entry asks for: nothing; a row to send (its number here, the node, the offset there, the token); or an
entry that ends the dispatch. -/
inductive RowSend where
  | skip
  | row (src node off token : Nat)
  | bad
  deriving DecidableEq, Repr

/-- A list entry decoded (R208, R209, R211). Model's choice: one with bit 31 clear is skipped whatever its other bits
are (assumption log 29). -/
def rowOf (s : State) (b : BitVec 512) (i e : Nat) : RowSend :=
  if !e.testBit 31 then .skip
  else if opcode b = opDISPATCH then
    let x := (s.seq.experts.get (natField e 0 10) 0).toNat
    let slot := natField e 10 16
    if natField e 26 5 != 0 || !x.testBit 63 || natField x 24 16 ≤ slot then .bad
    else .row (i / dTopk b) (natField x 0 8) ((natField x 8 16 + slot) * rowBytes b) (i / dTopk b)
  else .row i (natField e 0 8) (natField e 8 16 * rowBytes b) (natField e 8 16)

/-- The packet of a row part. -/
def rowPacket (s : State) (v : Desc) (c : Coll) (node addr token : Nat) (data : List PByte) : Packet :=
  let b := v.bits
  let p : Packet := { (collPacket s v c (if opcode b = opDISPATCH then tEDSP else tECMB) node) with
    addr := BitVec.ofNat 52 addr, len := BitVec.ofNat 12 data.length, poison := data.any (·.p), payload := data.map fun x => x.b }
  if opcode b = opDISPATCH then { p with aux := BitVec.ofNat 16 token }
  else { p with subop := BitVec.ofNat 8 (16 * dFmt b), scope := BitVec.ofNat 2 (dfld b 0 22 2) }

/-- The tally of lines sent to a member goes out (R209). -/
def sendTally (d : Nat) (v : Desc) (m : Nat) (s : State) : State :=
  match collOf s d with
  | none => s
  | some c =>
    let lines := match c.members.find m with | some x => x.lines | none => 0
    collSend d { (collPacket s v c tETALLY m) with len := 8, payload := fit 8 (leBytes 4 lines) } s

/-- A dispatch or combine is complete (R210): tallies of every member, all their lines landed, all own packets issued. -/
def tallied (c : Coll) : Bool :=
  c.issued && c.waiting.isEmpty && c.members.values.all (fun m => m.tally.isSome)
    && c.received == c.members.values.foldl (fun n m => n + m.tally.getD 0) 0

/-- The list entry in progress is done. -/
def nextEntry (d : Nat) (s : State) : State :=
  match collOf s d with
  | some c => setColl d { c with cursor := c.cursor + 1, row := 0 } s
  | none => s

/-- One move of a dispatch or combine. -/
def stepRows (d : Nat) (v : Desc) (c : Coll) (s : State) : Option State :=
  let b := v.bits
  if listEntries b ≤ c.cursor then
    if c.issued then (if tallied c then some (finishColl d s) else none)
    else
      let s := setColl d { c with issued := true } s
      some (each c.members.keys (sendTally d v) s)
  else
    let i := c.cursor
    match c.list with
    | none =>
      if c.busy then none
      else
        let n := min 256 (listEntries b - i)
        match translate d permLR ((dRaddr b + 4 * i) % 2 ^ 52) (4 * n) s with
        | (none, s) => some s
        | (some xs, s) =>
          match collOf s d with
          | none => none
          | some c => some (collRead d .list xs v.part (setColl d { c with listAt := i } s))
    | some l =>
      if c.listAt + 256 ≤ i then some (setColl d { c with list := none } s)
      else match rowOf s b i (sliceNat l (4 * (i - c.listAt)) 4) with
        | .skip => some (nextEntry d s)
        | .bad => some (endColl d stBADOP true s)
        | .row src node off token =>
          if !joinedAll c [node] || !collRoomy s c then none
          else
            let n := min (rowBytes b - c.row) (toBoundary (off + c.row))
            match c.a with
            | some data =>
              let p := rowPacket s v c node (off + c.row) token data
              let s := modMember d node (fun m => { m with lines := m.lines + touched (off + c.row) n }) (injectColl d p s)
              match collOf s d with
              | none => none
              | some c =>
                let s := setColl d { c with row := c.row + n, busy := false, a := none } s
                some (if c.row + n = rowBytes b then nextEntry d s else s)
            | none =>
              if c.busy then none
              else match translate d permLR ((dLaddr b + src * rowBytes b + c.row) % 2 ^ 52) n s with
                | (none, s) => some s
                | (some xs, s) => some (collRead d .first xs v.part s)

/-! ### Resume (R213) -/

/-- Elements of a staging chunk. -/
def chunkElems (pg : Prog) : Nat :=
  match pg.groupSize with | some g => 512 * g | none => 262144 / fmtBits pg.infmt

/-- Where chunk `i` begins in the image, cut at its end. -/
def chunkAt (v : Desc) (i : Nat) : Nat :=
  let pg := parseProg v.chain
  min (dLen v.bits) (pg.srcBytes (i * chunkElems pg))

/-- The chunk that holds a byte of the image. -/
def chunkOf (v : Desc) (off : Nat) : Nat := off / (parseProg v.chain).srcBytes (chunkElems (parseProg v.chain))

/-- The staging address of a byte of the image. -/
def stagingAt (v : Desc) (off : Nat) : Nat :=
  let i := chunkOf v off
  let size := (parseProg v.chain).srcBytes (chunkElems (parseProg v.chain))
  (dRaddr v.bits + i % dNtok v.bits * size + (off - i * size)) % 2 ^ 52

/-- An extent of the image cut where chunks end: chunk and length of each part. -/
def chunkParts : Nat → Desc → Nat → Nat → List (Nat × Nat)
  | 0, _, _, _ => []
  | fuel + 1, v, off, len =>
    if len = 0 then []
    else
      let i := chunkOf v off
      let n := min len (chunkAt v (i + 1) - off)
      (i, n) :: chunkParts fuel v (off + n) (len - n)

/-- Translate the staging places of an extent of the image. -/
def translateStaging (d : Nat) (v : Desc) : Nat → List (Nat × Nat) → State → Option (List Extent × Nat) × State
  | _, [], s => (some ([], genOf s v.part), s)
  | off, (_, n) :: rest, s =>
    match translate d permLW (stagingAt v off) n s with
    | (none, s) => (none, s)
    | (some (xs, g), s) =>
      match translateStaging d v (off + n) rest s with
      | (some (ys, h), s) => (some (xs ++ ys, min g h), s)
      | r => r

/-- The chunk in progress goes through the pipe; its output is written at LADDR. -/
def convertChunk (d : Nat) (v : Desc) (c : Coll) (data : List PByte) (s : State) : State :=
  let pg := parseProg v.chain
  let start := c.chunk * chunkElems pg
  let r := runPipe pg (!v.fired) (chunkAt v c.chunk) 0 data []
  let s := raiseFlags d r.flags s
  let s := match r.fired with
    | some w => exitFired d (start * pg.exitBytes / 512 + w) s
    | none => s
  let s := collWrite d (.output r.bytes.length) (dLaddr v.bits + pg.outBytes start) r.bytes s
  match collOf s d with
  | none => s
  | some c =>
    let s := setColl d { c with chunk := c.chunk + 1, phase := .send, busy := false, a := none } s
    if r.stop then stopDesc d stCANCELLED false s
    else if dLen v.bits ≤ chunkAt v (c.chunk + 1) then finishColl d s
    else s

/-- One move of a resume with a chain: convert the chunk that has been read, read it, or issue a PRD whose staging place
is free. -/
def stepStaged (d : Nat) (v : Desc) (c : Coll) (s : State) : Option State :=
  if c.phase = .reduce && c.a.isSome then some (convertChunk d v c (c.a.getD []) s)
  else if c.phase = .reduce && !c.busy then
    let from_ := chunkAt v c.chunk
    match translate d permLR (stagingAt v from_) (chunkAt v (c.chunk + 1) - from_) s with
    | (none, s) => some s
    | (some xs, s) => some (collRead d .chunk xs v.part s)
  else match nextUnit v with
    | none => none
    | some u =>
      let parts := chunkParts 3 v u.off u.len
      if !roomy s v || parts.any (fun x => c.chunk + dNtok v.bits ≤ x.1) then none
      else match translateStaging d v u.off parts s with
        | (none, s) => some s
        | (some (xs, g), s) =>
          match nextSeq d s with
          | none => none
          | some (t, seq, s) =>
            match desc s d with
            | none => none
            | some v =>
              let e : Expected := ⟨false, seq, 0, u.len, 0, xs, g, some u.off⟩
              let s := inject 0 (requestOf s v tPRD t seq u.addr u.len false) (expect t e s)
              let s := modDesc d (fun v => { v with pos := v.pos + u.len }) s
              some (if u.last then closeTag d s else s)

/-- One move of a resume without a chain: the PRD of the next unit, whose data goes straight to LADDR. -/
def stepDirect (d : Nat) (v : Desc) (s : State) : Option State :=
  match nextUnit v with
  | none => none
  | some u =>
    if !roomy s v then none
    else match translate d permLW ((dLaddr v.bits + u.off) % 2 ^ 52) u.len s with
      | (none, s) => some s
      | (some (xs, g), s) =>
        match nextSeq d s with
        | none => none
        | some (t, seq, s) =>
          match desc s d with
          | none => none
          | some v =>
            let e : Expected := ⟨false, seq, 0, u.len, 0, xs, g, none⟩
            let s := inject 0 (requestOf s v tPRD t seq u.addr u.len false) (expect t e s)
            let s := modDesc d (fun v => { v with pos := v.pos + u.len }) s
            some (if u.last then endIssue d s else s)

/-! ### Progress -/

/-- The local addresses at which a collective or a staged resume goes on by itself (R128); arrived data may go anywhere
(assumption log 24). -/
def nextColl (s : State) (v : Desc) (c : Coll) : List Nat :=
  let b := v.bits
  let past (n : Nat) : Nat := if c.busy || c.a.isSome then n else 0
  let base := dLaddr b
  if opcode b = opRESUME then
    let pg := parseProg v.chain
    let done := c.chunk + (if c.phase = .reduce then past 1 else 0)
    [stagingAt v v.pos, stagingAt v (chunkAt v done), base + pg.outBytes (c.chunk * chunkElems pg)]
  else if opcode b = opDISPATCH || opcode b = opCOMBINE then
    let row := match c.list with
      | none => []
      | some l => match rowOf s b c.cursor (sliceNat l (4 * (c.cursor - c.listAt)) 4) with
        | .row src _ off _ =>
          [base + src * rowBytes b + c.row + past (min (rowBytes b - c.row) (toBoundary (off + c.row)))]
        | _ => []
    (dRaddr b + 4 * (if c.list.isSome || c.busy then c.listAt + 256 else c.cursor)) :: row
  else if opcode b = opBROADCAST then
    [base + c.cursor + past (min (dLen b - c.cursor) (toBoundary c.cursor))]
  else match c.phase with
    | .await => []
    | .send => ((sendPiece s b c).map fun x => base + x.off + past x.len).toList
    | .reduce =>
      let x := c.cursor + past (min 2048 (dLen b / 2 ^ (c.step + 1) - c.cursor))
      let at_ := reduceAt s b c.step x
      [base + regionStart b (ownId s).toNat (c.step + 1) + at_, dRaddr b + (dLen b - dLen b / 2 ^ c.step) + at_]
        ++ ((reducePiece s b c.step v.opos).map fun p => base + p.off).toList

/-- One move of a running collective's own work. -/
def stepWork (d : Nat) (v : Desc) (c : Coll) (s : State) : Option State :=
  let b := v.bits
  if opcode b = opRESUME then stepStaged d v c s
  else if opcode b = opDISPATCH || opcode b = opCOMBINE then stepRows d v c s
  else if opcode b = opBROADCAST then
    (if dRoot b = (ownId s).toNat then stepRoot d v c s else stepLeaf d v c s)
  else match c.phase with
    | .send => stepSend d v c s
    | .reduce => stepReduce d v c s
    | .await => none

/-- One move of a descriptor of the collective sequencer, where it can make one: what it owes, then its own work. -/
def stepColl (d : Nat) (s : State) : Option State :=
  match desc s d with
  | none => none
  | some v =>
    if !mayIssue s v then none
    else match collOf s d with
      | none => if v.phase = .running && opcode v.bits = opRESUME && !dChainEn v.bits then stepDirect d v s else none
      | some c =>
        match stepOwed d v c s with
        | some s => some s
        | none => if v.phase != .running then none else stepWork d v c s

/-- A descriptor of the collective sequencer goes on until it must wait. -/
def advanceColl : Nat → Nat → State → State
  | 0, _, s => s
  | fuel + 1, d, s =>
    match stepColl d s with
    | none => s
    | some s => advanceColl fuel d s

/-- The opcodes that the collective sequencer runs; PARK's packets are built as a WRITE's. -/
def sequenced (b : BitVec 512) : Bool := isCollective (opcode b) || opcode b == opRESUME

/-- A descriptor goes on, in the unit that runs it. -/
def goOn (d : Nat) (s : State) : State :=
  match desc s d with
  | none => s
  | some v =>
    if !sequenced v.bits then resume d s
    else if sealLost s v then closeSealed d v s
    else advanceColl 1024 d (sendAborts d s)

/-- Every descriptor in progress goes on, oldest first, and every request that may go out does. -/
def goAll (s : State) : State := issueAll (each s.qe.descs.keys goOn s)

/-! ### Start of a collective (R199, R213) -/

/-- The slot of a collective as it starts. -/
def Coll.start (cid tag : Nat) (sig : Word) (members : List Nat) (own : Option Nat) : Coll :=
  let mk (joined : Bool) : Member := ⟨none, joined, false, false, none, 0⟩
  let t := members.foldl (fun t m => t.set m (mk false)) (Tbl.empty : Tbl Member)
  { cid := cid, tag := tag, sig := sig, members := match own with | some o => t.set o (mk true) | none => t, phase := .send, step := 0,
    landed := Tbl.empty, cursor := 0, row := 0, busy := false, a := none, b := none, list := none, listAt := 0,
    waiting := [], writes := 0, reads := 0, received := 0, issued := false, chunks := Tbl.empty, chunk := 0 }

/-- A descriptor of the collective sequencer starts: it takes its slot and tag and sends its CJOINs. None while every
tag is in use. -/
def startColl (d : Nat) (s : State) : Option State :=
  match desc s d with
  | none => none
  | some v =>
    let b := v.bits
    if isCollective (opcode b) then
      match newTag d v s with
      | none => none
      | some (t, s) =>
        let own := (ownId s).toNat
        let self := opcode b == opDISPATCH || opcode b == opCOMBINE
        let c := Coll.start (dCid b) t (sigOf v) (joinTargets s b) (if self then some own else none)
        let s := setColl d c (modDesc d (fun v => { v with phase := .running }) s)
        some (each (joinTargets s b)
          (fun m s => injectColl d (cjoinTo s v c m false) (modMember d m (fun x => { x with sent := true }) s)) s)
    else
      some (modDesc d (fun v => { v with phase := .running })
        (if dChainEn b then setColl d (Coll.start (dCid b) 0 0 [] none) s else s))

/-! ### Packets of a collective (R199, R210, R211) -/

/-- A member's packet that finds its slot: its descriptor, slot and member, with the TAG fixed by it. `joins` says that
it is a CJOIN. None where it is a stray. -/
def memberPacket (p : Packet) (s : State) : Option (Nat × Desc × Coll × Member) :=
  match slotOf s p.win.toNat with
  | none => none
  | some (d, c) =>
    match desc s d, c.members.find p.src.toNat with
    | some v, some m => some (d, v, c, m)
    | _, _ => none

/-- The sequencer takes a member's packet other than a CJOIN: a stray where nothing fits; nothing for a collective that
has stopped. -/
def withMember (p : Packet) (f : Nat → Desc → Coll → State → State) (s : State) : State :=
  match memberPacket p s with
  | none => stray s
  | some (d, v, c, m) =>
    if m.tag.isSome && m.tag != some p.tag then stray s
    else
      let s := modMember d p.src.toNat (fun x => { x with tag := some p.tag }) s
      if v.stopped then s else f d v c s

/-- A CJOIN (R199). A collective packet whose LEN is outside its type's limits (R28, R201) ends the collective with
BAD_OP, and nothing of it is applied (assumption log 32). -/
def takeCjoin (p : Packet) (s : State) : State :=
  match memberPacket p s with
  | none => stray s
  | some (d, v, c, m) =>
    if v.stopped then s
    else if (m.tag.isSome && m.tag != some p.tag) || p.len != 8 then endColl d stBADOP true s
    else
      let s := modMember d p.src.toNat (fun x => { x with tag := some p.tag }) s
      if sliceNat p.payload 0 4 != c.sig.toNat then endColl d stBADOP true s
      else
        let s := modMember d p.src.toNat (fun x => { x with joined := true }) s
        goOn d (onlyIf (natField (sliceNat p.payload 4 4) 12 1 == 0)
          (modMember d p.src.toNat (fun x => { x with owed := true })) s)

/-- The offset area and the local address of a CDATA that fits, with the step it counts in (R199). -/
def cdataPlace (s : State) (v : Desc) (p : Packet) : Option (Nat × Nat) :=
  let b := v.bits
  let st := natField p.subop.toNat 4 4
  let a := p.addr.toNat
  let n := p.len.toNat
  if n < 64 || 2048 < n then none
  else if opcode b = opBROADCAST then
    if bcastStep s b p.src.toNat = some st && a + n ≤ dLen b then some (0, dLaddr b + a) else none
  else if opcode b = opDISPATCH || opcode b = opCOMBINE then none
  else if totalSteps b ≤ st || p.src.toNat != partner s b (stepDim b st) then none
  else
    let area := stepArea s b st
    if a < area.1 || area.1 + area.2 < a + n then none
    else some (st, (if isReduceStep b st then dRaddr b else dLaddr b) + a)

/-- A packet's data with its POISON. -/
def poisoned (p : Packet) : List PByte := (fit p.len.toNat p.payload).map fun b => ⟨b, p.poison⟩

/-- A CDATA (R199, R203, R204, R207). -/
def takeCdata (p : Packet) (s : State) : State :=
  withMember p (fun d v c s =>
    match cdataPlace s v p with
    | none => endColl d stBADOP true s
    | some (st, va) =>
      let fwd := if opcode v.bits = opBROADCAST && natField p.subop.toNat 4 4 = 0 && bcastForwards s v.bits then
        some { (cdataOf s v c (bcastMasks s v.bits).2 1 p.addr.toNat (poisoned p)) with mcast := true } else none
      collWrite d (.arrival st (touched p.addr.toNat p.len.toNat) fwd) va (poisoned p) s) s

/-- An EDSP (R210): the row part, which lies in its row (R28, R201), is written, counted, and with byte 0 of its row the return entry. -/
def takeEdsp (p : Packet) (s : State) : State :=
  withMember p (fun d v _ s =>
    let b := v.bits
    let r := p.addr.toNat / rowBytes b
    let n := p.len.toNat
    if opcode b != opDISPATCH || dNrow b ≤ r || n = 0 || 2048 < n || rowBytes b < p.addr.toNat % rowBytes b + n then
      endColl d stBADOP true s
    else
      let s := collWrite d (.row (touched p.addr.toNat p.len.toNat) p.len.toNat) (dYaddr b + p.addr.toNat) (poisoned p) s
      if p.addr.toNat % rowBytes b = 0 then
        collWrite d .entry (dZaddr b + 4 * r)
          (clean (leBytes 4 (2 ^ 31 + 2 ^ 8 * p.aux.toNat + p.src.toNat))) s
      else s) s

/-- An ECMB (R202, R211): its lines enter the atomic unit. A walk it needs holds the sequencer's packet up; a fault ends
the combine with LOCAL_FAULT. -/
def takeEcmb (p : Packet) (s : State) : State :=
  match memberPacket p s with
  | none => stray (takeEjected p s)
  | some (d, v, _, m) =>
    if m.tag.isSome && m.tag != some p.tag then stray (takeEjected p s)
    else if v.stopped then takeEjected p s
    else
      let b := v.bits
      let s' := modMember d p.src.toNat (fun x => { x with tag := some p.tag }) (takeEjected p s)
      let vacc := { p with ptype := tVACC }
      if opcode b != opCOMBINE || dNtok b ≤ p.addr.toNat / rowBytes b || (requestFault vacc).isSome then
        endColl d stBADOP true s'
      else
        let va := (dYaddr b + p.addr.toNat) % 2 ^ 52
        match lookLocal s v permLW va p.len.toNat with
        | .ok xs fs ms g =>
          let s := useLook d fs ms s'
          match collOf s d with
          | some c => enterAtomic p xs v.part g (setColl d { c with writes := c.writes + p.len.toNat / 64 } s)
          | none => s
        | .miss w => awaitWalk .initiator v.part w (.desc d w) s
        | .fault w => localFault d w s'

/-- An ETALLY (R209). -/
def takeEtally (p : Packet) (s : State) : State :=
  withMember p (fun d _ _ s =>
    if p.len != 8 then endColl d stBADOP true s
    else goOn d (modMember d p.src.toNat (fun x => { x with tally := some (sliceNat p.payload 0 4) }) s)) s

/-- A CABORT (R199, R216): the sump's, which carries the slot's own tag, from any node; a member's, which draws no
CABORT in turn. -/
def takeCabort (p : Packet) (s : State) : State :=
  let st := if p.len = 4 then p.payload.headD 0 else stBADOP
  match slotOf s p.win.toNat with
  | none => stray s
  | some (d, c) =>
    if st = stSUMP && p.tag.toNat = c.tag then endColl d stSUMP true (modTag c.tag (fun x => { x with sump := true }) s)
    else match c.members.find p.src.toNat with
      | none => stray s
      | some m =>
        if m.tag.isSome && m.tag != some p.tag then stray s
        else endColl d st false (modMember d p.src.toNat (fun x => { x with tag := some p.tag }) s)

/-- Lines of an expert exchange have landed. -/
def rowsLanded (d lines bytes : Nat) (s : State) : State :=
  match collOf s d with
  | none => s
  | some c =>
    let s := setColl d { c with received := c.received + lines } s
    goOn d (modDesc d (fun v => { v with done := v.done + bytes }) s)

/-- A local write of a collective has been accepted. -/
def collWritten (d : Nat) (what : CollWrite) (s : State) : State :=
  match collOf s d with
  | none => s
  | some c =>
    let c := { c with writes := c.writes - 1 }
    let s := setColl d c s
    match what with
    | .own => goOn d s
    | .entry => goOn d s
    | .arrival st lines fwd =>
      let s := setColl d { c with landed := c.landed.set st (c.landed.get st 0 + lines) } s
      let stopped := match desc s d with | some v => v.stopped | none => true
      goOn d (match fwd with | some p => if stopped then s else collSend d p s | none => s)
    | .row lines bytes => rowsLanded d lines bytes s
    | .staged i n => setColl d { c with chunks := c.chunks.set i (c.chunks.get i 0 + n) } s
    | .output n => goOn d (modDesc d (fun v => { v with done := v.done + n }) s)

/-- A local read of a collective has returned. -/
def collReturned (d : Nat) (what : CollRead) (data : List PByte) (s : State) : State :=
  match collOf s d with
  | none => s
  | some c =>
    let c := { c with reads := c.reads - 1 }
    let stopped := match desc s d with | some v => v.stopped || v.disabled | none => true
    if stopped then setColl d c s
    else match what with
      | .first => goOn d (setColl d { c with a := some data, busy := 0 < c.reads } s)
      | .second => goOn d (setColl d { c with b := some data, busy := 0 < c.reads } s)
      | .chunk => goOn d (setColl d { c with a := some data, busy := false } s)
      | .list =>
        if data.any (fun x => x.p) then localFault d (match desc s d with | some v => dRaddr v.bits + 4 * c.listAt | none => 0)
          (setColl d { c with busy := false } s)
        else goOn d (setColl d { c with list := some (data.map fun x => x.b), busy := false } s)

/-- A step's arrivals have landed: the next reduction or gather step begins, or the collective is complete. -/
def nextStep (d : Nat) (s : State) : State :=
  match desc s d, collOf s d with
  | some v, some c =>
    let b := v.bits
    if !mayIssue s v || v.phase != .running || c.phase != .await || opcode b = opBROADCAST || c.writes != 0 then s
    else if c.landed.get c.step 0 < stepLines s b c.step then s
    else if isReduceStep b c.step then setPhase d .reduce c.step s
    else if c.step + 1 < totalSteps b then goOn d (setPhase d .send (c.step + 1) s)
    else finishColl d (modDesc d (fun v => { v with done := dLen b }) s)
  | _, _ => s

/-- Every line of the next staging chunk has landed: the windlass looks ahead and the pipe converts it (R213). -/
def beginChunk (d : Nat) (s : State) : State :=
  match desc s d, collOf s d with
  | some v, some c =>
    let need := chunkAt v (c.chunk + 1) - chunkAt v c.chunk
    if opcode v.bits != opRESUME || v.phase != .running || c.phase != .send || !mayIssue s v || need = 0
        || c.chunks.get c.chunk 0 < need then s
    else
      let pg := parseProg v.chain
      let out := (dLaddr v.bits + pg.outBytes (c.chunk * chunkElems pg)) % 2 ^ 52
      goOn d (setColl d { c with phase := .reduce, busy := false, a := none }
        (windlass v.part (dStream v.bits) [(out, permLW)] s))
  | _, _ => s

/-- The data of a PRDR goes to its place in staging, chunk by chunk; corrupt data is written so and reported (R31). -/
def placeStaged (d : Nat) (e : Expected) (p : Packet) (s : State) : State :=
  match desc s d with
  | none => s
  | some v =>
    let data := (fit e.len p.payload).map fun b => (⟨b, p.poison⟩ : PByte)
    let go (acc : Nat × State) (x : Nat × Nat) : Nat × State :=
      let stores := storesOf (subPieces e.pieces acc.1 x.2) ((data.drop acc.1).take x.2)
      let s := match collOf acc.2 d with
        | some c => setColl d { c with writes := c.writes + 1 } acc.2
        | none => acc.2
      (acc.1 + x.2, writeMem (.coll d (.staged x.1 x.2)) stores false (some (v.part, e.gen)) s)
    let s := ((chunkParts 3 v (e.addr.getD 0) e.len).foldl go (0, s)).2
    if p.poison then partEnded d 0 stPOISONED s else s

/-- A PRDR (R202, R213, R216): its data goes to LADDR or to staging; another status than OK ends the resume. Model's
choice: an unsealed one under a sealed tag is dropped with cause 1 (R336; assumption log 39). -/
def takePrdr (p : Packet) (s : State) : State :=
  let t := p.tag.toNat
  match tagOf s t with
  | none => stray s
  | some x =>
    if x.quarantine then stray s
    else if !sealedOk x p then authFail 1 (x.sealed.getD 0) p.src p.ptype s
    else match (desc s x.desc).filter (fun v => opcode v.bits == opRESUME), x.expects.find? (fits false p) with
      | some v, some e =>
        let s := setTag t { x with expects := x.expects.filter fun y => y != e, sump := x.sump || p.status == stSUMP } s
        if v.stopped then settleTag t s
        else if p.status != stOK then settleTag t (stopDesc x.desc p.status false s)
        else settleTag t (if dChainEn v.bits then placeStaged x.desc e p s else placeData x.desc t e p s)
      | _, _ => stray s

/-! ### The expert table (R208) -/

/-- A dispatch or combine runs. -/
def exchangeRuns (s : State) : Bool :=
  s.seq.colls.keys.any fun d => match desc s d with
    | some v => opcode v.bits == opDISPATCH || opcode v.bits == opCOMBINE
    | none => false

/-- The read of the entries of a load in progress: the first one lies at `GEN_EXP_BASE` (R208). -/
def askExperts (s : State) : State :=
  match s.seq.loading with
  | some (_, cnt) => askWhole .experts (fld s Reg.GEN_EXP_BASE 3 45 * 8) (8 * cnt) s
  | none => s

/-- A `GEN_EXP_CTL` write (R208): IDX in [9:0], CNT in [20:10], LOAD in [31]. -/
def expertLoad (v : Word) (s : State) : State :=
  let idx := natField v.toNat 0 10
  let cnt := natField v.toNat 10 11
  if v.getLsbD 31 && (exchangeRuns s || s.seq.loading.isSome || cnt = 0 || 1024 < idx + cnt) then
    raise Reg.GEN_EXP_STATUS 2 s
  else
    let s := setReg Reg.GEN_EXP_CTL (BitVec.ofNat 64 (natField v.toNat 0 21)) s
    if v.getLsbD 31 then issueAll (askExperts { s with seq := { s.seq with loading := some (idx, cnt) } }) else s

/-- The entries of a load are stored (R208). -/
def expertStore (blob : Blob) (s : State) : State :=
  match s.seq.loading with
  | none => s
  | some (idx, cnt) =>
    let s := (List.range cnt).foldl
      (fun s i =>
        let e := sliceNat blob.data (8 * i) 8
        let bad := natField e 40 23 != 0 || blob.bad
        let e' := if bad then e % 2 ^ 63 else e
        let s := { s with seq := { s.seq with experts := s.seq.experts.set (idx + i) (BitVec.ofNat 64 e') } }
        if bad then raise Reg.GEN_EXP_STATUS 3 s else s) s
    raise Reg.GEN_EXP_STATUS 1 { s with seq := { s.seq with loading := none } }

/-! ### Meanings -/

/-- A collective packet of a type is taken from the ejection port; while master enable is 0 nothing is done with it but
to drop it (R119, R217). -/
def collPacketIn (ty : BitVec 6) (p : Packet) (f : Packet → State → State) (s : State) : State :=
  onlyIf (coreUp s && p.ptype == ty)
    (fun s => if p.abt then takeEjected p s else issueAll (f p (takeEjected p s))) s

/-- A CJOIN arrives (R199). -/
def execCjoinReceive (p : Packet) (s : State) : Res := .next (collPacketIn tCJOIN p takeCjoin s)

/-- A CDATA arrives (R199, R203, R204, R207). -/
def execCdataReceive (p : Packet) (s : State) : Res := .next (collPacketIn tCDATA p takeCdata s)

/-- A CABORT arrives (R216). -/
def execCabortReceive (p : Packet) (s : State) : Res := .next (collPacketIn tCABORT p takeCabort s)

/-- A collective's next step begins (R203, R204). -/
def execCollectiveStep (d : Nat) (s : State) : Res := .next (issueAll (nextStep d s))

/-- An EDSP arrives (R210). -/
def execEdspReceive (p : Packet) (s : State) : Res := .next (collPacketIn tEDSP p takeEdsp s)

/-- An ECMB arrives (R211). -/
def execEcmbReceive (p : Packet) (s : State) : Res :=
  .next (onlyIf (coreUp s && p.ptype == tECMB)
    (fun s => if p.abt then takeEjected p s else issueAll (takeEcmb p s)) s)

/-- An ETALLY arrives (R209). -/
def execEtallyReceive (p : Packet) (s : State) : Res := .next (collPacketIn tETALLY p takeEtally s)

/-- A PRDR arrives (R202, R213, R216); while master enable is 0 its data is dropped (R119). -/
def execPrdrReceive (p : Packet) (s : State) : Res :=
  .next (collPacketIn tPRDR p (fun p s => if masterEn s then takePrdr p s else dropData s) s)

/-- A staging chunk is converted (R213). -/
def execResumeChunk (d : Nat) (s : State) : Res := .next (issueAll (beginChunk d s))

/-- A `GEN_EXP_CTL` write (R208). -/
def execExpertTableLoad (v : Word) (s : State) : Res := .next (onlyIf (coreUp s) (expertLoad v) s)

/-- The expert entries have been read (R208). Data dropped because master enable was cleared is read again (R119;
assumption log 28). -/
def execExpertTableLoadDone (blob : Blob) (s : State) : Res :=
  .next (wholeCommand (fun w => w == .experts)
    (fun s => match wholeBack (fun w => w == .experts) s with
      | (some (_, false), s) => issueAll (expertStore blob s)
      | (some (_, true), s) => issueAll (askExperts s)
      | (none, s) => s) s)

end Sys2Proof.Machine
end

