-- ==== Sys2Proof/Machine/Flags.lean ====
section
/-!
DEFINITION. Machine/Flags.lean: the register fields that show another unit's state, the quiesce condition of R358 and
the interrupt lines of R421.
-/

namespace Sys2Proof.Machine

/-- A Bool as a bit. -/
def bitOf (b : Bool) : Nat := if b then 1 else 0

/-- A 16-bit two's-complement reading. -/
def half (v : Int) : Nat := codeOf 16 v

/-- A link's replay buffer holds traffic (`LNK_STATUS.RPL_TRAFFIC`, R358). -/
def rplTraffic (l : Link) : Bool := l.replay.any (·.traffic)

/-- A partition is in TEARDOWN. -/
def anyTeardown (s : State) : Bool := s.sec.parts.values.any fun p => p.state == .teardown

/-- `GEN_STATUS.QUIESCED` (R358). The 4 cc for which master enable has been 0 are not counted (log 1). -/
def quiesced (s : State) : Bool :=
  !masterEn s && s.mem.out.isEmpty && s.xlt.inv.isNone && s.imp.loading.isNone
    && s.seq.loading.isNone && !bit s Reg.SEC_CMD_STATUS 0 && !bit s Reg.SEC_SCRUB_STATUS 0
    && fld s Reg.GEN_CFG_STATUS 0 2 != 1 && !anyTeardown s && !s.sec.opening
    && (List.range 36).all (fun k =>
      linkMode s k != 1 && ((link s k).state != .active || !rplTraffic (link s k)))

/-- The code of a link state in `LNK_STATUS.STATE` (R274). -/
def LinkState.code : LinkState → Nat
  | .down => 0 | .priming => 1 | .init => 2 | .active => 3 | .retrain => 4 | .failed => 5

/-- The code of a channel state in `SEC_CHAN_STATE.STATE` (R331). -/
def ChanState.code : ChanState → Nat
  | .closed => 0 | .pending => 1 | .opened => 2 | .weight => 3 | .exhausted => 4

/-- The code of a partition state in `SEC_PART_STATUS.STATE` (R322). -/
def PartState.code : PartState → Nat
  | .free => 0 | .active => 1 | .teardown => 2

/-- Whether queue `q` is idle (R91): nothing fetched, started or being fetched, and no record to write. -/
def queueIdle (s : State) (q : Nat) : Bool :=
  (queue s q).fetching.isEmpty && (queue s q).fetched.isEmpty
    && (s.qe.descs.values.all fun d => d.queue != q || d.phase == .written)
    && (s.mem.wjobs.values.all fun j => j.what != .record q)

/-- The chain slots that hold a program, as a mask of 64 bits. -/
def chainMask (s : State) : Nat := s.imp.chains.keys.foldl setBit 0

/-- The running firmware's bank. -/
def runBank (s : State) : Bank := if s.keeper.bankB then s.flash.bankB else s.flash.bankA

/-- `MGT_FW_STATUS.VERSION`: the running firmware's VERSION; 0 in RECOVERY, where none runs. -/
def fwVersion (s : State) : Nat :=
  if s.keeper.recovery || !s.keeper.running then 0 else (Config.manifestVersion (runBank s).manifest).toNat

/-- A STAGE reads its image: `MGT_FW_STATUS.BUSY` (R399). -/
def fwBusy (s : State) : Bool := s.mem.rjobs.values.any fun j => j.what = .firmware

/-- An IMPORT reads its image (R406). -/
def calReads (s : State) : Bool := s.mem.rjobs.values.any fun j => j.what = .calImage

/-- An IMPORT or EXPORT moves an image (R406). -/
def calMoves (s : State) : Bool := calReads s || s.mem.wjobs.values.any fun j => j.what == .calExport

/-- What a register shows of other state (the RO fields that Register Reference defines so), laid over the value it
holds. -/
def overlayCore (s : State) (a : Nat) (v : BitVec 64) : BitVec 64 :=
  if a = Reg.GEN_STATUS then withField (withField v 3 1 (bitOf (quiesced s))) 4 1 (bitOf (!s.keeper.running))
  else if a = Reg.GEN_WIN_COUNT then BitVec.ofNat 64 (s.txn.windows.get (fld s Reg.GEN_WIN_CTL 0 12) 0).toNat
  else if a = Reg.GEN_TQ_STATUS then withField v 1 1 (bitOf ((List.range 8).any fun t => (tileQueue s t).loading.isSome))
  else if a = Reg.GEN_EXP_STATUS then withField v 0 1 (bitOf s.seq.loading.isSome)
  else if a = Reg.FAB_PKEY_LIST then reg s (pkeyEntry (fld s Reg.FAB_PKEY_SEL 0 4) (fld s Reg.FAB_PKEY_SEL 8 6))
  else if a = Reg.XLT_INV_STATUS then withField v 0 1 (bitOf s.xlt.inv.isSome)
  else if a = Reg.IMP_PIPE_BUSY then BitVec.ofNat 64 (s.imp.pipes.keys.foldl setBit 0)
  else if a = Reg.IMP_CHAIN_STATUS then withField v 0 1 (bitOf s.imp.loading.isSome)
  else if a = Reg.IMP_CHAIN_VALID_LO then BitVec.ofNat 64 (chainMask s % 2 ^ 32)
  else if a = Reg.IMP_CHAIN_VALID_HI then BitVec.ofNat 64 (chainMask s / 2 ^ 32)
  else if a = Reg.SEC_PART_STATUS then
    let p := partOf s (fld s Reg.SEC_PART_CTL 0 6)
    withField (withField v 0 2 p.state.code) 4 1 (bitOf (p.state == .teardown))
  else if a = Reg.SEC_CHAN_STATE then
    let c := s.sec.chans.get (fld s Reg.SEC_CHAN_SEL 0 8) Chan.initial
    BitVec.ofNat 64 (c.state.code + 2 ^ 8 * c.part + 2 ^ 16 * c.peer.toNat)
  else if a = Reg.SEC_DBG_STATUS then
    BitVec.ofNat 64 (bitOf (match s.shadow with | some f => f.dbgLock | none => false) + 2 * bitOf s.sec.openBit)
  else v

/-- The readings and the state of the always-on island, laid over the `RST_` registers. -/
def overlayRst (s : State) (a : Nat) (v : BitVec 64) : BitVec 64 :=
  if a = Reg.RST_STATUS then
    withField (withField v 0 1 (bitOf (s.rst.step == .done))) 1 1 (bitOf (s.rst.refOk == 0))
  else if a = Reg.RST_CLK_STATUS then
    withField v 16 1 (bitOf (fld s Reg.RST_CLK_STATUS 0 12 == fld s Reg.RST_CLK_CTL 0 12))
  else if a = Reg.RST_TEMP_CORE then
    match s.rst.sensors.cores with
    | [] => v
    | t :: ts => BitVec.ofNat 64 (half (ts.foldl max t))
  else if 0x1020 ≤ a && a < 0x102C then
    match s.shadow with
    | some f => BitVec.ofNat 64 (natField f.txMap.toNat (8 * (a - 0x1020)) 32)
    | none => v
  else if 0x1040 ≤ a && a < 0x1088 && s.rst.sensors.tiles != [] then
    let i := (a - 0x1040) / 2
    BitVec.ofNat 64 (half (s.rst.sensors.tiles.getD i 0) + 2 ^ 16 * half (s.rst.sensors.tiles.getD (i + 1) 0))
  else if 0x10A0 ≤ a && a < 0x10E8 && s.rst.sensors.vlink != [] then
    let i := (a - 0x10A0) / 2
    BitVec.ofNat 64 (s.rst.sensors.vlink.getD i 0 % 2 ^ 16 + 2 ^ 16 * (s.rst.sensors.vlink.getD (i + 1) 0 % 2 ^ 16))
  else v

/-- The keeper's state, laid over the `MGT_` status registers. -/
def overlayMgt (s : State) (a : Nat) (v : BitVec 64) : BitVec 64 :=
  if a = Reg.MGT_CAL_STATUS then
    withField (withField (withField v 0 1 (bitOf (s.keeper.presented == some true))) 1 1
      (bitOf s.keeper.presented.isSome)) 2 1
      (bitOf (s.keeper.store.isSome || calMoves s))
  else if a = Reg.MGT_FW_STATUS then
    withField (withField (withField (withField (withField v 0 2 (if s.keeper.recovery then 2 else bitOf s.keeper.trial))
      2 1 (bitOf s.keeper.bankB)) 3 1 (bitOf (fwBusy s))) 16 4 s.keeper.reason.toNat) 32 32 (fwVersion s)
  else if a = Reg.MGT_TIME then timeNow s
  else v

/-- The LOS threshold of lane `n`'s factory calibration, in steps of 5 mV (R307, R426). -/
def losFactory (s : State) (n : Nat) : Nat := 4 + min 36 (natField ((s.shadow.map (·.cal)).getD 0) (64 * n + 50) 6)

/-- A queue's, a link's or a lane's state, laid over its status registers. A tile in reset shows reset values (R357). -/
def overlayUnit (s : State) (a : Nat) (v : BitVec 64) : BitVec 64 :=
  if a < 0x28000 then
    let q := (a - 0x8000) / 0x200
    if a = Reg.Q_STATUS q then withField v 0 1 (bitOf (queueIdle s q)) else v
  else if a < 0x80000 then
    let k := (a - 0x40000) / 0x1000
    let l := link s k
    if !tileUp s k then resetValue a
    else if a = Reg.LNK_STATUS k then
      withField (withField (withField v 0 3 l.state.code) 4 1 (bitOf l.replay.isEmpty)) 6 1 (bitOf (rplTraffic l))
    else if a = Reg.LNK_PRIME_STATUS k then withField v 0 3 l.step
    else v
  else
    let n := (a - 0x80000) / 0x200
    let l := lane s n
    if !tileUp s (n / 8) then (if a = Reg.LANE_LOS_CFG n then BitVec.ofNat 64 (losFactory s n) else resetValue a)
    else if a = Reg.LANE_STATUS n then withField (withField v 0 1 (bitOf l.los)) 1 1 (bitOf l.lol)
    else if a = Reg.LANE_TX_FIR n && l.losCode.isSome then
      BitVec.ofNat 64 ((List.range 5).foldl (fun x j => x + codeOf 8 (l.taps.getD j 0) * 2 ^ (8 * j)) 0)
    else if a = Reg.LANE_LOS_CFG n then
      match s.regs.find a with
      | some w => w
      | none => BitVec.ofNat 64 (l.losCode.getD (losFactory s n))
    else v

/-- The value a read of the register at base address `a` returns, before the access types of R5. -/
def shown (s : State) (a : Nat) : BitVec 64 :=
  let v := reg s a
  if a < 0x1000 then overlayCore s a v
  else if a < 0x2000 then overlayRst s a v
  else if a < 0x6000 then overlayCore s a v
  else if a < 0x8000 then overlayMgt s a v
  else overlayUnit s a v

/-- `GEN_MP_RST_ACTIVE`: high from the start of a reset of the core island until its release (R411, R418). -/
def mpRstActive (s : State) : Bool := !coreUp s

/-- The sources of the interrupt lines of the block (R421). -/
def blockIrq (s : State) (n : Nat) : Bool :=
  if n = 56 then bit s Reg.GEN_STATUS 2
  else if n = 57 then bit s Reg.XLT_INV_STATUS 1
  else if n = 58 then bit s Reg.IMP_CHAIN_STATUS 1 || bit s Reg.GEN_EXP_STATUS 1
  else if n = 59 then bit s Reg.IMP_EXIT_STATUS 0
  else if n = 60 then bit s Reg.SEC_CMD_STATUS 1 || bit s Reg.SEC_SCRUB_STATUS 1 || bit s Reg.SEC_PART_STATUS 5
  else if n = 61 then bit s Reg.MGT_EVT_STATUS 0 || bit s Reg.MGT_FW_STATUS 4 || bit s Reg.MGT_CAL_STATUS 4
  else if n = 63 then bit s Reg.GEN_STATUS 5
  else false

/-- The level of `GEN_IRQ[n]` (R421): line 62 follows `KEEPER_DOWN` at all times, every other line is low while the
core island is in reset. -/
def irqLine (s : State) (n : Nat) : Bool :=
  (n == 62 && !s.keeper.running)
    || (coreUp s && (blockIrq s n
      || (List.range 256).any fun q => bit s (Reg.Q_STATUS q) 3 && fld s (Reg.Q_CTL q) 1 6 == n))

end Sys2Proof.Machine
end

