-- ==== Sys2Proof/Machine/Fabric.lean ====
section
/-!
DEFINITION. Machine/Fabric.lean: logical ports and neighbours (R218 to R227), admission (R242 to R244), epoch counters
(R240), the packet stream (R257), seals (R335, R336) and the sump (R285).
-/

namespace Sys2Proof.Machine

/-! ### Ports, links and neighbours -/

/-- The links of logical port `p` (R220). -/
def portLinks (s : State) (p : Nat) : List Nat := bitsOf 36 (reg s (Reg.FAB_LPORT_LINKS p)).toNat

/-- The logical port that holds link `k`. -/
def portOfLink (s : State) (k : Nat) : Option Nat := (List.range 16).find? fun p => bit s (Reg.FAB_LPORT_LINKS p) k

/-- The role of logical port `p`: 0 unused, 1 dimension, 2 fold. -/
def portRole (s : State) (p : Nat) : Nat := fld s (Reg.FAB_LPORT_CTL p) 0 2

/-- The dimension of logical port `p`. -/
def portDim (s : State) (p : Nat) : Nat := fld s (Reg.FAB_LPORT_CTL p) 4 3

/-- `FAB_DIM_EN.MASK`. -/
def dimEn (s : State) : Nat := fld s Reg.FAB_DIM_EN 0 8

/-- The node across logical port `p` by the dimension map (R218, R226). -/
def portNeighbour (s : State) (p : Nat) : NodeId :=
  if portRole s p = 2 then ownId s ^^^ BitVec.ofNat 8 (dimEn s) else ownId s ^^^ BitVec.ofNat 8 (2 ^ portDim s p)

/-- The logical ports of dimension `d`. -/
def dimPorts (s : State) (d : Nat) : List Nat :=
  (List.range 16).filter fun p => portRole s p == 1 && portDim s p == d

/-- The latest HELLO of link `k` has READY (R225). -/
def nbrReady (s : State) (k : Nat) : Bool := bit s (Reg.FAB_LINK_NBR k) 30

/-- The neighbour of link `k` is verified (R226). -/
def verified (s : State) (k : Nat) : Bool := fld s (Reg.FAB_LINK_STATUS k) 0 2 == 1

/-- Fabric control packets (R224). -/
def isControl (t : BitVec 6) : Bool := t == tHELLO || t == tDRAIN || t == tPROBE || t == tPROBER

/-- Fabric control and management relay packets, which R227 and R283 admit at all times. -/
def isRelay (t : BitVec 6) : Bool := isControl t || (0x30 ≤ t.toNat && t.toNat < 0x38)

/-- Link `k` may carry packets now (R222, R227, R283): `relay` for fabric control and management relay. -/
def linkUsable (s : State) (k : Nat) (relay : Bool) : Bool :=
  (link s k).state == .active && tileUp s k && verified s k
    && ((relay && linkMode s k != 2) || (linkMode s k == 1 && fabReady s && nbrReady s k))

/-- The links of port `p` that may carry packets now. -/
def usableLinks (s : State) (p : Nat) (relay : Bool) : List Nat :=
  (portLinks s p).filter fun k => linkUsable s k relay

/-- Port `p` is up for a packet (R222, R233). -/
def portUp (s : State) (p : Nat) (relay : Bool) : Bool := portRole s p != 0 && !(usableLinks s p relay).isEmpty

/-- Link `k` shows GO for a VC (R250). -/
def linkGo (s : State) (k : Nat) (vc : BitVec 3) : Bool := !(link s k).stopIn.getLsbD vc.toNat

/-! ### The packet stream (R24, R257, R258) -/

/-- A packet's header (R24). -/
def Packet.header (p : Packet) : List Byte :=
  let b (x : Bool) (i : Nat) : Nat := if x then 2 ^ i else 0
  leBytes 4 (p.ptype.toNat * 2 ^ 26 + b p.ff 25 + b p.sealed 24 + b p.epoch 23 + b p.mcast 22 + b p.poison 21
      + p.scope.toNat * 2 ^ 19 + p.vc.toNat * 2 ^ 16 + p.pkey.toNat)
    ++ leBytes 4 (p.src.toNat * 2 ^ 24 + p.dst.toNat * 2 ^ 16 + p.seq.toNat)
    ++ leBytes 4 (p.tag.toNat * 2 ^ 15 + p.win.toNat)
    ++ leBytes 4 p.addr.toNat
    ++ leBytes 4 (p.len.toNat * 2 ^ 20 + p.addr.toNat / 2 ^ 32)
    ++ leBytes 4 p.expect.toNat
    ++ leBytes 4 (p.chan.toNat * 2 ^ 24 + p.subop.toNat * 2 ^ 16 + p.aux.toNat)
    ++ leBytes 4 (p.status.toNat * 2 ^ 24 + p.prior.toNat)

/-- The packet that 32 header bytes spell, without its payload (R24). -/
def parseHeader (bs : List Byte) : Packet :=
  let w : Nat → Nat := fun i => sliceNat bs (4 * i) 4
  { ptype := BitVec.ofNat 6 (natField (w 0) 26 6), ff := (w 0).testBit 25, sealed := (w 0).testBit 24,
    epoch := (w 0).testBit 23, mcast := (w 0).testBit 22, poison := (w 0).testBit 21,
    scope := BitVec.ofNat 2 (natField (w 0) 19 2), vc := BitVec.ofNat 3 (natField (w 0) 16 3),
    pkey := BitVec.ofNat 16 (w 0), src := BitVec.ofNat 8 (natField (w 1) 24 8),
    dst := BitVec.ofNat 8 (natField (w 1) 16 8), seq := BitVec.ofNat 16 (w 1),
    tag := BitVec.ofNat 17 (natField (w 2) 15 17), win := BitVec.ofNat 12 (w 2),
    addr := BitVec.ofNat 52 (w 3 + natField (w 4) 0 20 * 2 ^ 32), len := BitVec.ofNat 12 (natField (w 4) 20 12),
    expect := BitVec.ofNat 32 (w 5), chan := BitVec.ofNat 8 (natField (w 6) 24 8),
    subop := BitVec.ofNat 8 (natField (w 6) 16 8), aux := BitVec.ofNat 16 (w 6),
    status := BitVec.ofNat 8 (natField (w 7) 24 8), prior := BitVec.ofNat 24 (w 7), payload := [], trailer := none,
    abt := false }

/-- Payload bytes of a packet in the stream (R257). -/
def Packet.payloadBytes (p : Packet) : Nat :=
  if p.ptype = tRD || p.ptype = tGRD || p.ptype = tPRD then 0
  else if (p.ptype = tRDR || p.ptype = tPRDR) && p.status != 0 then 0
  else p.len.toNat

/-- A length padded to a multiple of 8 bytes. -/
def pad8 (n : Nat) : Nat := 8 * ceilDiv n 8

/-- Bytes of a packet in the stream (R257, R335). -/
def Packet.streamLen (p : Packet) : Nat := 32 + pad8 p.payloadBytes + (if p.sealed then 32 else 0)

/-- Flit units that a packet occupies (R258). -/
def Packet.units (p : Packet) : Nat := ceilDiv p.streamLen 248

/-- A packet in the stream (R257, R335). -/
def Packet.stream (p : Packet) : List Byte :=
  p.header ++ fit (pad8 p.payloadBytes) (p.payload.take p.payloadBytes)
    ++ (if p.sealed then
          match p.trailer with
          | some t => leBytes 8 t.ctr.toNat ++ zeros 8 ++ fit 16 t.tag
          | none => zeros 32
        else [])

/-- The whole packet whose header is `h`, from the bytes of its stream. -/
def parsePacket (h : Packet) (bs : List Byte) : Packet :=
  let n := h.payloadBytes
  let tr := bs.drop (32 + pad8 n)
  { h with payload := slice bs 32 n,
           trailer := if h.sealed then some ⟨BitVec.ofNat 64 (sliceNat tr 0 8), slice tr 16 16⟩ else none }

/-! ### Counters and drops -/

/-- A packet of an epoch begins at this node (R240). -/
def countInj (p : Packet) (s : State) : State :=
  if isControl p.ptype then s else bump48 (if p.epoch then Reg.FAB_EPOCH_INJ_B else Reg.FAB_EPOCH_INJ_A) 1 s

/-- A packet of an epoch ends at this node (R240). -/
def countEj (p : Packet) (s : State) : State :=
  if isControl p.ptype then s else bump48 (if p.epoch then Reg.FAB_EPOCH_EJ_B else Reg.FAB_EPOCH_EJ_A) 1 s

/-- Logical port `p` admits a packet of a type and key (R242, R243). -/
def portAdmits (s : State) (p : Nat) (ty : BitVec 6) (key : PKey) : Bool :=
  if key = 0 then isRelay ty
  else (List.range 64).any fun e => bit s (pkeyEntry p e) 31 && fld s (pkeyEntry p e) 0 16 == key.toNat

/-- The ejection port admits a packet (R242, R243, R323). -/
def localAdmits (s : State) (p : Packet) : Bool :=
  if p.pkey = 0 then isRelay p.ptype else (partOfKey s p.pkey).isSome

/-- A drop for a key is counted, captured and posted (R244): `dir` 0 at ingress, 1 at egress of port `port`, 2 at
ejection. -/
def pkeyNote (dir port : Nat) (p : Packet) (s : State) : State :=
  let s := bump (if dir = 2 then Reg.FAB_PKEY_DROP_LOCAL else Reg.FAB_PKEY_DROP port) s
  let s := if bit s Reg.FAB_PKEY_DROP_INFO 0 then s
    else setReg Reg.FAB_PKEY_DROP_INFO (BitVec.ofNat 64
      (1 + 2 * port + 2 ^ 5 * dir + 2 ^ 8 * p.ptype.toNat + 2 ^ 16 * p.pkey.toNat + 2 ^ 32 * p.src.toNat
        + 2 ^ 40 * p.dst.toNat)) s
  postEvent 0x0504 p.src 0xFF port p.pkey.toNat s

/-- A packet that is not admitted is dropped, and ends at this node (R240, R244). -/
def pkeyDrop (dir port : Nat) (p : Packet) (s : State) : State := countEj p (pkeyNote dir port p s)

/-! ### Seals (R331, R335, R336) -/

/-- Channel `c` replaced. -/
def setChan (c : Nat) (v : Chan) (s : State) : State := { s with sec := { s.sec with chans := s.sec.chans.set c v } }

/-- The key held in a key slot (R327). -/
def keyOf (s : State) (slot : Option Nat) : List Byte :=
  match slot with
  | some i => s.sec.keys.get i (zeros 32)
  | none => zeros 32

/-- The IV of a sealed packet (R335). -/
def sealIv (p : Packet) (ctr : Nat) : List Byte := [p.src, p.chan, 0, 0] ++ beBytes 8 ctr

/-- The additional data of a sealed packet: its header with VC and EPOCH taken as 0 (R335). -/
def sealAad (p : Packet) : List Byte := { p with vc := 0, epoch := false }.header

/-- The egress tile seals a packet (R335); none where its channel is no longer open. At 2^60 the channel is exhausted
(R331). -/
def sealPacket (p : Packet) (s : State) : Option Packet × State :=
  let i := p.chan.toNat
  let c := chanOf s i
  if c.state != .opened then (none, s)
  else
    let r := Config.gcmSeal (keyOf s c.keySlot) (sealIv p c.sendCtr) (sealAad p) (p.payload.take p.payloadBytes)
    let q : Packet := { p with payload := fit p.payloadBytes r.1,
                               trailer := some ⟨BitVec.ofNat 64 c.sendCtr, fit 16 r.2⟩ }
    let full : Bool := c.sendCtr + 1 == 2 ^ 60
    let s := setChan i { c with sendCtr := c.sendCtr + 1, state := if full then .exhausted else .opened } s
    (some q, if full then postEvent 0x0702 (ownId s) c.part i 0 s else s)

/-- Why an ingress tile would refuse a sealed packet (R336), as `SEC_AUTH_FAIL_INFO` codes it, or its plain payload. -/
def openCheck (s : State) (p : Packet) : Sum Nat (List Byte) :=
  let c := chanOf s p.chan.toNat
  let t := p.trailer.getD ⟨0, zeros 16⟩
  let n := t.ctr.toNat
  if c.state != .opened then .inl 1
  else if (partOf s c.part).state != .active || (partOf s c.part).key != p.pkey then .inl 2
  else if p.src != c.peer then .inl 3
  else match Config.gcmOpen (keyOf s c.keySlot) (sealIv p n) (sealAad p) p.payload t.tag with
    | none => .inl 4
    | some plain =>
      match c.rxHigh with
      | none => .inr plain
      | some h => if c.rxSeen.contains n || n + 4096 ≤ h then .inl 5 else .inr plain

/-- A send counter is accepted: the window of 4,096 moves (R336). -/
def Chan.accept (c : Chan) (n : Nat) : Chan :=
  let h := max n (c.rxHigh.getD 0)
  { c with rxHigh := some h, rxSeen := n :: c.rxSeen.filter fun x => h < x + 4096 }

/-- The ingress tile opens a sealed packet, or drops it (R336). -/
def openPacket (p : Packet) (s : State) : Option Packet × State :=
  match openCheck s p with
  | .inl cause => (none, countEj p (authFail cause p.chan.toNat p.src p.ptype s))
  | .inr plain =>
    let n := (p.trailer.getD ⟨0, []⟩).ctr.toNat
    (some { p with payload := fit p.payloadBytes plain, trailer := none },
      setChan p.chan.toNat ((chanOf s p.chan.toNat).accept n) s)

/-! ### The sump (R285) -/

/-- Lines of a flushed packet's answer: a multicast copy stands for 2^|R| members (R249). -/
def sumpLines (p : Packet) : Nat := packetLines p * (if p.mcast then 2 ^ popcount 8 p.dst.toNat else 1)

/-- The sump's answer to a flushed packet, if it has one (R285). -/
def sumpAnswer (s : State) (p : Packet) : Option Packet :=
  let a : Packet := { blankPacket with src := ownId s, dst := p.src, pkey := p.pkey, tag := p.tag, status := stSUMP,
                                       vc := if p.vc = 7 then 7 else 3 }
  if p.ptype = tRD then some { a with ptype := tRDR, seq := p.seq, len := p.len }
  else if p.ptype = tPRD then some { a with ptype := tPRDR, seq := p.seq, len := p.len }
  else if p.ptype = tGRD then some { a with ptype := tRDR, seq := p.seq, aux := p.aux }
  else if atomFetch p then some { a with ptype := tATOMR, len := 16, payload := zeros 16 }
  else if writeClass p.ptype then
    let r : LackRec := ⟨stSUMP, p.tag, BitVec.ofNat 4 p.aux.toNat, BitVec.ofNat 32 (sumpLines p)⟩
    some { a with ptype := tLACK, tag := 0, status := 0, len := 8, payload := r.bytes }
  else if [tCJOIN, tCDATA, tEDSP, tECMB, tETALLY].contains p.ptype then
    some { a with ptype := tCABORT, win := p.win, len := 4, payload := fit 4 [stSUMP] }
  else none

/-- A flushed packet ends at this node and the sump answers it. -/
def sumpEnd (p : Packet) (s : State) : State :=
  let s := countEj p s
  match sumpAnswer s p with
  | some a => inject (if a.ptype = tCABORT then 1 else 0) a s
  | none => s

/-- A packet is flushed at the router (R233, R249): `port` is the one whose loss left it without a route, `node` the
node the event concerns. -/
def flushAtRouter (port : Nat) (node : NodeId) (p : Packet) (s : State) : State :=
  sumpEnd p (postEvent 0x0506 node 0xFF port p.tag.toNat (bump Reg.FAB_SUMP_CNT s))

/-- A packet is flushed from link `k`'s replay buffer (R283 to R285). -/
def flushFromLink (k : Nat) (p : Packet) (s : State) : State :=
  sumpEnd p (postLink 0x0607 k p.tag.toNat (bump (Reg.LNK_SUMP_CNT k) s))

end Sys2Proof.Machine
end

