-- ==== Sys2Proof/Machine/Line.lean ====
section
/-!
DEFINITION. Machine/Line.lean: what the transmitter of a link tile puts on its lanes: the Reed-Solomon code and the
frames of R260 and R261, the scrambler, line blocks and commas (R293 to R296), control blocks (R298) and training frames
(R302).
-/

namespace Sys2Proof.Machine

/-- The active lanes of link `k` (R275, R292). -/
def activeLanes (s : State) (k : Nat) : List Nat :=
  let w := (link s k).width
  if w = 1 then (List.range 4).map (8 * k + ·)
  else if w = 2 then (List.range 4).map (8 * k + 4 + ·)
  else (List.range 8).map (8 * k + ·)

/-- Lane `n` is active on its link. -/
def laneActive (s : State) (n : Nat) : Bool := (activeLanes s (n / 8)).contains n

/-- The code of the transmit reset state that the fuse map gives link `k` (R362): 0 electrical idle, 1 common-mode hold,
2 high impedance with the termination off, 3 constant drive; none before the fuse shadow is valid, where every pin is
high-impedance. -/
def resetPins (s : State) (k : Nat) : Option Nat := s.shadow.map fun f => natField f.txMap.toNat (2 * k) 2

/-- The transmit pins of lane `n` stand in their reset state: its tile is in reset, or the lane drives nothing else
(inactive, or its link DOWN or FAILED, R362). -/
def pinsInReset (s : State) (n : Nat) : Bool := !tileUp s (n / 8) || (lane s n).sends == .reset

/-! ### The Reed-Solomon codes (R260) -/

/-- A symbol of GF(2^10) times α: x^10 = x^3 + 1. -/
def gfDouble (a : Nat) : Nat := if a < 512 then 2 * a else (2 * a - 1024) ^^^ 9

/-- The product of two symbols. -/
def gfMul (a b : Nat) : Nat :=
  (List.range 10).foldr (fun i p => if b.testBit i then gfDouble p ^^^ a else gfDouble p) 0

/-- The polynomial `p`, highest coefficient first, times (x - r). -/
def polyTimes (p : List Nat) (r : Nat) : List Nat := List.zipWith (· ^^^ ·) (p ++ [0]) (0 :: p.map (gfMul r))

/-- The first `n` powers of α. -/
def alphaPowers : Nat → List Nat
  | 0 => []
  | n + 1 => 1 :: (alphaPowers n).map gfDouble

/-- The generator with roots α^0 to α^(n-1), without its leading 1. -/
def generator (n : Nat) : List Nat := ((alphaPowers n).foldl polyTimes [1]).drop 1

/-- The `n` parity symbols of a codeword: the remainder of its data symbols, the first the highest coefficient, times
x^n (assumption log 44). -/
def parity (n : Nat) (data : List Nat) : List Nat :=
  let g := generator n
  data.foldl
    (fun r d =>
      let f := d ^^^ r.headD 0
      List.zipWith (· ^^^ ·) (r.drop 1 ++ [0]) (g.map (gfMul f)))
    (List.replicate n 0)

/-- The elements of a list at even places. -/
def evens : List Nat → List Nat
  | [] => []
  | [a] => [a]
  | a :: _ :: t => a :: evens t

/-- Two lists taken alternately. -/
def alternate : List Nat → List Nat → List Nat
  | a :: as, b :: bs => a :: b :: alternate as bs
  | _, _ => []

/-- A pair of codewords as it is sent (R261, steps 3 and 4). -/
def codePair (t : Nat) (data : List Nat) : List Nat :=
  data ++ alternate (parity (2 * t) (evens data)) (parity (2 * t) (evens (data.drop 1)))

/-- Bytes cut into symbols of ten bits, the first bit as bit 0. -/
def symbolsOf : List Byte → List Nat
  | a :: b :: c :: d :: e :: t =>
    let n := leNat [a, b, c, d, e]
    natField n 0 10 :: natField n 10 10 :: natField n 20 10 :: natField n 30 10 :: symbolsOf t
  | _ => []

/-- Symbols put together to bytes. -/
def symbolBytes : List Nat → List Byte
  | a :: b :: c :: d :: t => leBytes 5 (a + 2 ^ 10 * b + 2 ^ 20 * c + 2 ^ 30 * d) ++ symbolBytes t
  | _ => []

/-- Bytes cut into `n` line-block bodies of 16. -/
def bodies : Nat → List Byte → List (List Byte)
  | 0, _ => []
  | n + 1, bs => bs.take 16 :: bodies n (bs.drop 16)

/-- The 85 block bodies of a frame of five flits, before scrambling (R261). -/
def codeFrame (fecS : Bool) (flits : List (List Byte)) : List (List Byte) :=
  let data := symbolsOf flits.flatten
  bodies 85 (symbolBytes
    (if fecS then codePair 16 data else codePair 8 (data.take 512) ++ codePair 8 (data.drop 512)))

/-! ### Line blocks and the scrambler (R293 to R296) -/

abbrev blkData : BitVec 4 := 0x5
abbrev blkCtrl : BitVec 4 := 0xA
abbrev blkComma : BitVec 4 := 0xF

/-- The bits of bytes in the order they are sent (R293). -/
def bodyBits (bs : List Byte) : List Bool := bs.flatMap fun b => (List.range 8).map b.getLsbD

/-- A line block as it is sent: header bit 0 first, then the body (R293). -/
def LineBlock.bits (b : LineBlock) : List Bool := (List.range 4).map b.head.getLsbD ++ bodyBits b.body

/-- The PAM4 level of a pair of bits, the earlier one the more significant: Gray-mapped (R293). -/
def pam4 (a b : Bool) : Int := match a, b with
  | false, false => -3
  | false, true => -1
  | true, true => 1
  | true, false => 3

/-- Bits taken in pairs to PAM4 levels. -/
def pam4Levels : List Bool → List Int
  | a :: b :: t => pam4 a b :: pam4Levels t
  | _ => []

/-- The levels of the symbols that carry bits at a rate code: PAM4 at rates 2 and 3, else NRZ with 0 as the low level, for
which the two outer levels stand (R290, R293). -/
def levels (rate : Nat) (bits : List Bool) : List Int :=
  if 2 ≤ rate then pam4Levels bits else bits.map fun b => if b then 3 else -3

/-- The symbols that a line block is sent as (R293). -/
def LineBlock.levels (rate : Nat) (b : LineBlock) : List Int := Machine.levels rate b.bits

/-- The body of a comma block (R294). -/
def commaBody : List Byte := (List.replicate 4 [0xF8#8, 0x3A#8, 0x5C#8, 0x07#8]).flatten

/-- The scrambler's state after a comma block on logical lane `i` (R295). -/
def scramSeed (i : Nat) : BitVec 58 := 0x3FFFFFFFFFFFFF0#58 + BitVec.ofNat 58 i

/-- One byte scrambled, bit 0 first (R295). -/
def scramByte (s : BitVec 58) (b : Byte) : Byte × BitVec 58 :=
  (List.range 8).foldl
    (fun x i =>
      let k := x.2.getLsbD 57 ^^ x.2.getLsbD 38
      (if k then x.1 ^^^ BitVec.ofNat 8 (2 ^ i) else x.1, x.2 <<< 1 ||| BitVec.ofNat 58 (if k then 1 else 0)))
    (b, s)

/-- A body scrambled: its bytes, and the state that is left. -/
def scramble : BitVec 58 → List Byte → List Byte × BitVec 58
  | s, [] => ([], s)
  | s, b :: bs =>
    let x := scramByte s b
    let r := scramble x.2 bs
    (x.1 :: r.1, r.2)

/-- A block of lane `n`, with the scrambler's state after it: a comma reseeds it, another body is scrambled. -/
def lineBlock (n : Nat) (scr : BitVec 58) (head : BitVec 4) (body : List Byte) : LineBlock × BitVec 58 :=
  if head = blkComma then (⟨n, head, body⟩, scramSeed (n % 8))
  else
    let r := scramble scr body
    (⟨n, head, r.1⟩, r.2)

/-- A row of one block on every lane: the lanes with their scramblers after it, and the blocks. -/
def lineRow (head : BitVec 4) (body : List Byte) (scrs : List (Nat × BitVec 58)) :
    List (Nat × BitVec 58) × List LineBlock :=
  let r := scrs.map fun e => (e.1, lineBlock e.1 e.2 head body)
  (r.map fun x => (x.1, x.2.2), r.map fun x => x.2.1)

/-- What a transmitter is sending in service: block count, rows since the last comma, the active lanes with their
scramblers, and the blocks sent. -/
structure LineTx where
  blocks : Nat
  column : Nat
  scrs   : List (Nat × BitVec 58)
  sent   : List LineBlock
  deriving DecidableEq, Repr

/-- A data block goes to the next active lane (R261, step 5); a row of commas goes before it where the 16,384th block of
every lane is due (R296). -/
def pushBlock (t : LineTx) (body : List Byte) : LineTx :=
  let w := t.scrs.length
  let first : Bool := t.blocks % w == 0
  let t := if first && 16383 ≤ t.column then
      let r := lineRow blkComma commaBody t.scrs
      { t with column := 0, scrs := r.1, sent := t.sent ++ r.2 }
    else t
  let i := t.blocks % w
  let e := t.scrs.getD i (0, 0)
  let b := lineBlock e.1 e.2 blkData body
  { blocks := t.blocks + 1, column := if first then t.column + 1 else t.column,
    scrs := t.scrs.set i (e.1, b.2), sent := t.sent ++ [b.1] }

/-- The scramblers of link `k`'s active lanes. -/
def scramblers (s : State) (k : Nat) : List (Nat × BitVec 58) := (activeLanes s k).map fun n => (n, (lane s n).scr)

/-- Scramblers put back. -/
def putScramblers (es : List (Nat × BitVec 58)) (s : State) : State :=
  each es (fun e s => modLane e.1 (fun v => { v with scr := e.2 }) s) s

/-- A whole FEC frame leaves on the lanes of link `k` (R261). -/
def sendFrame (k : Nat) (flits : List (List Byte)) (s : State) : State :=
  let l := link s k
  let t := (codeFrame l.fecS flits).foldl pushBlock ⟨l.blocks, l.column, scramblers s k, []⟩
  drive (.line t.sent) (putScramblers t.scrs (setLink k { l with blocks := t.blocks, column := t.column } s))

/-- A flit leaves the link layer of link `k` for the FEC encoder; five flits make a frame (R261). -/
def sendFlit (k : Nat) (bytes : List Byte) (s : State) : State :=
  let s := drive (.flit k bytes) s
  let fs := (link s k).frame ++ [bytes]
  if fs.length < 5 then modLink k (fun l => { l with frame := fs }) s
  else sendFrame k fs (modLink k (fun l => { l with frame := [] }) s)

/-! ### Control blocks, commas and training frames (R298 to R302) -/

/-- The tap request word that lane `n` sends (R299). -/
def laneRequest (s : State) (n : Nat) : Nat :=
  let v := lane s n
  v.ask.toNat + v.reqOut.toNat * 2 ^ 16 + v.reqIn.toNat * 2 ^ 20 + v.resp.toNat * 2 ^ 24

/-- The status bits that lane `n` sends in a control block: ALIGNED, RX_DONE, REQ_DONE, READY (R298). -/
def trainFlags (s : State) (n : Nat) : Nat :=
  let l := link s (n / 8)
  let b (x : Bool) (v : Nat) : Nat := if x then v else 0
  b l.aligned 1 + b l.rxDone 2 + b l.rxDone 4 + b l.sentReady 8

/-- The body of a control block that lane `n` sends (R298). -/
def controlBlock (s : State) (n ctype : Nat) : List Byte :=
  let body := leBytes 4 (ctype + 2 ^ 8 * (n % 8) + 2 ^ 16 * (link s (n / 8)).rate.toNat + 2 ^ 24 * trainFlags s n)
    ++ leBytes 4 (laneRequest s n) ++ zeros 4
  body ++ leBytes 4 (crc32c body).toNat

/-- A received control block is of a type, with its CRC (R298). -/
def blockIs (ctype : Nat) (b : CtrlBlock) : Bool :=
  (b.getD 0 0).toNat == ctype && leNat (slice b 12 4) == (crc32c (b.take 12)).toNat

/-- What lane `n` drives from now on. -/
def setSends (x : LineOut) (n : Nat) (s : State) : State := modLane n (fun v => { v with sends := x }) s

/-- A comma and a control block leave on lane `n`, then `rest` training data blocks (R302). -/
def sendGroup (n ctype rest : Nat) (s : State) : State :=
  let c := lineBlock n 0 blkComma commaBody
  let b := lineBlock n c.2 blkCtrl (controlBlock s n ctype)
  let d := (List.range rest).foldl
    (fun (x : List LineBlock × BitVec 58) _ =>
      let y := lineBlock n x.2 blkData (zeros 16)
      (x.1 ++ [y.1], y.2))
    ([], b.2)
  drive (.line (c.1 :: b.1 :: d.1))
    (drive (.block n (controlBlock s n ctype)) (modLane n (fun v => { v with scr := d.2 }) s))

/-- Lane `n` repeats a training frame with a control block of type `ctype`: its content is new (R302). -/
def sendBlock (n ctype : Nat) (s : State) : State := setSends (.training ctype) n (sendGroup n ctype 14 s)

/-- Every active lane of link `k` repeats a training frame. -/
def sendBlocks (k ctype : Nat) (s : State) : State := each (activeLanes s k) (fun n s => sendBlock n ctype s) s

/-- Link `k` sends commas on every active lane (R302). -/
def sendCommas (k : Nat) (s : State) : State :=
  drive (.comma k) (each (activeLanes s k)
    (fun n s => modLane n (fun v => { v with sends := .commas, scr := scramSeed (n % 8) }) s) s)

/-- `n` rows of commas. -/
def commaRows (k n : Nat) (s : State) : List LineBlock :=
  (List.replicate n ((activeLanes s k).map fun i => (⟨i, blkComma, commaBody⟩ : LineBlock))).flatten

/-- The lanes of link `k` carry flits from here: a control block of type `ctype` leaves on each after its comma, and the
comma schedule counts from that comma (R304, R312). -/
def startFlits (k ctype : Nat) (s : State) : State :=
  modLink k (fun l => { l with column := 1 })
    (each (activeLanes s k) (fun n s => setSends .flits n (sendGroup n ctype 0 s)) s)

/-- Every active lane of link `k` drives electrical idle, or its fuse-mapped reset state. -/
def quiet (x : LineOut) (k : Nat) (s : State) : State := each (activeLanes s k) (setSends x) s

end Sys2Proof.Machine
end

