-- ==== Sys2Proof/Machine/LinkCore.lean ====
section
/-!
DEFINITION. Machine/LinkCore.lean: one link's flits (R255 to R259), its transmitter (R235, R264 to R273), its landing
buffer and VC buffers (R250, R270), how it leaves and enters ACTIVE (R274 to R287), and HELLO (R225).
-/

namespace Sys2Proof.Machine

/-! ### Flits (R255, R256) -/

abbrev ftDATA : Nat := 1
abbrev ftCTRL : Nat := 2
abbrev ftIDLE : Nat := 3
abbrev ftREPLAY : Nat := 4
abbrev ftAUDIT : Nat := 5
abbrev ftINIT : Nat := 6

/-- The 256 bytes of a flit (R255, R259). -/
def flitBytes (seq ack : BitVec 12) (ftype : Nat) (abt slp rpl : Bool) (payload : List Byte) : List Byte :=
  let b (x : Bool) (i : Nat) : Nat := if x then 2 ^ i else 0
  let body := leBytes 4 (seq.toNat * 2 ^ 20 + ack.toNat * 2 ^ 8 + ftype * 2 ^ 4 + b abt 2 + b slp 1 + b rpl 0)
    ++ fit 248 payload
  body ++ leBytes 4 (crc32c body).toNat

/-- The header word of a flit. -/
def RxFlit.word (f : RxFlit) : Nat := sliceNat f.bytes 0 4
/-- Its SEQ. -/
def RxFlit.seq (f : RxFlit) : BitVec 12 := BitVec.ofNat 12 (natField f.word 20 12)
/-- Its ACK. -/
def RxFlit.ack (f : RxFlit) : BitVec 12 := BitVec.ofNat 12 (natField f.word 8 12)
/-- Its FTYPE. -/
def RxFlit.ftype (f : RxFlit) : Nat := natField f.word 4 4
/-- Its ABT. -/
def RxFlit.abt (f : RxFlit) : Bool := f.word.testBit 2
/-- Its SLP. -/
def RxFlit.slp (f : RxFlit) : Bool := f.word.testBit 1
/-- Its payload. -/
def RxFlit.payload (f : RxFlit) : List Byte := slice f.bytes 4 248

/-- Correctable symbols of the code in force (R260). -/
def fecT (l : Link) : Nat := if l.fecS then 16 else 8

/-- A codeword is uncorrectable (R262). -/
def Codeword.bad (l : Link) (c : Codeword) : Bool := 2 * fecT l < 2 * c.errors + c.erasures

/-- A flit error (R259, R262). -/
def flitError (l : Link) (f : RxFlit) : Bool :=
  leNat (slice f.bytes 252 4) != (crc32c (f.bytes.take 252)).toNat || f.cws.any (fun c => c.holds && c.bad l)
    || f.ftype == 0 || ftINIT < f.ftype

/-- The uncorrectable codewords of link `k` within the last 1 ms (R381). -/
def uncorrNow (s : State) (k : Nat) : List Nat := (link s k).uncorrAt.filter fun t => s.now < t + 100000

/-- `MGT_STEER_CTL.UNCORR_MAX`. -/
def uncorrMax (s : State) : Nat := fld s Reg.MGT_STEER_CTL 16 16

/-- One more uncorrectable codeword of link `k` at this time (R381). -/
def noteUncorr (k : Nat) (s : State) : State :=
  let ts := uncorrNow s k ++ [s.now]
  modLink k (fun l => { l with uncorrAt := ts, noisyAt := if uncorrMax s < ts.length then some s.now else l.noisyAt }) s

/-- One codeword counted (R262). -/
def countCodeword (k : Nat) (c : Codeword) (s : State) : State :=
  let l := link s k
  let s := bump48 (Reg.LNK_FEC_CW k) 1 s
  let s := if c.errors ≤ fecT l then bump (Reg.LNK_FEC_HIST k c.errors) s else s
  if c.bad l then noteUncorr k (bump48 (Reg.LNK_FEC_UNCORR_CW k) 1 s)
  else if 0 < c.errors + c.erasures then
    bump48 (Reg.LNK_FEC_CORR_SYM k) (c.errors + c.erasures) (bump48 (Reg.LNK_FEC_CORR_CW k) 1 s)
  else s

/-! ### Unsequenced flits -/

/-- The next start of a link is fresh (R277): either side says so, or the partner is another one than was recorded. -/
def startsFresh (l : Link) : Bool :=
  l.fresh || match l.initWord with
    | some w => (w.getD 1 0).getLsbD 6
        || l.partner != some (BitVec.ofNat 16 (sliceNat w 2 2), BitVec.ofNat 16 (sliceNat w 4 2))
    | none => false

/-- An unsequenced flit leaves (R255): SEQ is the number of the next sequenced flit, ACK the last one accepted; before a
fresh start they are those of R264. -/
def sendUnseq (k ftype : Nat) (slp : Bool) (payload : List Byte) (s : State) : State :=
  let l := link s k
  let anew : Bool := ftype == ftINIT && startsFresh l
  let seq : BitVec 12 := if anew then 0 else l.txSeq
  let ack : BitVec 12 := if anew then 0xFFF else l.rxSeq - 1
  sendFlit k (flitBytes seq ack ftype false slp false payload) (setLink k { l with toldAck := ack } s)

/-- A CTRL flit leaves (R268). -/
def sendCtrl (k : Nat) (s : State) : State :=
  let l := link s k
  let body := [l.stopOut, 0, 0, 0] ++ leBytes 4 l.relOut.toNat ++ leBytes 4 l.accepted.toNat ++ [l.aud, 0, 0, 0]
    ++ (activeLanes s k).flatMap fun n => leBytes 4 (laneRequest s n)
  sendUnseq k ftCTRL false body (setLink k { l with toldRel := l.relOut, toldStop := l.stopOut } s)

/-- A REPLAY_REQ leaves (R265). -/
def sendReplayReq (k : Nat) (s : State) : State := sendUnseq k ftREPLAY false [] s

/-- The INIT payload of link `k` (R275). -/
def initPayload (s : State) (k : Nat) : List Byte :=
  let l := link s k
  let flags := l.rate.toNat + 4 * l.width.toNat + (if l.fecS then 16 else 0) + (if l.rxOk then 32 else 0)
    + (if l.fresh then 64 else 0)
  [1, BitVec.ofNat 8 flags] ++ leBytes 2 (fld s Reg.FAB_INCARN 0 16) ++ leBytes 2 l.lresets.toNat
    ++ leBytes 2 l.rxSeq.toNat ++ leBytes 4 l.relOut.toNat ++ leBytes 4 l.accepted.toNat ++ leBytes 4 l.sent.toNat
    ++ leBytes 4 k

/-! ### The transmitter -/

/-- The transmit direction runs: ACTIVE and awake. -/
def txReady (s : State) (k : Nat) : Bool :=
  tileUp s k && (link s k).state == .active && (link s k).txSleep == .awake

/-- The hold phase of duty-cycling keeps new packets back (R288). -/
def holding (l : Link) : Bool := l.hold && !l.holdEnded

/-- A packet that is cut through leaves on link `k`: nothing else starts before its end (R235). -/
def cutInto (s : State) (k : Nat) : Bool :=
  s.links.values.any fun l => match l.rxPart with | some x => x.mode == .cut k | none => false

/-- The element of a list with the least key, the first of equals. -/
def leastBy {α : Type} (key : α → Nat) : List α → Option α
  | [] => none
  | a :: as =>
    match leastBy key as with
    | none => some a
    | some b => if key b < key a then some b else some a

/-- The order in which an output link serves its VCs (R235). -/
def vcRank (v : BitVec 3) : Nat :=
  if v = 7 then 0 else if v = 4 then 1 else if v = 6 then 2 else if v = 2 || v = 3 then 3 else if v = 5 then 4 else 5

/-- The VCs with a packet that may start on a link now (R251). -/
def readyVcs (l : Link) : List (BitVec 3) :=
  ((List.range 8).map (BitVec.ofNat 3)).filter fun v => !l.stopIn.getLsbD v.toNat && l.txq.any fun p => p.vc == v

/-- VC7 may start a packet of `n` units while other VCs wait (R235): in no run of slots long enough to hold it does it pass
its share, in eighths, of them. -/
def withinShare (share n : Nat) (grants : List (BitVec 3)) : Bool :=
  let w := max 8 (ceilDiv (8 * n) share)
  8 * (((grants.drop (grants.length - (w - n))).filter (· == 7)).length + n) ≤ w * share

/-- Flit units of the first packet of a VC that waits for a link. -/
def headUnits (l : Link) (v : BitVec 3) : Nat := match l.txq.find? fun p => p.vc == v with | some p => p.units | none => 1

/-- The slots for which a VC has waited on a link (R235). -/
def waitedFor (l : Link) (v : BitVec 3) : Nat := l.waited.getD v.toNat 0

/-- The VCs that may start a packet on a link now: VC7 only within its share while others wait (R235). -/
def sharedVcs (share : Nat) (l : Link) : List (BitVec 3) :=
  let vs := readyVcs l
  if vs.any (· != 7) && !withinShare share (headUnits l 7) l.grants then vs.filter (· != 7) else vs

/-- Of the VCs that might miss their slot of 16 behind another packet, the one that is served (R235): that with the longest
wait for the length of its packet, unless another one would miss its slot behind it (assumption log 32). -/
def dueVc (l : Link) (vs : List (BitVec 3)) : Option (BitVec 3) :=
  let due := vs.filter fun v => 7 ≤ waitedFor l v
  match leastBy (fun v => (100000 - 72 * waitedFor l v / headUnits l v) * 8 + vcRank v) due with
  | none => none
  | some c =>
    let missed := due.filter fun v => waitedFor l v < 16 && 16 ≤ waitedFor l v + headUnits l c
    match leastBy (fun v => 16 - waitedFor l v) (missed.filter (· != c)) with
    | some v => some v
    | none => some c

/-- The VC served next (R235): one that might miss its slot of 16 otherwise (the longest packet takes 9), else the first in
order, of VCs of one rank the one whose packet came first. -/
def pickVc (share : Nat) (l : Link) : Option (BitVec 3) :=
  let vs := sharedVcs share l
  match dueVc l vs with
  | some v => some v
  | none =>
    match leastOf (vs.map vcRank) with
    | none => none
    | some r => (l.txq.find? fun p => vs.contains p.vc && vcRank p.vc == r).map (·.vc)

/-- A VC is granted `n` flit slots (R235); those for which a VC other than VC7 has waited are kept for VC7's share. -/
def grant (v : BitVec 3) (n : Nat) (l : Link) : Link :=
  let gs := if v != 7 || l.txq.any (fun p => p.vc != 7) then l.grants ++ List.replicate n v else l.grants
  { l with
    grants := gs.drop (gs.length - 72)
    waited := l.waited.mapIdx fun i w =>
      if i = v.toNat || l.txq.all (fun p => p.vc.toNat != i) then 0 else w + n }

/-- The next packet starts on link `k`, sealed if it is one of this node's sealed packets (R335). The answer says
whether a packet left the queue. -/
def startPacket (k : Nat) (s : State) : Bool × State :=
  let l := link s k
  if holding l || !txReady s k then (false, s)
  else match pickVc (fld s Reg.FAB_PRIO_SHARE 0 3 + 1) l with
    | none => (false, s)
    | some v =>
      match l.txq.find? fun p => p.vc == v with
      | none => (false, s)
      | some p =>
        let s := setLink k (grant v p.units { l with txq := l.txq.erase p }) s
        if p.sealed && p.src == ownId s && p.trailer.isNone then
          match sealPacket p s with
          | (some q, s) => (true, modLink k (fun l => { l with txOut := l.txOut ++ [⟨q, q.stream, 0⟩] }) s)
          | (none, s) => (true, neverSealed p (countEj p s))
        else (true, modLink k (fun l => { l with txOut := l.txOut ++ [⟨p, p.stream, 0⟩] }) s)

/-- The next entry of a packet that has started, and what is left of it: 128 bytes, or the packet's last ones; none while
they are still to arrive. -/
def Sending.entry (e : Sending) : Option (Crossed × Option Sending) :=
  if e.rest.length < 128 && e.toCome != 0 then none
  else
    let ends : Bool := e.rest.length ≤ 128 && e.toCome == 0
    some (⟨e.packet, e.rest.take 128, e.packet.streamLen ≤ e.rest.length + e.toCome, ends⟩,
      if ends then none else some { e with rest := e.rest.drop 128 })

/-- The core writes the crossing to link `k`'s tile while it has room, and starts packets for it; a full crossing stalls
it (R13, R14). -/
def feedN : Nat → Nat → State → State
  | 0, _, s => s
  | n + 1, k, s =>
    let l := link s k
    if 16 ≤ l.txX.length then s
    else match l.txOut with
      | [] =>
        match startPacket k s with
        | (true, s) => feedN n k s
        | (false, s) => s
      | e :: more =>
        match e.entry with
        | none => s
        | some (x, left) =>
          feedN n k (setLink k { l with txX := l.txX ++ [x], txOut := left.toList ++ more } s)

/-- The core writes the crossing to link `k`'s tile while it can. -/
def feed (k : Nat) (s : State) : State := feedN (2 * (link s k).txq.length + 34) k s

/-- A flit being filled: its bytes, the packets that end in it, its ABT, and whether it carries traffic (R358). -/
structure Filling where
  bytes   : List Byte
  ended   : List Packet
  abt     : Bool
  traffic : Bool
  deriving DecidableEq, Repr

/-- A flit that nothing has been put into. -/
def Filling.empty : Filling := ⟨[], [], false, false⟩

/-- The first packet that ends in a list of entries, and the bytes up to its end. -/
def nextEnd : List Crossed → Option (Packet × Nat)
  | [] => none
  | x :: more =>
    if x.ends then some (x.packet, x.bytes.length) else (nextEnd more).map fun r => (r.1, r.2 + x.bytes.length)

/-- A DATA flit is filled from the crossing (R257): packets follow one another; nothing follows an aborted packet, and no
packet ends before it in its last flit (R287). What stays in the crossing comes second. -/
def fillFlit : List Crossed → Filling → Filling × List Crossed
  | [], f => (f, [])
  | x :: more, f =>
    let room := 248 - f.bytes.length
    let last : Bool := match nextEnd (x :: more) with
      | some (p, n) => p.abt && n ≤ room
      | none => false
    if f.abt || room = 0 || (last && !f.ended.isEmpty) then (f, x :: more)
    else
      let f := { f with bytes := f.bytes ++ x.bytes.take room, traffic := f.traffic || !isRelay x.packet.ptype }
      if room < x.bytes.length then (f, { x with bytes := x.bytes.drop room, first := false } :: more)
      else if x.ends then fillFlit more { f with ended := f.ended ++ [x.packet], abt := x.packet.abt }
      else fillFlit more f

/-- The entries up to the last end of a packet. -/
def upToEnd (xs : List Crossed) : List Crossed := (xs.reverse.dropWhile fun x => !x.ends).reverse

/-- The next DATA flit of a crossing: a whole one, else one that ends with a packet and pad units (R257). -/
def nextFlit (xs : List Crossed) : Filling × List Crossed :=
  let r := fillFlit xs Filling.empty
  if r.1.bytes.length = 248 then r
  else
    let ys := upToEnd xs
    let r := fillFlit ys Filling.empty
    (r.1, r.2 ++ xs.drop ys.length)

/-- Room in the replay buffer (R264). -/
def replayRoom (l : Link) : Bool := l.replay.length < 1024

/-- A credit is held for a DATA flit (R270). -/
def hasCredit (l : Link) : Bool := (l.sent - l.relIn).toNat < 1024

/-- A sequenced flit leaves and is kept in the replay buffer (R264). -/
def sendSeq (k ftype : Nat) (abt traffic : Bool) (payload : List Byte) (s : State) : State :=
  let l := link s k
  let f : SentFlit := { seq := l.txSeq, audit := ftype == ftAUDIT, abt := abt, payload := payload, traffic := traffic }
  sendFlit k (flitBytes l.txSeq (l.rxSeq - 1) ftype abt false false payload)
    (setLink k { l with txSeq := l.txSeq + 1, replay := l.replay ++ [f], toldAck := l.rxSeq - 1 } s)

/-- One new sequenced flit leaves on link `k`, if one can (R269, R270, R272). -/
def sendNext (k : Nat) (s : State) : Option State :=
  let l := link s k
  if !txReady s k || !replayRoom l then none
  else if l.auditDue then
    some (sendSeq k ftAUDIT false false (leBytes 4 l.sent.toNat) (setLink k { l with auditDue := false } s))
  else if !hasCredit l then none
  else
    let r := nextFlit l.txX
    let f := r.1
    if f.bytes.isEmpty then none
    else
      let n := l.dataCount + 1
      some (sendSeq k ftDATA f.abt f.traffic f.bytes
        (setLink k { l with txX := r.2
                            sent := l.sent + 1
                            dataCount := if n = 65536 then 0 else n
                            auditDue := n == 65536
                            carried := l.carried ++ f.ended.map fun p => (l.txSeq, p) } s))

/-- New flits leave on link `k` while any can. -/
def pumpN : Nat → Nat → State → State
  | 0, _, s => s
  | n + 1, k, s =>
    let s := feed k s
    match sendNext k s with
    | some s => pumpN n k s
    | none => s

/-- New flits leave on link `k` while any can: at most the replay buffer's 1,024. -/
def pump (k : Nat) (s : State) : State := pumpN 1025 k s

/-! ### The landing buffer and the VC buffers (R250, R251, R270) -/

/-- Link `k` hands packets of a type to the router (R227): a link that is not ACTIVE holds only packets that arrived
before. -/
def linkGives (s : State) (k : Nat) (ty : BitVec 6) : Bool :=
  (link s k).state != .active || (verified s k && (isRelay ty || (fabReady s && nbrReady s k)))

/-- Flit units of VC `v` of link `k`'s input that packets waiting in the router still hold: copies of one arrival hold
its space together (R232, R247). -/
def heldUnits (s : State) (k : Nat) (v : BitVec 3) : Nat :=
  let ws := s.router.waiting.filter fun w => match w.src with | some (j, u, _) => j == k && u == v | none => false
  ((ws.map fun w => (w.src, w.packet.units)).eraseDups).foldl (fun n a => n + a.2) 0

/-- Flit units held for VC `v` of link `k`'s input: waiting packets, the one that is arriving, and packets in the router
that still hold their space (R250). -/
def occupancy (s : State) (k : Nat) (v : BitVec 3) : Nat :=
  let l := link s k
  let part := match l.rxPart with
    | some x => if x.header.vc = v && x.mode != .drop then x.header.units else 0
    | none => 0
  (l.inbuf.filter fun a => a.packet.vc == v).foldl (fun n a => n + a.packet.units) 0 + part + heldUnits s k v

/-- The STOP vector of link `k` (R250): STOP from 36 units, GO from 24. -/
def valve (s : State) (k : Nat) : Byte :=
  let old := (link s k).stopOut
  BitVec.ofNat 8 ((List.range 8).foldl
    (fun m v =>
      let n := occupancy s k (BitVec.ofNat 3 v)
      if 36 ≤ n || (old.getLsbD v && 24 < n) then setBit m v else m) 0)

/-- Bytes in the crossing from link `k`'s tile to the core. -/
def Link.crossing (l : Link) : List Byte := l.rxX.flatMap (·.2)

/-- The tile writes the crossing to the core from its landing buffer while it has room: two entries of 128 and 120 bytes
a flit (R13, R14). -/
def crossIn : Nat → Link → Link
  | 0, l => l
  | n + 1, l =>
    let at_ := l.rxPos + l.crossing.length
    match l.landing[at_ / 248]? with
    | none => l
    | some (abt, bs) =>
      if 16 ≤ l.rxX.length then l
      else
        let o := at_ % 248
        let m := if o < 128 then 128 - o else 248 - o
        crossIn n { l with rxX := l.rxX ++ [(abt, slice bs o m)] }

/-- Entries without their first `n` bytes. -/
def dropBytes : Nat → List (Bool × List Byte) → List (Bool × List Byte)
  | _, [] => []
  | n, (a, bs) :: more => if n < bs.length then (a, bs.drop n) :: more else dropBytes (n - bs.length) more

/-- The ABT of the flit that holds byte `n` of the crossing. -/
def abtAt : Nat → List (Bool × List Byte) → Bool
  | _, [] => false
  | n, (a, bs) :: more => if n < bs.length then a else abtAt (n - bs.length) more

/-- The router has taken `n` bytes from the crossing: whole flits free their slots (R270). -/
def passOn (n : Nat) (l : Link) : Link :=
  let pos := l.rxPos + n
  let m := pos / 248
  { l with rxX := dropBytes n l.rxX, landing := l.landing.drop m, rxPos := pos % 248,
           relOut := l.relOut + BitVec.ofNat 32 m }

/-- Bytes of a packet that is cut through follow on its output (R261); at its end the whole packet is known. -/
def forward (out : Nat) (bs : List Byte) (whole : Option Packet) (s : State) : State :=
  modLink out (fun l => { l with txOut := l.txOut.map fun e =>
    if e.toCome = 0 then e
    else
      let p := match whole with
        | some p => { p with vc := e.packet.vc, epoch := e.packet.epoch }
        | none => e.packet
      ⟨p, e.rest ++ bs, e.toCome - bs.length⟩ }) s

/-- A whole packet that arrived on link `k` is in its VC buffer (R242, R336): one that the port does not admit is
dropped, one for this node is opened if sealed. -/
def takeWhole (k : Nat) (p : Packet) (s : State) : State :=
  let keep (q : Packet) (s : State) : State :=
    modLink k (fun l => { l with inbuf := l.inbuf ++ [⟨q, linkGives s k q.ptype⟩] }) s
  match portOfLink s k with
  | some port =>
    if !portAdmits s port p.ptype p.pkey then pkeyDrop 0 port p s
    else if p.sealed && p.dst == ownId s && !p.abt then
      match openPacket p s with
      | (some q, s) => keep q s
      | (none, s) => s
    else keep p s
  | none => keep p s

/-- The last bytes of a packet arriving on link `k` have come (R287): it is kept, or the rest of one cut through follows
it, or the rest of one aborted is discarded. -/
def takeIn (k : Nat) (x : Incoming) (bs : List Byte) (abt : Bool) (s : State) : State :=
  let p : Packet := { parsePacket x.header (x.got ++ bs) with abt := abt }
  match x.mode with
  | .keep => takeWhole k p s
  | .cut out => forward out bs (some p) s
  | .drop => bump (Reg.LNK_ABORT_CNT k) s

/-- One read of the router from the crossing of link `k` (R250, R257): a pad unit, the header of a packet for which its
VC buffer has room (`force`: whether or not it has, R284), or bytes of the packet that is arriving. None where there is
nothing that it can take. -/
def readCrossing (k : Nat) (force : Bool) (s : State) : Option State :=
  let l := link s k
  let bs := l.crossing
  match l.rxPart with
  | none =>
    if bs.length < 8 then none
    else if allZero (bs.take 8) then some (setLink k (passOn 8 l) s)
    else if bs.length < 32 then none
    else
      let h := parseHeader bs
      if !force && 48 < occupancy s k h.vc + h.units then none
      else some (setLink k { l with rxPart := some ⟨h, [], .keep⟩ } s)
  | some x =>
    let left := x.header.streamLen - x.got.length
    if bs.isEmpty then none
    else if left ≤ bs.length then
      some (takeIn k x (bs.take left) (abtAt (left - 1) l.rxX) (setLink k { passOn left l with rxPart := none } s))
    else
      let s := setLink k { passOn bs.length l with rxPart := some { x with got := x.got ++ bs } } s
      some (match x.mode with
        | .cut out => forward out bs none s
        | _ => s)

/-- Packets pass from the landing buffer of link `k` through the crossing to the router while they can. -/
def absorbN : Nat → Nat → Bool → State → State
  | 0, _, _, s => s
  | fuel + 1, k, force, s =>
    match readCrossing k force (modLink k (crossIn 16) s) with
    | some s => absorbN fuel k force s
    | none => modLink k (crossIn 16) s

/-- Packets pass from the landing buffer of link `k` to the router. -/
def absorb (k : Nat) (s : State) : State :=
  let s := absorbN (64 * (link s k).landing.length + 2) k false s
  modLink k (fun l => { l with stopOut := valve s k }) s

/-- A CTRL flit leaves if STOP has changed or RELEASED has advanced by 128 since the last one (R269). -/
def ctrlIfDue (k : Nat) (s : State) : State :=
  let l := link s k
  if txReady s k && (l.stopOut != l.toldStop || 128 ≤ (l.relOut - l.toldRel).toNat) then sendCtrl k s else s

/-- Everything that can move on the links moves: arrived packets into the VC buffers, control information, new flits. -/
def settleLinks (s : State) : State :=
  let ks := s.links.keys
  each ks (fun k s => pump k (ctrlIfDue k s)) (each ks absorb s)

/-! ### Leaving ACTIVE -/

/-- A packet that was queued for link `k` goes back into the router to be routed again (R252); a multicast copy stays one
for the dimension of the link's port (R247). -/
def requeue (k : Nat) (p : Packet) (s : State) : State :=
  let dim := if p.mcast then (portOfLink s k).map (portDim s) else none
  { s with router := { s.router with waiting := s.router.waiting ++ [⟨p, dim, none⟩] } }

/-- Packets queued for link `k` and not started that meet `goes` are chosen again (R252); of fabric control packets, which
belong to this link, nothing is kept. -/
def requeueLink (k : Nat) (goes : Packet → Bool) (s : State) : State :=
  let l := link s k
  each (l.txq.filter fun p => goes p && !isControl p.ptype) (requeue k)
    (setLink k { l with txq := l.txq.filter fun p => !goes p } s)

/-- Packets that a port carries only for ordinary traffic (R227). -/
def isOrdinary (p : Packet) : Bool := !isRelay p.ptype

/-- A packet that has not ended on link `k` and of which bytes have left (R252, R283). -/
def Link.underWay (l : Link) : Option Packet :=
  match l.txX with
  | x :: _ => if x.first then none else some x.packet
  | [] =>
    match l.txOut with
    | e :: _ => if e.rest.length + e.toCome < e.packet.streamLen then some e.packet else none
    | [] => none

/-- The packets of which no byte has left the crossing to link `k`'s tile, each with the bytes that have come of it. -/
def Link.unstarted (l : Link) : List (Packet × List Byte) :=
  let put (acc : List (Packet × List Byte)) (x : Packet) (bs : List Byte) (first : Bool) : List (Packet × List Byte) :=
    if first then acc ++ [(x, bs)]
    else match acc.getLast? with
      | some e => acc.dropLast ++ [(x, e.2 ++ bs)]
      | none => []
  let acc := l.txX.foldl (fun acc x => put acc x.packet x.bytes x.first) []
  l.txOut.foldl (fun acc e => put acc e.packet e.rest (e.packet.streamLen ≤ e.rest.length + e.toCome)) acc

/-- The packet being cut through to link `k`, wherever it arrives, goes on as `m` there. -/
def turnCut (k : Nat) (m : InMode) (s : State) : State :=
  { s with links := s.links.map fun l =>
      match l.rxPart with
      | some x => if x.mode = .cut k then { l with rxPart := some { x with mode := m } } else l
      | none => l }

/-- The packets in the crossing of link `k` of which no byte has left are chosen again (R252); one of them that is still
arriving stays in its VC buffer. -/
def requeueUnstarted (k : Nat) (s : State) : State :=
  let l := link s k
  let whole := l.unstarted.filter fun e => e.1.streamLen ≤ e.2.length
  let kept := l.txX.takeWhile fun x => !x.first
  let inOut : Bool := l.txX.any (·.first)
    || l.txOut.any fun e => e.packet.streamLen ≤ e.rest.length + e.toCome
  let s := setLink k { l with txX := kept, txOut := if inOut then [] else l.txOut } s
  let s := if inOut then turnCut k .keep s else s
  each (whole.filter fun e => !isControl e.1.ptype)
    (fun e s => requeue k { parsePacket e.1 e.2 with abt := e.1.abt } s) s

/-- A packet arriving on link `k` that has already started on an output is completed there with zeros and ABT (R287). -/
def abortCut (k : Nat) (s : State) : State :=
  match (link s k).rxPart with
  | some x =>
    match x.mode with
    | .cut out =>
      let more := zeros (x.header.streamLen - x.got.length)
      forward out more (some { parsePacket x.header (x.got ++ more) with abt := true })
        (modLink k (fun l => { l with rxPart := some { x with mode := .drop } }) s)
    | _ => s
  | none => s

/-- A packet that is arriving on link `k` will never come whole (R277, R284, R287): one that has started on an output is
completed there, and one that has not is discarded and counted, however much of it has come. -/
def abortPart (k : Nat) (s : State) : State :=
  let l := link s k
  match l.rxPart with
  | some x =>
    if x.mode = .keep then modLink k (fun l => { l with rxPart := none }) (bump (Reg.LNK_ABORT_CNT k) s)
    else abortCut k s
  | none => if allZero l.crossing then s else bump (Reg.LNK_ABORT_CNT k) s

/-- The replay buffer of link `k` is flushed to the sump (R283, R285), with every packet of which a byte had left; the
rest of one that is still arriving is discarded. -/
def flushReplay (k : Nat) (s : State) : State :=
  let l := link s k
  let s := match l.underWay with | some _ => turnCut k .drop s | none => s
  let s := modLink k (fun l => { l with
    replay := [], carried := [], rpl := none, rplFrom := none, rplCount := 0
    txX := l.txX.dropWhile fun x => !x.first
    txOut := if l.txX.any (·.first) then l.txOut
      else l.txOut.filter fun e => e.packet.streamLen ≤ e.rest.length + e.toCome }) s
  each (l.carried.map (·.2) ++ l.underWay.toList) (flushFromLink k) s

/-- Link `k` leaves ACTIVE for `st` (R226, R252, R283, R287); a frame that is being built, and a replay, end. -/
def leaveActive (k : Nat) (st : LinkState) (s : State) : State :=
  let s := requeueUnstarted k (requeueLink k (fun _ => true) (abortCut k s))
  let s := modLink k (fun l => { l with state := st, awaiting := false, txSleep := .awake, rxSleep := false, hold := false,
                                        drainTold := false, frame := [], rpl := none }) s
  let s := setReg (Reg.FAB_LINK_STATUS k) 0 s
  if linkMode s k = 1 then s else flushReplay k s

/-- The lanes of link `k` go to their fuse-mapped reset state (R274, R362): the transmit taps of preset 1; a lane that
served a partner's loop leaves test, and its monitor goes back to LOS and LOL (R308). Model's choice: LOS and LOL of a
lane whose monitors are off keep their last values (R292; assumption log 12). -/
def resetLanes (k : Nat) (s : State) : State :=
  each ((List.range 8).map (8 * k + ·))
    (fun n s =>
      let s := if bit s (Reg.LANE_TEST n) 0 then s else setFld (Reg.LANE_SQ_CTL n) 0 1 0 s
      modLane n (fun v => { v with sends := .reset, taps := Lane.initial.taps, eq := Lane.initial.eq, farServe := false,
                                   farOk := false, idleTill := none }) s) s

/-- Link `k` stops in DOWN or FAILED. -/
def stopLink (k : Nat) (st : LinkState) (s : State) : State :=
  let s := if (link s k).state = .active then leaveActive k st s
    else if linkMode s k = 1 then s else flushReplay k s
  resetLanes k (modLink k (fun l => { l with state := st, step := 7, rtStep := 0, frameLock := false, initSeen := false,
                                             rxOk := false, initsSent := 0 }) s)

/-! ### Priming and retrain -/

/-- Link `k` is in a logical port whose role is not unused, MODE is not RECOVERY and the configuration is LOADED (R274,
first row); MODE was not RECOVERY since the last full link reset (R283). -/
def mayPrime (s : State) (k : Nat) : Bool :=
  tileUp s k && linkMode s k != 2 && !(link s k).recov && fld s Reg.GEN_CFG_STATUS 0 2 == 2
    && match portOfLink s k with
      | some p => portRole s p != 0
      | none => false

/-- Link `k` in DOWN enters PRIMING if it may (R274); its cold attempt starts with `PRIME_START`. -/
def tryPrime (k : Nat) (s : State) : State :=
  if (link s k).state = .down && mayPrime s k then
    modLink k (fun l => { l with state := .priming, step := 7, reprime := false }) s
  else s

/-- The steps of a priming attempt begin at `step` (R303, R305). -/
def beginSteps (k step : Nat) (s : State) : State :=
  modLink k (fun l => { l with step := step, aligned := false, rxDone := false, partRdy := Tbl.empty,
                               sentReady := false, endSeen := [], frame := [],
                               frameLock := false, rxOk := false, initsSent := 0, initSeen := false,
                               initWord := none }) s

/-- Retrain starts of link `k` within the last second (R281). -/
def recentStarts (s : State) (k : Nat) : List Nat := (link s k).starts.filter fun t => s.now < t + 100000000

/-- A retrain attempt starts on link `k`, or the link fails (R278 to R282): `cause` says that a cause was found, not that
an attempt timed out. -/
def startRetrain (k : Nat) (cause : Bool) (s : State) : State :=
  let st := (link s k).state
  if st != .active && st != .retrain then s
  else
    let recent := recentStarts s k
    if 2 ≤ recent.length then postLink 0x0606 k 0 (stopLink k .failed s)
    else
      let s := if st = .active then
          postLink 0x0602 k 0 (bump (Reg.LNK_RETRAIN_CNT k) (leaveActive k .retrain s))
        else if cause then bump (Reg.LNK_RECOV_RESTART_CNT k) s else s
      let s := beginSteps k 1 (modLink k (fun l => { l with rtStep := 1, reprime := true,
                                                            starts := recent ++ [s.now] }) s)
      sendCommas k s

/-! ### HELLO and other fabric control packets (R224, R225) -/

/-- A fabric control packet is queued on link `k` (R224). -/
def sendControl (k : Nat) (ty : BitVec 6) (payload : List Byte) (s : State) : State :=
  let node := match portOfLink s k with | some p => portNeighbour s p | none => ownId s
  let p : Packet := { blankPacket with ptype := ty, epoch := bit s Reg.FAB_EPOCH_CTL 0, vc := 4, src := ownId s,
                                       dst := node, len := BitVec.ofNat 12 payload.length, payload := payload }
  modLink k (fun l => { l with txq := l.txq ++ [p] }) s

/-- The HELLO payload of link `k` (R225). -/
def helloPayload (s : State) (k : Nat) : List Byte :=
  let p := (portOfLink s k).getD 16
  let role := portRole s p
  leBytes 4 (fld s Reg.FAB_NODE_ID 0 8 + 2 ^ 8 * dimEn s + 2 ^ 16 * role + 2 ^ 18 * (if role = 1 then portDim s p else 0)
      + 2 ^ 24 * k + (if fabReady s then 2 ^ 30 else 0) + (if bit s Reg.FAB_EPOCH_CTL 0 then 2 ^ 31 else 0))
    ++ leBytes 4 (fld s Reg.FAB_INCARN 0 16)

/-- Link `k` sends a HELLO if it is ACTIVE (R226). -/
def sendHello (k : Nat) (s : State) : State :=
  if (link s k).state = .active then sendControl k tHELLO (helloPayload s k) s else s

/-- Every ACTIVE link sends a HELLO: a field that it carries has changed (R226). -/
def helloAll (s : State) : State := each s.links.keys sendHello s

/-! ### Entering ACTIVE (R276, R277, R280) -/

/-- Flits kept in the replay buffer of link `k` leave again with RPL set (R266). -/
def resendFlits (k : Nat) (s : State) : State :=
  let l := link s k
  each l.replay
    (fun f s => sendFlit k (flitBytes f.seq (l.rxSeq - 1) (if f.audit then ftAUDIT else ftDATA) f.abt false true
      f.payload) s)
    (setLink k { l with toldAck := if l.replay.isEmpty then l.toldAck else l.rxSeq - 1 } s)

/-- The time of one flit on a link, in ps (R271). -/
def flitTime (l : Link) : Nat := 1320 * 2 ^ (3 - l.rate.toNat) * (if l.width = 0 then 1 else 2)

/-- A replay is being sent (R266): it lasts the time of its flits, in ticks of 10 ns (assumption log 1). -/
def replayRuns (l : Link) (now : Nat) : Bool := match l.rpl with | some r => now < r.until_ | none => false

/-- A replay of every unacknowledged flit is sent and counted (R266, R267); `tmo` says that an ACK timeout asks for it. -/
def sendReplay (k : Nat) (tmo : Bool) (s : State) : State :=
  let l := link s k
  match l.replay with
  | [] => s
  | f :: _ =>
    let time := max 1 (ceilDiv (l.replay.length * flitTime l) 10000)
    let s := setLink k { l with rplFrom := some f.seq, rplCount := l.rplCount + 1,
                                rpl := some ⟨f.seq, s.now, s.now + time, tmo⟩ } s
    resendFlits k (postLink 0x0601 k 0 (bump (Reg.LNK_REPLAY_CNT k) s))

/-- Sequence state as after a fresh start (R264, R277). Whole packets in the landing buffer pass on; a partly received
one is aborted. -/
def freshStart (k : Nat) (s : State) : State :=
  let s := absorbN (64 * (link s k).landing.length + 2) k true s
  let s := flushReplay k (abortPart k s)
  modLink k (fun l => { l with txSeq := 0, ackIn := 0xFFF, sent := 0, relIn := 0, dataCount := 0, auditDue := false,
                               rxSeq := 0, accepted := 0, relOut := 0, aud := 0, landing := [], rxPos := 0, rxX := [],
                               rxPart := none, toldAck := 0xFFF, toldRel := 0 }) s

/-- A start that is not fresh (R280): flits before the partner's NEXT_SEQ are freed, RELEASED is taken, and the rest is
replayed once the link is ACTIVE. The replay before it is followed by another one unless NEXT_SEQ has passed its first flit
(R267). Where the mode had the replay buffer flushed, the numbers of the flushed flits are
used again (assumption log 10). -/
def resumeStart (k next : Nat) (relIn accepted : Word) (s : State) : State :=
  let l := link s k
  let left := l.replay.filter fun f => f.seq.toNat == next || serialAfter 12 f.seq.toNat next
  let again : Bool := match l.rplFrom with | some x => left.any fun f => f.seq == x | none => false
  let l := { l with relIn := relIn, ackIn := BitVec.ofNat 12 (next + 4095), rpl := none,
                    rplFrom := if again then l.rplFrom else none, rplCount := if again then l.rplCount else 0,
                    replay := left, carried := l.carried.filter fun e => left.any fun f => f.seq == e.1 }
  setLink k (if l.replay.isEmpty && l.txSeq.toNat != next && linkMode s k != 1 then
    { l with txSeq := BitVec.ofNat 12 next, sent := accepted } else l) s

/-- Step 6 of a retrain, or of another start that is not fresh (R280): a CTRL flit that is due goes out first (R269), then
the replay. -/
def resumeSend (k : Nat) (s : State) : State := sendReplay k false (ctrlIfDue k (absorb k s))

/-- Link `k` enters ACTIVE, if its handshake and frame lock are complete (R276, R277, R280); it sends a HELLO, and after
a start that is not fresh its replay. A RELEASED beyond SENT is a retrain cause (R272, R282). -/
def tryActive (k : Nat) (s : State) : State :=
  let l := link s k
  match l.initWord with
  | none => s
  | some w =>
    if (l.state = .init || (l.state = .retrain && 4 ≤ l.rtStep)) && l.frameLock && l.initSeen && l.rxOk
        && 4 ≤ l.initsSent then
      let fresh : Bool := startsFresh l
      let rel := BitVec.ofNat 32 (sliceNat w 8 4)
      let s := if fresh then freshStart k s
        else resumeStart k (sliceNat w 6 2 % 4096) rel (BitVec.ofNat 32 (sliceNat w 12 4)) s
      let beyond : Bool := !fresh && serialAfter 32 rel.toNat (link s k).sent.toNat
      if beyond && l.state = .retrain then startRetrain k true (modLink k (fun x => { x with relIn := l.relIn }) s)
      else
        let s := modLink k (fun l => { l with
          state := .active
          partner := some (BitVec.ofNat 16 (sliceNat w 2 2), BitVec.ofNat 16 (sliceNat w 4 2))
          fresh := false, stopIn := 0, stopOut := 0, toldStop := 0, step := 7, rtStep := 0, fails := 0, awaiting := false,
          initWord := none, initSeen := false, rxOk := false, initsSent := 0 }) s
        if beyond then startRetrain k true s else settleLinks (sendHello k (if fresh then s else resumeSend k s))
    else s

/-! ### Receiving (R264 to R267) -/

/-- An ACK taken (R264): the state, and whether it names a flit not yet sent. A replay is followed by another one only
until the ACK passes its first flit (R267). -/
def takeAck (k : Nat) (a : BitVec 12) (s : State) : Bool × State :=
  let l := link s k
  if l.replay.any fun f => f.seq == a then
    let left := (l.replay.dropWhile fun f => f.seq != a).drop 1
    let again : Bool := match l.rplFrom with | some x => left.any fun f => f.seq == x | none => false
    (false, setLink k { l with ackIn := a, replay := left,
                               rplFrom := if again then l.rplFrom else none, rplCount := if again then l.rplCount else 0,
                               carried := l.carried.filter fun e => left.any fun f => f.seq == e.1 } s)
  else (serialAfter 12 a.toNat (l.txSeq.toNat + 4095), s)

/-- A replay starts, or the retrain that a 9th consecutive one becomes (R266, R267). -/
def startReplay (k : Nat) (tmo : Bool) (s : State) : State :=
  let l := link s k
  if l.replay.isEmpty then s else if 8 ≤ l.rplCount then startRetrain k true s else sendReplay k tmo s

/-- A REPLAY_REQ naming `a` (R266): one that names the number of a replay still being sent, or comes together with the ACK
timeout that began one (R289), starts none. -/
def replayAsked (k : Nat) (a : BitVec 12) (s : State) : State :=
  match (link s k).rpl with
  | some r =>
    if s.now < r.until_ && (r.first == a + 1 || (r.byTmo && r.since == s.now)) then s else startReplay k false s
  | none => startReplay k false s

/-- The receiver of link `k` begins to wait for a replay and sends a REPLAY_REQ (R265); one that sleeps sends it at its
wake. -/
def awaitReplay (k : Nat) (s : State) : State :=
  if (link s k).awaiting then s
  else
    let s := modLink k (fun l => { l with awaiting := true }) s
    if txReady s k then sendReplayReq k s else s

/-- A flit error (R265), also one during a replay (R282), makes the receiver of link `k` send a REPLAY_REQ. -/
def flitFailed (k : Nat) (s : State) : State :=
  if (link s k).awaiting && txReady s k then sendReplayReq k s else awaitReplay k s

end Sys2Proof.Machine
end

