-- ==== Sys2Proof/Machine/RegWrite.lean ====
section
/-!
DEFINITION. Machine/RegWrite.lean: the plain effect of a write on a register's fields, by their access types (R4, R5).
-/

namespace Sys2Proof.Machine

/-- One field of a register written (R4, R5): its new value, and whether it was saturated. `first` says that the
register has not been written since reset. -/
def writeField (f : FieldDesc) (old new : Nat) (first : Bool) : Nat × Bool :=
  let o := natField old f.lo f.width
  let x := natField new f.lo f.width
  let put : Nat × Bool := if x < f.min then (f.min, true) else if f.max < x then (f.max, true) else (x, false)
  match f.acc with
  | .rw => put
  | .rwo => if first then put else (o, false)
  | .w1c => (o - (o &&& x), false)
  | .w1s => (o ||| x, false)
  | .ro => (o, false)
  | .wo => (0, false)

/-- A register's value after a write, and whether any field was saturated. -/
def writeFields (fs : List FieldDesc) (old new : Nat) (first : Bool) : BitVec 64 × Bool :=
  fs.foldl
    (fun acc f =>
      let r := writeField f old new first
      (withField acc.1 f.lo f.width r.1, acc.2 || r.2))
    (BitVec.ofNat 64 old, false)

/-- A write of a whole register, with no other effect than on its fields. -/
def storeFields (d : RegDesc) (a v : Nat) (s : State) : State :=
  let r := writeFields d.fields (reg s a).toNat v (s.regs.find a).isNone
  let s := setReg a r.1 s
  if r.2 then raise Reg.GEN_STATUS 0 s else s

/-- A write of a whole register at its base address, with no other effect than on its fields. -/
def storeReg (a v : Nat) (s : State) : State :=
  match findReg a with
  | some (d, _, _) => storeFields d a v s
  | none => s

/-- What a register's fields would hold after a write of `v`, saturated. -/
def written (s : State) (a v : Nat) : BitVec 64 :=
  match findReg a with
  | some (d, _, _) => (writeFields d.fields (reg s a).toNat v (s.regs.find a).isNone).1
  | none => reg s a

end Sys2Proof.Machine
end

