-- ==== Sys2Proof/Machine/Start.lean ====
section
/-!
DEFINITION. Machine/Start.lean: the checks and the start of a descriptor (R96, R106, R110, R140, R186, R188, R197, R246,
R324, R334), and the binding of pipes (R156 to R158).
-/

namespace Sys2Proof.Machine

/-! ### Checks that need no translation -/

/-- The chain program that a descriptor names, if its slot holds one. -/
def slotProgram (s : State) (b : BitVec 512) : Option (List Byte) := s.imp.chains.find (dChain b)

/-- The opcodes that may run a chain (R102, R196). -/
def chainAllowed (o : Nat) : Bool :=
  [opWRITE, opVACC, opMESSAGE, opALLREDUCE, opREDSCAT, opPARK, opRESUME].contains o

/-- A stage that R200 keeps out of a reduction. -/
def Stage.noReduce (g : Stage) : Bool := [0x02, 0x03, 0x04, 0x20, 0x21, 0x22, 0x23, 0x30].contains g.op

/-- BAD_OP for a chain: not allowed, not loaded, a length that breaks R186, or one of R188, R200, R212 and R213. -/
def chainBad (s : State) (b : BitVec 512) : Bool :=
  let o := opcode b
  if !dChainEn b then o == opALLREDUCE || o == opREDSCAT || (transferFormat o && dLaddr2 b != 0)
  else if !chainAllowed o then true
  else match slotProgram s b with
    | none => true
    | some bytes =>
      let pg := parseProg bytes
      let two := pg.usesSecond
      (pg.count (dLen b)).isNone
        || (transferFormat o && (two != (dLaddr2 b != 0)))
        || (o == opVACC && (pg.endsQuant || (match natField (dSubop b) 4 4 with
            | 0 => pg.outfmt != 7 | 1 => pg.outfmt != 0 | 2 => pg.outfmt != 1 | 3 => pg.outfmt != 2 | _ => true)))
        || ((o == opALLREDUCE || o == opREDSCAT)
          && (!two || pg.infmt != pg.fmt2 || pg.infmt != pg.outfmt || pg.infmt == 6 || pg.stages.any Stage.noReduce))
        || (o == opPARK && (two || pg.stages.any fun g => g.op == 0x30))
        || (o == opRESUME && (two || pg.endsQuant))

/-- BAD_OP for fields of the collective format (R196, R197). -/
def collBad (s : State) (b : BitVec 512) : Bool :=
  let o := opcode b
  let job := o == opPARK || o == opRESUME
  let own := (ownId s).toNat
  let rows := o == opDISPATCH || o == opCOMBINE
  let reduce := o == opALLREDUCE || o == opREDSCAT
  let x := dRaddr b
  (job != (dSubop b == 0))
    || (!(reduce || rows || o == opRESUME) && x != 0) || (o == opRESUME && !dChainEn b && x != 0)
    || (!(rows || job) && dYaddr b != 0) || (o != opDISPATCH && dZaddr b != 0)
    || (rows && dLen b != 0) || (!rows && dLen b == 0)
    || (o != opPARK && (dWin b != 0 || dExpect b != 0))
    || (o != opDISPATCH && dTopk b != 0) || (!(o == opBROADCAST || job) && dRoot b != 0)
    || (o != opCOMBINE && dFmt b != 0) || (!rows && (dNrow b != 0 || dRowlen b != 0))
    || (!(rows || o == opRESUME) && dNtok b != 0)
    || (o == opDISPATCH && (dTopk b == 0 || 8 < dTopk b)) || (rows && (dRowlen b == 0 || 1024 < dRowlen b))
    || (o == opCOMBINE && 3 < dFmt b) || (o == opRESUME && dChainEn b && (dNtok b < 2 || 256 < dNtok b))
    || dMcast b || (dFf b && o != opPARK) || (dPrio b && !job) || (dSeal b && (!job || dRoot b == own))

/-- BAD_OP for multicast (R28, R246). -/
def mcastBad (s : State) (b : BitVec 512) : Bool :=
  let m := dDst b
  let en := fld s Reg.FAB_DIM_EN 0 8
  let row := fld s Reg.FAB_ROW_MASK 0 8
  dMcast b && ((opcode b != opWRITE && opcode b != opVACC) || dSeal b || dPrio b || m == 0 || (m &&& en) != m
    || ((m &&& row) != m && (m &&& row) != 0))

/-- A descriptor has started and not written its record. -/
def Desc.started (v : Desc) : Bool := 0 < v.startNo

/-- A descriptor's status under R106 by the checks that come before any translation, if one fails. Of several, the one
that R65 ranks first. -/
def startFault (s : State) (v : Desc) : Option Byte :=
  let b := v.bits
  let o := opcode b
  let own := (ownId s).toNat
  let sub := dSubop b
  let p : Packet := { blankPacket with ptype := tATOM, subop := BitVec.ofNat 8 sub, len := 32 }
  let outLen := if dChainEn b then (match slotProgram s b with
    | some x => (parseProg x).outBytes ((parseProg x).count (dLen b) |>.getD 0) | none => 0) else dLen b
  let grouped := dChainEn b && (match slotProgram s b with | some x => (parseProg x).startsGrouped | none => false)
  let quant := dChainEn b && (match slotProgram s b with | some x => (parseProg x).endsQuant | none => false)
  let c := chanOf s (dChan b)
  let openFor := c.part == v.part && ((c.state == .opened && c.peer.toNat == dTarget b)
    || (c.state == .weight && o == opREAD && c.peer.toNat == dDst b && dRaddr b % 2048 == 0 && dLen b % 2048 == 0
      && c.img ≤ dRaddr b && dRaddr b + dLen b ≤ c.img + 2048 * c.nrec))
  let active := (partOf s v.part).state == .active
  if !knownOpcode o || reservedSet b then some stBADOP
  else if o = opNOP then (if dMcast b || dSeal b then some stBADOP else if active then none else some stACCESS)
  else if dChainEn b && !chainAllowed o then some stBADOP
  else if mcastBad s b || (dMcast b && o != opWRITE && o != opVACC) then some stBADOP
  else if transferFormat o && dLen b == 0 then some stBADOP
  else if (o == opGATHER || o == opSCATTER) && (dNelem b == 0 || 16 < dNelem b) then some stBADOP
  else if o == opATOMIC && (natField sub 1 2 == 3 || 12 < atomOp p || sub.testBit 0) then some stBADOP
  else if o == opVACC && (3 < natField sub 4 4 || natField sub 0 4 != 0) then some stBADOP
  else if chainBad s b then some stBADOP
  else if collFormat o && collBad s b then some stBADOP
  else if isCollective o && (s.qe.descs.values.any (fun w => w.started && isCollective (opcode w.bits) && dCid w.bits == dCid b)
    || s.seq.refused.any (fun x => x.1 == dCid b && s.now < x.2 + 100 * fld s Reg.GEN_OP_TMO 0 26)) then some stBADOP
  else if dSeal b && !collFormat o && dDst b == own then some stBADOP
  else if !active || (dSeal b && !openFor) then some stACCESS
  else if o == opFILL && (dLen b % 8 != 0 || dRaddr b % 8 != 0) then some stALIGN
  else if o == opVACC && (dRaddr b % 64 != 0 || outLen % 64 != 0) then some stALIGN
  else if o == opATOMIC && dRaddr b % atomWidth p != 0 then some stALIGN
  else if (o == opGATHER || o == opSCATTER) && dLaddr2 b % 16 != 0 then some stALIGN
  else if grouped && dLaddr b % 64 != 0 then some stALIGN
  else if quant && transferFormat o && dRaddr b % 64 != 0 then some stALIGN
  else if reduces b && dLen b % (2 ^ collN b * 64
      * (match slotProgram s b with | some x => fmtBytes (parseProg x).infmt | none => 1)) != 0 then some stALIGN
  else if o == opALLGATHER && dLen b % (2 ^ collN b * 64) != 0 then some stALIGN
  else none

/-! ### Start translations (R140) -/

/-- The part of a local extent that lies in its first 4 KiB block. -/
def firstBlock (va len : Nat) : Nat × Nat := (va, min len (4096 - va % 4096))

/-- The accesses translated at start, with the permission each needs. -/
def startAccess (s : State) (v : Desc) : List (Nat × Nat × Nat) :=
  let b := v.bits
  let o := opcode b
  let at1 (va len perm : Nat) : Nat × Nat × Nat := ((firstBlock va len).1, (firstBlock va len).2, perm)
  let two := dChainEn b && (match slotProgram s b with | some x => (parseProg x).usesSecond | none => false)
  if o = opNOP || o = opFILL || o = opATOMIC then []
  else if o = opREAD then [at1 (dLaddr b) (dLen b) permLW]
  else if o = opGATHER || o = opSCATTER then [(dLaddr2 b, 16 * dNelem b, permLR)]
  else if transferFormat o then
    at1 (dLaddr b) (dLen b) permLR :: (if two then [at1 (dLaddr2 b) 4096 permLR] else [])
  else if o = opPARK then [at1 (dLaddr b) (dLen b) permLR]
  else if o = opRESUME then
    at1 (dLaddr b) 4096 permLW :: (if dChainEn b then [at1 (dRaddr b) 4096 permLW, at1 (dRaddr b) 4096 permLR] else [])
  else if o = opBROADCAST then
    [at1 (dLaddr b) (dLen b) (if dRoot b = (ownId s).toNat then permLR else permLW)]
  else if o = opDISPATCH then
    [at1 (dLaddr b) 4096 permLR, at1 (dRaddr b) 4096 permLR, at1 (dYaddr b) 4096 permLW, at1 (dZaddr b) 4096 permLW]
  else if o = opCOMBINE then
    [at1 (dLaddr b) 4096 permLR, at1 (dRaddr b) 4096 permLR, at1 (dYaddr b) 4096 permLW]
  else
    [at1 (dLaddr b) (dLen b) permLR, at1 (dLaddr b) (dLen b) permLW]
      ++ (if reduces b then [at1 (dRaddr b) (dLen b) permLW, at1 (dRaddr b) (dLen b) permLR] else [])

/-- A descriptor that has not started ends with a status: it issues nothing, holds no slot, and its record is due. -/
def endUnstarted (d : Nat) (st : Byte) (s : State) : State :=
  modDesc d (fun v => { v with phase := .drain, stopped := true, startNo := 0, ends := v.ends ++ [st] }) s

/-- Look up the start accesses in order: true when all are mapped; otherwise it waits, or has ended with LOCAL_FAULT. -/
def lookStart (d : Nat) (v : Desc) : List (Nat × Nat × Nat) → State → Bool × State
  | [], s => (true, s)
  | (va, len, perm) :: rest, s =>
    match lookLocal s v perm va len with
    | .ok _ fs ms _ => lookStart d v rest (useLook d fs ms s)
    | .miss w => (false, awaitWalk .initiator v.part w (.desc d w) s)
    | .fault w => (false, endUnstarted d stLOCAL (reportFault false v.part w (opcode v.bits) 0 s))

/-- The elements of a list that has been read (R103), and the status of its check (R106). -/
def parseElems (n : Nat) (bs : List Byte) : List (Nat × Nat) × Option Byte :=
  let es := (List.range n).map fun i =>
    (sliceNat bs (16 * i) 8, sliceNat bs (16 * i + 8) 4, sliceNat bs (16 * i + 12) 4)
  let bad := es.any fun e => 2 ^ 52 ≤ e.1 || e.2.2 != 0 || e.2.1 < 4 || 65536 < e.2.1 || e.2.1 % 4 != 0
  (es.map fun e => (e.1, e.2.1), if bad then some stBADOP else if es.any (fun e => e.1 % 4 != 0) then some stALIGN else none)

/-- A partition's mask of streams used (R341). -/
def markStream (part stream : Nat) (s : State) : State :=
  modPart part (fun p => if p.streams.contains stream then p else { p with streams := p.streams ++ [stream] }) s

/-- The windlass looks ahead as a descriptor starts: from LADDR, and from LADDR2 where it is used (R143). Model's choice:
the use of the stream is LW for a READ, GATHER or RESUME and LR for every other opcode (assumption log 24). -/
def lookAhead (v : Desc) (s : State) : State :=
  let b := v.bits
  let perm := if opcode b = opREAD || opcode b = opGATHER || opcode b = opRESUME then permLW else permLR
  if opcode b = opNOP || opcode b = opATOMIC || opcode b = opFILL then s
  else
    windlass v.part (dStream b)
      ((dLaddr b, perm) :: (if transferFormat (opcode b) && dLaddr2 b != 0 then [(dLaddr2 b, permLR)] else []))
      (markStream v.part (dStream b) s)

/-- Everything before the first access or packet is done: the descriptor waits for a pipe, goes to the sequencer, or
issues. A gather or scatter has looked ahead as it read its element list; one that waits for a pipe looks ahead as it
binds (R96, R143). -/
def beginRun (d : Nat) (v : Desc) (s : State) : Option State :=
  let b := v.bits
  if isCollective (opcode b) then startColl d (lookAhead v s)
  else if dChainEn b then some (modDesc d (fun v => { v with phase := .pipe }) s)
  else if opcode b = opRESUME then startColl d (lookAhead v s)
  else if isElement b then some (modDesc d (fun v => { v with phase := .running }) s)
  else some (modDesc d (fun v => { v with phase := .running }) (lookAhead v s))

/-- One move of a descriptor that is starting. -/
def stepStart (d : Nat) (v : Desc) (s : State) : Option State :=
  let b := v.bits
  let el := opcode b == opGATHER || opcode b == opSCATTER
  match lookStart d v (startAccess s v) s with
  | (false, s) => some s
  | (true, s) =>
    if el && v.elems.isEmpty then
      match v.buf with
      | some data =>
        if data.any (·.p) then some (endUnstarted d stLOCAL (modDesc d (fun v => { v with buf := none }) s))
        else
          let r := parseElems (dNelem b) (data.map fun x => x.b)
          match r.2 with
          | some st => some (endUnstarted d st (modDesc d (fun v => { v with buf := none }) s))
          | none => some (modDesc d (fun v => { v with elems := r.1, buf := none }) s)
      | none =>
        if v.reading then none
        else match translate d permLR (dLaddr2 b) (16 * dNelem b) s with
          | (none, s) => some s
          | (some (xs, g), s) =>
            some (readMem (.elist d) xs false (some (v.part, g))
              (modDesc d (fun v => { v with reading := true }) (lookAhead v s)))
    else if el then
      let total := v.elems.foldl (fun n e => n + e.2) 0
      match lookStart d v [(dLaddr b, total, if opcode b = opGATHER then permLW else permLR)] s with
      | (false, s) => some s
      | (true, s) => beginRun d v s
    else beginRun d v s

/-- A descriptor that is starting goes on until it must wait, for a walk of its own or of its stream (R138), or has
started. -/
def advanceStart : Nat → Nat → State → State
  | 0, _, s => s
  | fuel + 1, d, s =>
    match desc s d with
    | none => s
    | some v =>
      if v.phase != .starting || !mayIssue s v
          || s.xlt.walks.values.any (fun w => w.waiters.any fun x => match x.who with | .desc e _ => e == d | _ => false) then s
      else match stepStart d v s with
        | none => s
        | some s => advanceStart fuel d s

/-- A descriptor goes on, wherever it stands. -/
def proceed (d : Nat) (s : State) : State :=
  let s := match desc s d with
    | some v => if v.phase = .starting then advanceStart 8 d s else s
    | none => s
  goOn d s

/-- Every descriptor in progress goes on, oldest first; slot reads and requests that may go out do. -/
def proceedAll (s : State) : State := issueAll (fetchAll (each s.qe.descs.keys proceed s))

/-! ### Start order (R96, R110, R197) -/

/-- Descriptors of the sequencer in a class of slots: 64 for collectives, 32 for park and resume jobs. -/
def slotsUsed (s : State) (job : Bool) : Nat :=
  (s.qe.descs.filterV fun v => v.started && v.phase != .written && collFormat (opcode v.bits)
    && isCollective (opcode v.bits) != job && !v.bad).length

/-- A descriptor finds a slot of the sequencer, or needs none. -/
def slotFree (s : State) (v : Desc) : Bool :=
  if !collFormat (opcode v.bits) || v.bad then true
  else if isCollective (opcode v.bits) then slotsUsed s false < 64
  else slotsUsed s true < 32

/-- Every slot of its class has been occupied for longer than `GEN_OP_TMO` (R197). -/
def slotsStuck (s : State) (v : Desc) : Bool :=
  let since := if isCollective (opcode v.bits) then s.seq.collFull else s.seq.jobFull
  since + 100 * fld s Reg.GEN_OP_TMO 0 26 < s.now

/-- The next unstarted descriptor of queue `q`. -/
def headDesc (s : State) (q : Nat) : Option (Nat × Desc) :=
  (queue s q).fetched.findSome? fun d => match desc s d with
    | some v => if v.phase = .fetched && !v.disabled then some (d, v) else none
    | none => none

/-- A descriptor will need a tag. -/
def needsTag (s : State) (v : Desc) : Bool := !v.bad && opcode v.bits != opNOP && (startFault s v).isNone

/-- A free tag is left where a descriptor will need one (R21). -/
def tagFree (s : State) (v : Desc) : Bool := s.txn.tags.entries.length < 131072 || !needsTag s v

/-- The fence of descriptor `d`, or of a token that is not yet a descriptor, holds (R110): everything that started on its
queue, and every descriptor before it in the ring, has written its record. -/
def fenceHolds (s : State) (q d : Nat) : Bool :=
  s.qe.descs.entries.all fun e =>
    e.2.queue != q || d == e.1 || (!e.2.started && (d < e.1 || e.2.phase == .fetched))

/-- A load rewrites the slot that a descriptor names (R166). -/
def slotLoading (s : State) (b : BitVec 512) : Bool :=
  match s.imp.loading with
  | some (i, n) => i ≤ dChain b && dChain b < i + n
  | none => false

/-- A descriptor waits for the load of the chain slot that it names (R166). -/
def awaitsChain (s : State) (v : Desc) : Bool :=
  !v.bad && dChainEn v.bits && chainAllowed (opcode v.bits) && slotLoading s v.bits

/-- Descriptor `d`, or the token that will be, of queue `q` may start: nothing of its queue is still starting, its fence
holds (R110), its stream is not parked (R138), its chain slot is not being rewritten (R166), and a slot and a tag are
free (R21, R197). -/
def mayStart (s : State) (q d : Nat) (v : Desc) : Bool :=
  masterEn s && unitsUp s && (partOf s v.part).state != .teardown
    && s.qe.descs.values.all (fun w => w.queue != q || (w.phase != .starting && w.phase != .pipe))
    && (!dFence v.bits || v.bad || fenceHolds s q d)
    && !isParked s v && !awaitsChain s v && (slotFree s v || slotsStuck s v) && tagFree s v

/-- The start of a descriptor that has its order number and chain: the start checks, a free slot, then the walks
and the run (R64, R65, R196). -/
def startWith (d : Nat) (v : Desc) (s : State) : State :=
  if v.bad then endUnstarted d stBADOP (setDesc d v s)
  else match startFault s v with
    | some st => endUnstarted d st (setDesc d v s)
    | none =>
      if !slotFree s v then endUnstarted d stBADOP (setDesc d v s)
      else
        let s := setDesc d { v with phase := .starting } s
        let s := if isCollective (opcode v.bits) && slotsUsed s false = 64 then
            { s with seq := { s.seq with collFull := s.now } }
          else if collFormat (opcode v.bits) && !isCollective (opcode v.bits) && slotsUsed s true = 32 then
            { s with seq := { s.seq with jobFull := s.now } }
          else s
        proceed d s

/-- Descriptor `d` starts: the checks of R106, then its start translations. -/
def startDesc (d : Nat) (s : State) : State :=
  match desc s d with
  | none => s
  | some v =>
    let n := s.qe.starts + 1
    let s := { s with qe := { s.qe with starts := n } }
    startWith d { v with startNo := n, chain := if dChainEn v.bits then (slotProgram s v.bits).getD [] else [],
                         pkey := (partOf s v.part).key } s

/-! ### Descriptors as they are fetched, tokens (R95, R111, R112, R115 to R117) -/

/-- A descriptor as it is fetched or built. -/
def Desc.new (q : Nat) (index : BitVec 16) (token : Bool) (bits : BitVec 512) (bad : Bool) (part : Nat) (key : PKey) : Desc :=
  { queue := q, index := index, token := token, bits := bits, bad := bad, part := part, pkey := key, phase := .fetched,
    disabled := false, ends := [], startNo := 0, elems := [], maps := [],
    pos := 0, opos := 0, elem := 0, reading := false, buf := none,
    buf2 := none, obuf := [], tags := [], curTag := none, nseq := 0, done := 0, elemEnd := Tbl.empty, result := 0,
    pipe := none, chain := [], flags := 0, fired := false, chainEnd := .open,
    stopped := false, writes := 0, resend := none }

/-- A cancelled bit affects a descriptor (R111). -/
def isCancelled (s : State) (v : Desc) : Bool :=
  !v.bad && dCgEn v.bits && s.qe.cancelled.contains (dGroup v.bits, v.part)

/-- A new descriptor joins those in progress; a cancelled one ends at once (R112). -/
def addDesc (v : Desc) (s : State) : State :=
  let d := s.qe.descNo
  let v := if isCancelled s v then { v with phase := .drain, stopped := true, ends := [stCANCELLED] } else v
  setDesc d v { s with qe := { s.qe with descNo := d + 1 } }

/-- Field of a token's word (R116). -/
def tokWord (t : BitVec 256) (i : Nat) : Nat := natField t.toNat (32 * i) 32

/-- The descriptor that a token and its template make (R117). -/
def tokenBits (t : BitVec 256) (tmpl : BitVec 512) : BitVec 512 :=
  let laddr := (dLaddr tmpl + tokWord t 2 + 2 ^ 32 * natField (tokWord t 3) 0 16) % 2 ^ 52
  let raddr := (dRaddr tmpl + tokWord t 4 + 2 ^ 32 * natField (tokWord t 5) 0 16) % 2 ^ 52
  let word (i : Nat) : Nat :=
    if i = 1 then tokWord t 1
    else if i = 2 then laddr % 2 ^ 32
    else if i = 3 then dword tmpl 3 / 2 ^ 20 * 2 ^ 20 + laddr / 2 ^ 32
    else if i = 4 then raddr % 2 ^ 32
    else if i = 5 then dword tmpl 5 / 2 ^ 20 * 2 ^ 20 + raddr / 2 ^ 32
    else if i = 6 && tokWord t 7 != 0 then tokWord t 7
    else if i = 7 && tokWord t 7 != 0 then dword tmpl 7 / 2 ^ 8 * 2 ^ 8
    else if i = 8 then tokWord t 6
    else dword tmpl i
  BitVec.ofNat 512 ((List.range 16).foldl (fun n i => n + word i * 2 ^ (32 * i)) 0)

/-- The queue a tile queue is bound to. -/
def boundQueue (s : State) (t : Nat) : Nat := fld s Reg.GEN_TQ_BIND (8 * t) 8

/-- `GEN_TQ_CTL.EN` of a tile queue. -/
def tqEn (s : State) (t : Nat) : Bool := bit s Reg.GEN_TQ_CTL t

/-- The descriptor that the oldest token of a tile queue makes (R117). -/
def tokenDesc (s : State) (t : Nat) : Option Desc :=
  match (tileQueue s t).tokens with
  | [] => none
  | tok :: _ =>
    let q := boundQueue s t
    let part := queuePart s q
    let tmpl := (tileQueue s t).templates.find (natField (tokWord tok 0) 0 6)
    let bits := match tmpl with
      | some x => tokenBits tok x
      | none => BitVec.ofNat 512 (tokWord tok 1 * 2 ^ 32)
    some (Desc.new q (BitVec.ofNat 16 (natField (tokWord tok 0) 16 16)) true bits tmpl.isNone part (partOf s part).key)

/-- The oldest token of a tile queue may be taken: its queue's limits and completion ring allow it (R96, R97, R115), and
no descriptor marked DISABLED waits for its record (R121).
Model's choice: it waits while its tile queue's EN or its bound queue's `Q_CTL.EN` is 0 (assumption log 30). -/
def tokenRoom (s : State) (t : Nat) : Bool :=
  let q := boundQueue s t
  tqEn s t && queueEn s q && 0 < limitLeft s q && 0 < crFree s q && masterEn s && unitsUp s && !disabledLeft s

/-- The token's turn may come: it is not cancelled (R112), and may start. -/
def tokenReady (s : State) (t : Nat) : Bool :=
  match tokenDesc s t with
  | some v => tokenRoom s t && mayStart s v.queue s.qe.descNo v
  | none => false

/-! ### Weighted round robin (R96) -/

/-- The weight of queue `q`. -/
def weightOf (s : State) (q : Nat) : Nat := fld s (Reg.Q_CTL q) 13 5

/-- The weight of a turn: a queue's own, a tile queue's that of the queue it is bound to. -/
def turnWeight (s : State) (t : Nat) : Nat := if t < 256 then weightOf s t else weightOf s (boundQueue s (t - 256))

/-- The turns that can be taken now: queues, and tile queues after them under 256 and up. -/
def turnsReady (s : State) : List Nat :=
  (s.qe.queues.keys.filter fun q => match headDesc s q with
    | some (d, v) => mayStart s q d v
    | none => false)
    ++ ((List.range 8).filter (tokenReady s)).map (256 + ·)

/-- The queue or bound tile queue that starts something next in weighted round robin (R96). -/
def nextTurn (s : State) : Option Nat :=
  let ready := turnsReady s
  if 0 < s.qe.wrrLeft && ready.contains s.qe.wrrPos then some s.qe.wrrPos
  else match ready.find? (fun q => s.qe.wrrPos < q) with
    | some q => some q
    | none => ready.head?

/-- A turn is taken: it has its weight's number of starts in a row. -/
def takeTurn (t : Nat) (s : State) : State :=
  let left := if 0 < s.qe.wrrLeft && t = s.qe.wrrPos then s.qe.wrrLeft - 1 else turnWeight s t - 1
  { s with qe := { s.qe with wrrPos := t, wrrLeft := left } }

/-- The queue engine starts the next descriptor (R96). -/
def startNext (s : State) : State :=
  match nextTurn s with
  | none => s
  | some q =>
    match headDesc s q with
    | some (d, _) => if q < 256 then startDesc d (takeTurn q s) else s
    | none => s

/-- The oldest token of a tile queue leaves it and becomes a descriptor, which has reserved its completion slot. -/
def takeToken (t : Nat) (v : Desc) (s : State) : State :=
  let s := modTq t (fun x => { x with tokens := x.tokens.drop 1 }) s
  modQueue v.queue (fun q => { q with reserved := q.reserved + 1 }) (addDesc v s)

/-- The oldest token of a tile queue starts at its turn (R96, R115, R117); a cancelled one ends at once (R112). -/
def startToken (t : Nat) (s : State) : State :=
  match tokenDesc s t with
  | none => s
  | some v =>
    if !tokenRoom s t then s
    else if isCancelled s v then takeToken t v s
    else if nextTurn s = some (256 + t) then startDesc s.qe.descNo (takeToken t v (takeTurn (256 + t) s))
    else s

/-! ### Pipes (R156 to R158, R166) -/

/-- A descriptor waits for a pipe: a chained one before its first read, or a reduction before its first. -/
def wantsPipe (s : State) (d : Nat) (v : Desc) : Bool :=
  v.pipe.isNone && !v.disabled && !v.stopped && (v.phase == .pipe
    || (v.phase == .running && reduces v.bits && (match collOf s d with | some c => c.phase == .reduce | none => false)))

/-- A pipe bound to descriptor `d`, which copies its program now and is checked against it (R158, R166). A collective
whose slot no longer holds a program that it may run ends with BAD_OP (assumption log 26). -/
def bindPipe (d p : Nat) (v : Desc) (s : State) : State :=
  let v := { v with chain := (slotProgram s v.bits).getD [] }
  let bound : State :=
    setDesc d { v with pipe := some p, flags := 0, phase := .running }
      { s with imp := { s.imp with pipes := s.imp.pipes.set p d } }
  if isCollective (opcode v.bits) then (if chainBad s v.bits then endColl d stBADOP true s else goOn d bound)
  else match startFault s v with
    | some st => endUnstarted d st s
    | none =>
      let s := lookAhead v bound
      let s := if opcode v.bits = opRESUME then setColl d (Coll.start (dCid v.bits) 0 0 [] none) s else s
      goOn d s

/-- A free pipe goes to the sequencer's waiting descriptor that started first, else to the queue engine's: they wait in
arbitration order (R21, R157). -/
def bindNext (s : State) : State :=
  let waits := sortBy (fun e => e.2.startNo)
    (s.qe.descs.entries.filter fun e => wantsPipe s e.1 e.2 && !slotLoading s e.2.bits)
  let coll := waits.find? fun e => collFormat (opcode e.2.bits)
  let other := waits.find? fun e => !collFormat (opcode e.2.bits)
  match coll, choosePipe s true with
  | some (d, v), some p => bindPipe d p v s
  | _, _ =>
    match other, choosePipe s false with
    | some (d, v), some p => bindPipe d p v s
    | _, _ => s

/-! ### Meanings -/

/-- The queue engine starts the next descriptor that may start (R96, R106, R110). -/
def execDescriptorStart (s : State) : Res := .next (onlyIf (unitsUp s && masterEn s) (fun s => proceedAll (startNext s)) s)

/-- A free pipe is bound (R156 to R158). -/
def execPipeBind (s : State) : Res := .next (onlyIf (unitsUp s && masterEn s) (fun s => proceedAll (bindNext s)) s)

end Sys2Proof.Machine
end

