-- ==== Sys2Proof/Machine/Router.lean ====
section
/-!
DEFINITION. Machine/Router.lean: routing (R229 to R239), multicast (R246 to R249), neighbour verification (R226), probes
(R228) and the writes of the `FAB_` registers.
-/

namespace Sys2Proof.Machine

/-! ### Routing one packet (R229 to R238) -/

/-- The packet's entry in the route table of its epoch (R229, R230). -/
def routeEntry (s : State) (p : Packet) : Nat :=
  (reg s (if p.epoch then Reg.FAB_RT_B p.dst.toNat else Reg.FAB_RT_A p.dst.toNat)).toNat

/-- Responses, whose classes are VC2 and VC3 (R27). -/
def isResponse (t : BitVec 6) : Bool := [tRDR, tPRDR, tATOMR, tLACK].contains t

/-- A VC whose packets take adaptive routes (R230). -/
def isAdaptive (v : BitVec 3) : Bool := v == 1 || v == 3 || v == 7

/-- The escape VC to which a packet moves (R230): VC0 from VC1, VC2 from VC3; from VC7 that of its class, where a CABORT,
which only the sump sends on VC7 (R285), is a response. -/
def escapeVc (p : Packet) : BitVec 3 :=
  if p.vc = 1 then 0
  else if p.vc = 3 then 2
  else if p.vc = 7 then (if isResponse p.ptype || p.ptype = tCABORT then 2 else 0)
  else p.vc

/-- Flits queued for link `k`: whole packets, and what of started ones has not left. -/
def linkQueued (s : State) (k : Nat) : Nat :=
  let l := link s k
  l.txq.foldl (fun n p => n + p.units) 0
    + ceilDiv (l.txX.foldl (fun n x => n + x.bytes.length) 0
        + l.txOut.foldl (fun n e => n + e.rest.length + e.toCome) 0) 248

/-- The usable links of port `p` that show GO for a VC. -/
def goLinks (s : State) (p : Nat) (relay : Bool) (vc : BitVec 3) : List Nat :=
  (usableLinks s p relay).filter fun k => linkGo s k vc

/-- The link of a port that takes a packet (R222), of those that show GO: not one that the keeper excluded while another is
there, the fewest flits queued, the lowest number. Model's choice: a link that shows STOP is not available (assumption log
32). -/
def pickLink (s : State) (ks : List Nat) : Option Nat :=
  let kept := ks.filter fun k => !bit s Reg.FAB_LPORT_LINK_EXCL k
  leastBy (linkQueued s) (if kept.isEmpty then ks else kept)

/-- The order of adaptive candidates (R231): fewest flits queued, awake before asleep, lowest number. -/
def portKey (s : State) (p : Nat) : Nat :=
  let ks := usableLinks s p false
  let asleep := ks.all fun k => (link s k).txSleep != .awake
  (ks.foldl (fun n k => n + linkQueued s k) 0) * 64 + bitOf asleep * 32 + p

/-- What becomes of a packet at a node: it goes out of link `k` as `p`; it waits; it has moved to its escape VC and waits
as `p`; its destination has no route; port `port` does not admit it; it is flushed; it is restamped. -/
inductive Decision where
  | go (k : Nat) (p : Packet)
  | wait
  | hold (p : Packet)
  | noroute
  | barred (port : Nat)
  | flush (port : Nat)
  | restamp
  deriving DecidableEq, Repr

/-- `FAB_SUMP_DST` marks a node (R233). -/
def sumpMarked (s : State) (d : Nat) : Bool := bit s (Reg.FAB_SUMP_DST (d / 32)) (d % 32)

/-- `FAB_EPOCH_CTL.INJ`. -/
def epochInj (s : State) : Bool := bit s Reg.FAB_EPOCH_CTL 0

/-- A packet leaves through one given port, on the VC it carries (R233, R242, R250). -/
def escapeVia (s : State) (p : Packet) (port : Nat) : Decision :=
  let relay := isRelay p.ptype
  if !portUp s port relay then
    if sumpMarked s p.dst.toNat then .flush port else if p.epoch != epochInj s then .restamp else .wait
  else if !portAdmits s port p.ptype p.pkey then .barred port
  else match pickLink s (goLinks s port relay p.vc) with
    | some k => .go k p
    | none => .wait

/-- A packet on an adaptive VC moves to its escape VC (R232), which it keeps from then on. -/
def escapeMove (s : State) (p : Packet) (port : Nat) : Decision :=
  let q : Packet := { p with vc := escapeVc p }
  match escapeVia s q port with
  | .wait => .hold q
  | d => d

/-- The port of a collective's neighbour step (R223, R230): a CDATA packet that this node sends to a node one dimension
away. -/
def stepPort (s : State) (p : Packet) : Option Nat :=
  if p.ptype = tCDATA && p.src = ownId s then
    match bitsOf 8 (p.dst ^^^ ownId s).toNat with
    | [d] =>
      match (dimPorts s d).find? fun q => portUp s q false with
      | some q => some q
      | none => (dimPorts s d).head?
    | _ => none
  else none

/-- The VC on which a request or response enters the fabric (R230). -/
def enterVc (s : State) (adp : Nat) (vc : BitVec 3) : BitVec 3 :=
  let adaptive : Bool := adp != 0 && bit s Reg.FAB_CTL 2
  if vc = 0 || vc = 1 then (if adaptive then 1 else 0)
  else if vc = 2 || vc = 3 then (if adaptive then 3 else 2)
  else vc

/-- The adaptive candidates of a packet (R231, R236). -/
def candidates (s : State) (p : Packet) (adp : Nat) : List Nat :=
  (bitsOf 16 adp).filter fun q => portUp s q false && !bit s (Reg.FAB_LPORT_CTL q) 8
    && portAdmits s q p.ptype p.pkey && !s.router.drained.contains q

/-- The decision for a unicast packet that is not for this node: `enter` where it enters the fabric, `forced` where it
has waited `FAB_ESC_WAIT` (R230 to R234). -/
def decide1 (s : State) (p : Packet) (enter forced : Bool) : Decision :=
  match stepPort s p with
  | some port => escapeVia s p port
  | none =>
    let e := routeEntry s p
    if !e.testBit 31 then .noroute
    else
      let adp := natField e 0 16
      let p : Packet := if enter then { p with vc := enterVc s adp p.vc } else p
      let esc := natField e 16 4
      if isAdaptive p.vc then
        let cs := candidates s p adp
        if cs.isEmpty || forced then escapeMove s p esc
        else
          match leastBy (portKey s) (cs.filter fun q => !(goLinks s q false p.vc).isEmpty) with
          | none => .wait
          | some q =>
            match pickLink s (goLinks s q false p.vc) with
            | some k => .go k p
            | none => .wait
      else escapeVia s p esc

/-- The node across dimension `d`. -/
def acrossDim (s : State) (d : Nat) : NodeId := ownId s ^^^ BitVec.ofNat 8 (2 ^ d)

/-- The decision for a multicast copy that crosses dimension `d` (R247, R249). -/
def decideCopy (s : State) (p : Packet) (d : Nat) : Decision :=
  let up := (dimPorts s d).filter fun q => portUp s q false
  if up.isEmpty then
    if sumpMarked s (acrossDim s d).toNat then .flush ((dimPorts s d).headD 0) else .wait
  else
    let ok := up.filter fun q => portAdmits s q p.ptype p.pkey
    if ok.isEmpty then .barred (up.headD 0)
    else match leastBy (portKey s) (ok.filter fun q => !(goLinks s q false p.vc).isEmpty) with
      | none => .wait
      | some q =>
        match pickLink s (goLinks s q false p.vc) with
        | some k => .go k p
        | none => .wait

/-- A packet is queued on link `k`. -/
def enqueue (k : Nat) (p : Packet) (s : State) : State := modLink k (fun l => { l with txq := l.txq ++ [p] }) s

/-- A packet without a route is dropped (R234). -/
def dropNoRoute (p : Packet) (s : State) : State :=
  countEj p (postEvent 0x0503 p.dst 0xFF 0 p.tag.toNat (bump Reg.FAB_NOROUTE_DROP s))

/-- A packet waits in the router; it goes on holding the input buffer space that it held. -/
def putWaiting (p : Packet) (dim : Option Nat) (src : Option (Nat × BitVec 3 × Nat)) (s : State) : State :=
  { s with router := { s.router with waiting := s.router.waiting ++ [⟨p, dim, src⟩] } }

/-- A packet that has left its place is sent, dropped, flushed, or waits in the router; `node` is the node that a flush
event names, `dim` a multicast copy's dimension, `src` the input buffer space that it holds. -/
def carryOut (d : Decision) (p : Packet) (node : NodeId) (dim : Option Nat) (src : Option (Nat × BitVec 3 × Nat))
    (s : State) : State :=
  match d with
  | .go k q => enqueue k q s
  | .noroute => dropNoRoute p s
  | .barred port => pkeyDrop 1 port p s
  | .flush port => flushAtRouter port node p s
  | .hold q => putWaiting q dim src s
  | .wait | .restamp => putWaiting p dim src s

/-- A packet is restamped into the injected epoch, enters on the VC of its class and is looked up again (R238). -/
def restampPacket (p : Packet) (src : Option (Nat × BitVec 3 × Nat)) (s : State) : State :=
  let q : Packet := { p with epoch := epochInj s }
  let q : Packet := { q with vc := enterVc s (natField (routeEntry s q) 0 16) q.vc }
  let s := countInj q (countEj p s)
  carryOut (decide1 s q false false) q q.dst none src s

/-- A decision is carried out, once the packet has left its place. -/
def sendOn (d : Decision) (p : Packet) (src : Option (Nat × BitVec 3 × Nat)) (s : State) : State :=
  if d = .restamp then restampPacket p src s else carryOut d p p.dst none src s

/-! ### Ejection and multicast (R230, R242, R246, R247) -/

/-- The ejection port of a packet's unit takes it (R11, R139): responses at all times; of each VC at most 64 requests that
the unit has not taken (assumption log 7); none of a VC that the transaction engine has stopped. -/
def ejectRoom (s : State) (p : Packet) : Bool :=
  !(unitOf p.ptype == 0 && s.txn.stopVcs.contains p.vc)
    && (isResponse p.ptype || ((ejectedAt s p.ptype).filter fun q => q.vc == p.vc && !isResponse q.ptype).length < 64)

/-- A packet is ejected, or discarded as aborted (R287), or not admitted (R242). It is counted once (R240). -/
def eject (from_ : Option Nat) (p : Packet) (s : State) : State :=
  if p.abt then
    let s := countEj p s
    match from_ with
    | some k => bump (Reg.LNK_ABORT_CNT k) s
    | none => s
  else if !localAdmits s p then pkeyDrop 2 0 p s
  else countEj p (putEjected p s)

/-- The VC of a multicast copy (R247). -/
def copyVc (p : Packet) : BitVec 3 :=
  if 0x20 ≤ p.ptype.toNat && p.ptype.toNat < 0x28 then 5 else if p.ff then 4 else 0

/-- One copy for each dimension of a mask waits for its port, with its residual mask (R247). -/
def makeCopies (p : Packet) (src : Option (Nat × BitVec 3 × Nat)) (s : State) : State :=
  let m := p.dst.toNat
  each (bitsOf 8 m)
    (fun d s =>
      let q : Packet := { p with dst := BitVec.ofNat 8 (m / 2 ^ (d + 1) * 2 ^ (d + 1)), vc := copyVc p }
      countInj q (putWaiting q (some d) src s))
    s

/-- A multicast packet from link `k` is ejected here and copied on (R247); one that is not admitted is dropped, and the
nodes beyond receive nothing (R249). -/
def takeMulticast (k : Nat) (p : Packet) (src : Option (Nat × BitVec 3 × Nat)) (s : State) : State :=
  let admitted : Bool := p.abt || localAdmits s p
  let s := eject (some k) p s
  if admitted then makeCopies p src s else s

/-! ### The places a packet waits in -/

/-- The router may take a packet from its VC buffer of link `k` (R227, R252): one that its link might hand over when it
arrived goes on, whatever has become of the link. -/
def mayTake (s : State) (k : Nat) (a : Arrived) : Bool := a.taken || linkGives s k a.packet.ptype

/-- A packet leaves an input VC buffer of link `k`. -/
def takeFromLink (k : Nat) (a : Arrived) (s : State) : State :=
  { modLink k (fun l => { l with inbuf := l.inbuf.erase a }) s with
    router := { s.router with copyNo := s.router.copyNo + 1 } }

/-- A packet leaves the injection queue of a unit; it begins here with the injected epoch (R238, R240). -/
def takeFromInject (u : Nat) (p : Packet) (s : State) : State :=
  { s with router := { s.router with inject := s.router.inject.mapIdx fun i q => if i = u then q.erase p else q } }

/-- The decision for a packet now, or, `forced`, once it has waited `FAB_ESC_WAIT` without a candidate showing GO
(R232). -/
def decideNow (s : State) (p : Packet) (enter forced : Bool) : Decision :=
  if forced && decide1 s p enter false != .wait then .wait else decide1 s p enter forced

/-- The router takes the first packet of VC `vc` from link `k`. One that then waits in the router goes on holding its
space in the VC buffer. -/
def routeLink (k : Nat) (vc : BitVec 3) (forced : Bool) (s : State) : State :=
  match (link s k).inbuf.find? fun a => a.packet.vc == vc && !isControl a.packet.ptype with
  | none => s
  | some a =>
    let p := a.packet
    let src := some (k, vc, s.router.copyNo + 1)
    if !mayTake s k a then s
    else if p.mcast then
      if ejectRoom s p && !forced then takeMulticast k p src (takeFromLink k a s) else s
    else if p.dst = ownId s then
      if ejectRoom s p && !forced then eject (some k) p (takeFromLink k a s) else s
    else
      match decideNow s p false forced with
      | .wait => s
      | d => sendOn d p src (takeFromLink k a s)

/-- A packet of this node can leave its injection queue now. -/
def injectReady (s : State) (p : Packet) (forced : Bool) : Bool :=
  if p.mcast then !forced
  else if p.dst = ownId s then ejectRoom s p && !forced
  else decideNow s { p with epoch := epochInj s } true forced != .wait

/-- The router takes the first packet that can go from the injection queue of unit `u` (R238, R240). -/
def routeInject (u : Nat) (forced : Bool) (s : State) : State :=
  match (s.router.inject.getD u []).find? fun p => injectReady s p forced with
  | none => s
  | some p =>
    let q : Packet := { p with epoch := epochInj s }
    let s := takeFromInject u p s
    if q.mcast then makeCopies q none s
    else if q.dst = ownId s then eject none q (countInj q s)
    else sendOn (decide1 s q true forced) q none (countInj q s)

/-- The router takes packet `n` of those that wait in it. -/
def routeWaiting (n : Nat) (forced : Bool) (s : State) : State :=
  match s.router.waiting[n]? with
  | none => s
  | some w =>
    let gone : State := { s with router := { s.router with waiting := s.router.waiting.eraseIdx n } }
    match w.dim with
    | some d =>
      match decideCopy s w.packet d with
      | .wait => s
      | x => if forced then s else carryOut x w.packet (acrossDim s d) w.dim w.src gone
    | none =>
      match decideNow s w.packet false forced with
      | .wait => s
      | x => sendOn x w.packet w.src gone

/-- An output link that nothing has started on serves `p` next, before what is queued for it (R235). -/
def servesNext (s : State) (out : Nat) (p : Packet) : Bool :=
  let o := link s out
  txReady s out && o.txOut.isEmpty && !holding o && !cutInto s out && o.txq.all (fun q => q.vc != p.vc)
    && pickVc (fld s Reg.FAB_PRIO_SHARE 0 3 + 1) { o with txq := o.txq ++ [p] } == some p.vc

/-- A packet that is still arriving on link `k` starts on an output (R261): it is for another node and admitted, nothing of
its VC is ahead of it, and its output serves it next. A multicast packet is copied once it is whole (assumption log
32). -/
def cutThrough (k : Nat) (s : State) : State :=
  match (link s k).rxPart with
  | none => s
  | some x =>
    let h := x.header
    if x.mode != .keep || x.got.length < 32 || h.mcast || isControl h.ptype || h.dst == ownId s
        || !linkGives s k h.ptype || (link s k).inbuf.any (fun a => a.packet.vc == h.vc) then s
    else if (match portOfLink s k with | some port => !portAdmits s port h.ptype h.pkey | none => false) then s
    else match decide1 s h false false with
      | .go out q =>
        if out != k && servesNext s out q then
          modLink k (fun l => { l with rxPart := some { x with mode := .cut out } })
            (modLink out (fun l =>
              let l := grant q.vc q.units l
              { l with txOut := [⟨q, q.header ++ x.got.drop 32, h.streamLen - x.got.length⟩] }) s)
        else s
      | _ => s

/-- What follows a change in the router: links, then descriptors that waited for room. -/
def settle (s : State) : State := proceedAll (settleLinks s)

/-- The router takes a packet from a source. -/
def routeFrom (src : RouterIn) (forced : Bool) (s : State) : State :=
  match src with
  | .inject u => routeInject u.val forced s
  | .link k vc => routeLink k.val vc forced s
  | .arriving k => if forced then s else cutThrough k.val s
  | .waiting n => routeWaiting n forced s

/-- ROUTE_PACKET. -/
def execRoutePacket (src : RouterIn) (s : State) : Res :=
  .next (onlyIf (coreUp s) (fun s => settle (routeFrom src false s)) s)

/-- ESC_WAIT_EXPIRY: the packet takes its escape VC (R232). -/
def execEscWaitExpiry (src : RouterIn) (s : State) : Res :=
  .next (onlyIf (coreUp s) (fun s => settle (routeFrom src true s)) s)

/-- A packet waits to leave through a port on a VC: queued on one of its links, or held in the router for it. -/
def waitsFor (s : State) (port : Nat) (vc : BitVec 3) : Bool :=
  ((portLinks s port).any fun k => (link s k).txq.any fun p => p.vc == vc)
    || (s.links.values.any fun l => l.inbuf.any fun a => a.packet.vc == vc)
    || (s.router.waiting.any fun w => w.packet.vc == vc)

/-- The neighbour last verified on a port (R388). -/
def portNode (s : State) (port : Nat) : NodeId :=
  ((portLinks s port).findSome? fun k => (link s k).nbr).getD (ownId s)

/-- OUTPUT_STALL_TIMEOUT (R253). -/
def execOutputStallTimeout (port : Fin 16) (vc : BitVec 3) (s : State) : Res :=
  .next (onlyIf (coreUp s && waitsFor s port.val vc)
    (fun s => postEvent 0x0505 (portNode s port.val) 0xFF port.val vc.toNat
      (setReg Reg.FAB_STALL_INFO (BitVec.ofNat 64 (port.val + 2 ^ 8 * vc.toNat + 2 ^ 31)) s)) s)

/-! ### Register writes of the fabric -/

/-- A refused write of the `FAB_` family. -/
def fabRefuse (s : State) : State := raise Reg.FAB_STATUS 0 s

/-- SUMP_DST_WRITE (R233). -/
def execSumpDstWrite (i : Fin 8) (v : Word) (s : State) : Res :=
  .next (onlyIf (coreUp s) (storeReg (Reg.FAB_SUMP_DST i.val) v.toNat) s)

/-- A write of entry `d` of a route table (R239). -/
def routeWrite (b : Bool) (d : Nat) (v : Nat) (s : State) : State :=
  if fabReady s && epochInj s == b then fabRefuse s
  else storeReg (if b then Reg.FAB_RT_B d else Reg.FAB_RT_A d) v s

/-- ROUTE_TABLE_WRITE. -/
def execRouteTableWrite (b : Bool) (d : Byte) (v : Word) (s : State) : Res :=
  .next (onlyIf (coreUp s) (routeWrite b d.toNat v.toNat) s)

/-- `FAB_EPOCH_CTL.INJ` written (R238); a HELLO carries the change (R226). -/
def injWrite (b : Bool) (s : State) : State :=
  if epochInj s == b then s
  else settleLinks (helloAll (setFld Reg.FAB_EPOCH_CTL 0 1 (bitOf b) s))

/-- EPOCH_INJ_WRITE. -/
def execEpochInjWrite (b : Bool) (s : State) : Res := .next (onlyIf (coreUp s) (injWrite b) s)

/-- `CLR_A` or `CLR_B` written (R240). -/
def epochClear (b : Bool) (s : State) : State :=
  if epochInj s == b then fabRefuse s
  else if b then setReg Reg.FAB_EPOCH_INJ_B 0 (setReg Reg.FAB_EPOCH_EJ_B 0 s)
  else setReg Reg.FAB_EPOCH_INJ_A 0 (setReg Reg.FAB_EPOCH_EJ_A 0 s)

/-- EPOCH_CLEAR. -/
def execEpochClear (b : Bool) (s : State) : Res := .next (onlyIf (coreUp s) (epochClear b) s)

/-- A write of `FAB_EPOCH_CTL`: the clears against the INJ that the write leaves. -/
def epochCtlWrite (v : Nat) (s : State) : State :=
  let s := injWrite (v.testBit 0) s
  let s := if v.testBit 8 then epochClear false s else s
  if v.testBit 9 then epochClear true s else s

/-- Links are out of service (R223): neither ACTIVE nor in RETRAIN. -/
def outOfService (s : State) (ks : List Nat) : Bool :=
  ks.all fun k => (link s k).state != .active && (link s k).state != .retrain

/-- A link whose port or role has changed enters PRIMING, or leaves it for DOWN (R220, R274). -/
def placeLink (k : Nat) (s : State) : State :=
  let st := (link s k).state
  if (st = .priming || st = .init) && !mayPrime s k then stopLink k .down s else tryPrime k s

/-- A write of `FAB_LPORT_LINKS` of port `p` (R220, R223). -/
def lportLinksWrite (p v : Nat) (s : State) : State :=
  let new := bitsOf 36 v
  let old := portLinks s p
  if new.any (fun k => match portOfLink s k with | some q => q != p | none => false) || !outOfService s (new ++ old) then
    fabRefuse s
  else settleLinks (each (old ++ new) placeLink (storeReg (Reg.FAB_LPORT_LINKS p) v s))

/-- The packets on adaptive VCs that are queued for port `p` choose again (R254). -/
def rechoose (p : Nat) (s : State) : State :=
  each (portLinks s p) (fun k s => requeueLink k (fun q => isAdaptive q.vc) s) s

/-- `ADP_EXCL` of port `p` set: packets that wait for the port choose again (R254). -/
def exclPort (p : Nat) (s : State) : State :=
  if bit s (Reg.FAB_LPORT_CTL p) 8 then s else rechoose p (raise (Reg.FAB_LPORT_CTL p) 8 s)

/-- A write of `FAB_LPORT_CTL` that leaves ROLE and DIM: a newly set `ADP_EXCL` takes effect (R254). -/
def exclWrite (p v : Nat) (s : State) : State :=
  let was := bit s (Reg.FAB_LPORT_CTL p) 8
  let s := storeReg (Reg.FAB_LPORT_CTL p) v s
  if !was && bit s (Reg.FAB_LPORT_CTL p) 8 then rechoose p s else s

/-- A write of `FAB_LPORT_CTL` of port `p` (R220, R223). -/
def lportCtlWrite (p v : Nat) (s : State) : State :=
  let new := written s (Reg.FAB_LPORT_CTL p) v
  let same : Bool := natField new.toNat 0 8 == fld s (Reg.FAB_LPORT_CTL p) 0 8
  if same then settleLinks (exclWrite p v s)
  else if !outOfService s (portLinks s p) then fabRefuse s
  else settleLinks (each (portLinks s p) placeLink (storeReg (Reg.FAB_LPORT_CTL p) v s))

/-- A write of the selected admission-list entry (R242, R243). -/
def pkeyListWrite (v : Nat) (s : State) : State :=
  if v.testBit 31 && v % 65536 = 0 then fabRefuse s
  else setReg (pkeyEntry (fld s Reg.FAB_PKEY_SEL 0 4) (fld s Reg.FAB_PKEY_SEL 8 6))
    (BitVec.ofNat 64 (v % 65536 + (if v.testBit 31 then 2 ^ 31 else 0))) s

/-- PKEY_LIST_WRITE. -/
def execPkeyListWrite (v : Word) (s : State) : Res := .next (onlyIf (coreUp s) (pkeyListWrite v.toNat) s)

/-- Neighbour or own READY has fallen: packets queued for link `k` choose again, but for those on VC4 and VC6 (R254). -/
def readyFell (k : Nat) (s : State) : State := requeueLink k (fun p => p.vc != 4 && p.vc != 6) s

/-- A write of `FAB_CTL` (R227): a change of READY goes out in a HELLO, and where READY falls every link is down for
ordinary traffic (R254). -/
def fabCtlWrite (v : Nat) (s : State) : State :=
  let was := fabReady s
  let s := storeReg Reg.FAB_CTL v s
  if fabReady s == was then s
  else
    let s := if was then each s.links.keys readyFell s else s
    settle (helloAll s)

/-- FAB_CTL_WRITE. -/
def execFabCtlWrite (v : Word) (s : State) : Res := .next (onlyIf (coreUp s) (fabCtlWrite v.toNat) s)

/-- A write of `FAB_NODE_ID` or `FAB_DIM_EN` (R218, R447). -/
def nodeIdWrite (dims : Bool) (v : Nat) (s : State) : State :=
  if fabEn s || (dims && v % 256 = 0) then fabRefuse s
  else settleLinks (helloAll (storeReg (if dims then Reg.FAB_DIM_EN else Reg.FAB_NODE_ID) v s))

/-- NODE_ID_WRITE. -/
def execNodeIdWrite (dims : Bool) (v : Word) (s : State) : Res :=
  .next (onlyIf (coreUp s) (nodeIdWrite dims v.toNat) s)

/-! ### Neighbours (R225 to R227, R236) -/

/-- A fabric control packet leaves the VC buffer of link `k`. -/
def takeControl (k : Nat) (p : Packet) (s : State) : State :=
  modLink k (fun l => { l with inbuf := match l.inbuf.find? fun a => a.packet == p with
    | some a => l.inbuf.erase a
    | none => l.inbuf }) s

/-- The checks that a HELLO passes (R226). -/
def helloOk (s : State) (k : Nat) (h : Nat) : Bool :=
  match portOfLink s k with
  | none => false
  | some p =>
    let role := portRole s p
    natField h 0 8 == (portNeighbour s p).toNat && natField h 8 8 == dimEn s && natField h 16 2 == role
      && natField h 18 3 == (if role = 1 then portDim s p else 0)
      && (portLinks s p).all fun j => j == k || !verified s j || fld s (Reg.FAB_LINK_NBR j) 0 8 == natField h 0 8

/-- The outcome of link `k` changes (R226): a failed one is posted once, and the packets queued are chosen again
(R254). -/
def setOutcome (k o : Nat) (s : State) : State :=
  if fld s (Reg.FAB_LINK_STATUS k) 0 2 = o then s
  else
    let s := setReg (Reg.FAB_LINK_STATUS k) (BitVec.ofNat 64 o) s
    if o = 2 then postLink 0x0501 k 0 (requeueLink k (fun p => !isControl p.ptype) s)
    else if o = 3 then postLink 0x0502 k 0 (requeueLink k (fun p => !isControl p.ptype) s)
    else s

/-- A HELLO arrives on an ACTIVE link (R226, R227, R236). -/
def takeHello (k : Nat) (p : Packet) (s : State) : State :=
  let h := leNat (fit 8 p.payload)
  let inc := BitVec.ofNat 16 (natField h 32 16)
  let was := nbrReady s k
  let s := setReg (Reg.FAB_LINK_NBR k) (BitVec.ofNat 64 h) s
  let s := if (link s k).nbrInc.getD inc != inc then postOwn 0x0907 k inc.toNat s else s
  let good := helloOk s k h
  let s := modLink k (fun l => { l with
    nbrInc := some inc
    nbr := if good then some (BitVec.ofNat 8 h) else l.nbr }) s
  let s := { s with router := { s.router with drained := s.router.drained.filter fun q => portOfLink s k != some q } }
  let s := setOutcome k (if good then 1 else 2) s
  if was && !nbrReady s k then readyFell k s else s

/-- HELLO_TIMER: a link sends a HELLO every 1 ms (R226). -/
def execHelloTimer (k : Fin 36) (s : State) : Res :=
  .next (onlyIf (coreUp s && tileUp s k.val) (fun s => settleLinks (sendHello k.val s)) s)

/-- A fabric control packet of type `ty` is taken from an ACTIVE link and acted on; an aborted one is discarded. -/
def onControl (k : Nat) (ty : BitVec 6) (p : Packet) (f : State → State) (s : State) : State :=
  if coreUp s && tileUp s k && (link s k).state == .active && p.ptype == ty then
    let s := takeControl k p s
    settle (if p.abt then bump (Reg.LNK_ABORT_CNT k) s else f s)
  else s

/-- HELLO_RECEIVE. -/
def execHelloReceive (k : Fin 36) (p : Packet) (s : State) : Res :=
  .next (onControl k.val tHELLO p (takeHello k.val p) s)

/-- NBR_LOST: no HELLO for 3 ms on an ACTIVE link (R226). -/
def execNbrLost (k : Fin 36) (s : State) : Res :=
  .next (onlyIf (coreUp s && tileUp s k.val && (link s k.val).state == .active)
    (fun s => settle (setOutcome k.val 3 s)) s)

/-- DRAIN_RECEIVE: adaptive use of the port stops until its next HELLO (R236). -/
def execDrainReceive (k : Fin 36) (p : Packet) (s : State) : Res :=
  .next (onControl k.val tDRAIN p
    (fun s =>
      if !verified s k.val then s
      else match portOfLink s k.val with
        | some q => { s with router := { s.router with drained := q :: s.router.drained.filter (· != q) } }
        | none => s) s)

/-! ### Probes (R228) -/

/-- The reference-clock count: 156.25 MHz against the 100 MHz of `MGT_TIME` (R291, R388). -/
def refCount (s : State) : Nat := s.now * 25 / 16

/-- A PROBE goes out on link `k` (R228). -/
def sendProbe (k : Nat) (keeper : Bool) (s : State) : State :=
  let n := (link s k).probeNo + 1
  let s := { (modLink k (fun l => { l with probeNo := n }) s) with
    router := { s.router with probe := some ⟨k, n, keeper, true⟩ } }
  settleLinks (sendControl k tPROBE (leBytes 4 (BitVec.ofNat 32 (refCount s)).toNat ++ leBytes 2 n.toNat ++ [0, 0]) s)

/-- A probe waits for its reply. -/
def probeWaits (s : State) : Bool := match s.router.probe with | some x => x.waiting | none => false

/-- A write of `FAB_PROBE_CTL` by software or by the keeper (R228): one with GO is ignored unless the link it names is
ACTIVE and no probe waits. -/
def probeCtlWrite (keeper : Bool) (v : Nat) (s : State) : State :=
  let k := natField v 0 6
  if !v.testBit 31 then storeReg Reg.FAB_PROBE_CTL v s
  else if (link s k).state != .active || !tileUp s k || probeWaits s then fabRefuse s
  else sendProbe k keeper (storeReg Reg.FAB_PROBE_CTL v s)

/-- PROBE_GO. -/
def execProbeGo (k : BitVec 6) (s : State) : Res :=
  .next (onlyIf (coreUp s) (probeCtlWrite false (k.toNat + 2 ^ 31)) s)

/-- PROBE_RECEIVE: it is answered on the same link with the turnaround (R228). -/
def execProbeReceive (k : Fin 36) (p : Packet) (turnaround : BitVec 16) (s : State) : Res :=
  .next (onControl k.val tPROBE p
    (fun s => sendControl k.val tPROBER (fit 6 p.payload ++ leBytes 2 turnaround.toNat) s) s)

/-- The round trip that a link's rate and width cover, in ns (R271). -/
def coverNs (l : Link) : Nat := 1300 * 2 ^ (3 - l.rate.toNat) * (if l.width = 0 then 1 else 2)

/-- A PROBE_REPLY arrives when the own count is `count` (R228): one with the number of the latest PROBE gives the round
trip, also after the time limit. -/
def takeProbeReply (k : Nat) (p : Packet) (count : Word) (s : State) : State :=
  match s.router.probe with
  | none => s
  | some x =>
    if x.link != k || BitVec.ofNat 16 (sliceNat p.payload 4 2) != x.number then s
    else
      let rtt := (count - BitVec.ofNat 32 (sliceNat p.payload 0 4) - BitVec.ofNat 32 (sliceNat p.payload 6 2)).toNat
      let old := fld s Reg.FAB_PROBE_STATUS 30 1
      let s := { s with router := { s.router with probe := none } }
      let s := setReg Reg.FAB_PROBE_STATUS
        (BitVec.ofNat 64 (rtt % 2 ^ 24 + 2 ^ 24 * k + 2 ^ 30 * old + 2 ^ 31)) s
      if x.keeper && keeperRuns s && 10 * coverNs (link s k) < 64 * rtt then postLink 0x0505 k rtt s else s

/-- PROBE_REPLY_RECEIVE. -/
def execProbeReplyReceive (k : Fin 36) (p : Packet) (count : Word) (s : State) : Res :=
  .next (onControl k.val tPROBER p (takeProbeReply k.val p count) s)

/-- PROBE_TIMEOUT (R228). -/
def execProbeTimeout (s : State) : Res :=
  match s.router.probe with
  | some x =>
    .next (onlyIf (coreUp s && x.waiting) (fun s =>
      raise Reg.FAB_PROBE_STATUS 30
        { s with router := { s.router with probe := some { x with waiting := false } } }) s)
  | none => .next s

/-- KEEPER_PROBE: the keeper probes a verified link through the same register (R228). -/
def execKeeperProbe (k : Fin 36) (s : State) : Res :=
  .next (onlyIf (coreUp s && keeperRuns s && verified s k.val) (probeCtlWrite true (k.val + 2 ^ 31)) s)

end Sys2Proof.Machine
end

