-- ==== Sys2Proof/Machine/LinkLayer.lean ====
section
/-!
DEFINITION. Machine/LinkLayer.lean: the commands of the link layer (R255 to R289): flits that arrive, the link's timers,
retrains and resets, modes, sleep of a direction; and tap requests (R299 to R301).
-/

namespace Sys2Proof.Machine

/-! ### Tap requests (R299 to R301) -/

/-- The ranges of the five taps (R300). -/
def tapRanges : List (Int × Int) := [(-6, 0), (-16, 0), (24, 64), (-20, 0), (-6, 4)]

/-- The presets 1 to 8 (R300). -/
def presets : List (List Int) :=
  [[0, 0, 64, 0, 0], [0, -4, 60, 0, 0], [0, -8, 56, 0, 0], [0, -4, 52, -8, 0], [-2, -8, 46, -8, 0],
    [0, 0, 52, -12, 0], [-2, -12, 42, -8, 0], [-4, -12, 36, -12, 0]]

/-- Taps within their ranges (R300). -/
def tapsInRange (ts : List Int) : Bool := (List.range 5).all fun i =>
  let r := tapRanges.getD i (0, 0)
  r.1 ≤ ts.getD i 0 && ts.getD i 0 ≤ r.2

/-- The sum rule (R300). -/
def tapsSum (ts : List Int) : Bool := ts.foldl (fun n t => n + t.natAbs) 0 ≤ 64

/-- The taps that a request word asks for (R299). -/
def requestedTaps (ts : List Int) (w : Nat) : List Int :=
  let preset := natField w 10 4
  if preset = 0 then
    ts.mapIdx fun i t =>
      let c := natField w (2 * i) 2
      if c = 1 then t + 1 else if c = 2 then t - 1 else t
  else presets.getD (preset - 1) ts

/-- A tap request word reaches the transmitter of lane `n` (R301). A reserved preset changes nothing and is answered as
refused (assumption log 8). -/
def tapRequest (active : Bool) (n w : Nat) (s : State) : State :=
  let v := lane s n
  let id := BitVec.ofNat 4 (natField w 16 4)
  let preset := natField w 10 4
  if id = v.reqIn then s
  else
    let new := requestedTaps v.taps w
    if 8 < preset || (active && preset != 0) then setLane n { v with reqIn := id, resp := 2 } s
    else if !tapsInRange new then setLane n { v with reqIn := id, resp := 1 } s
    else if !tapsSum new then setLane n { v with reqIn := id, resp := 2 } s
    else setLane n { v with reqIn := id, resp := 0, taps := new } s

/-- A tap request word reaches lane `n` (R299, R301): the partner's request, and its answer to the lane's own last one. -/
def tapWord (active : Bool) (n w : Nat) (s : State) : State :=
  modLane n (fun v => { v with ackIn := BitVec.ofNat 4 (natField w 20 4), respIn := BitVec.ofNat 2 (natField w 24 2) })
    (tapRequest active n w s)

/-- The receiver of lane `n` asks the partner's transmitter for other taps, or asks for nothing (R301): what it asks for
is a free value (assumption log 8). A new request waits for the ACK_ID of the last one; in service it is no preset. -/
def askTaps (active : Bool) (n : Nat) (s : State) : State :=
  if (lane s n).ackIn != (lane s n).reqOut then s
  else
    let (want, s) := choose s
    let (w, s) := draw s
    let cmds := (List.range 5).foldl (fun m i => m + w / 3 ^ i % 3 * 4 ^ i) 0
    let preset := if active then 0 else w / 243 % 9
    if want then
      modLane n (fun v => { v with ask := BitVec.ofNat 14 (cmds + 2 ^ 10 * preset), reqOut := v.reqOut + 1 }) s
    else s

/-! ### Flits that arrive -/

/-- Sequence check of an unsequenced flit (R265). -/
def checkSeq (k : Nat) (f : RxFlit) (s : State) : State :=
  if f.seq = (link s k).rxSeq then s else awaitReplay k s

/-- The receive direction sleeps after an accepted flit with SLP (R313). -/
def takeSlp (k : Nat) (f : RxFlit) (s : State) : State :=
  if f.slp then modLink k (fun l => { l with rxSleep := true }) s else s

/-- A DATA flit in ACTIVE (R265, R270). -/
def takeData (k : Nat) (f : RxFlit) (s : State) : State :=
  let l := link s k
  if f.seq = l.rxSeq then
    takeSlp k f (setLink k { l with rxSeq := l.rxSeq + 1, accepted := l.accepted + 1, awaiting := false,
                                    landing := l.landing ++ [(f.abt, fit 248 f.payload)] } s)
  else awaitReplay k s

/-- An AUDIT flit in ACTIVE (R272). -/
def takeAudit (k : Nat) (f : RxFlit) (s : State) : State :=
  let l := link s k
  if f.seq = l.rxSeq then
    let good : Bool := sliceNat f.payload 0 4 == l.accepted.toNat
      && (l.accepted - l.relOut).toNat == l.landing.length
    let s := takeSlp k f (setLink k { l with rxSeq := l.rxSeq + 1, awaiting := false, aud := if good then 1 else 2 } s)
    if good then s
    else startRetrain k true (postLink 0x0603 k 0 (bump (Reg.LNK_AUDIT_ERR_CNT k) s))
  else awaitReplay k s

/-- A CTRL flit in ACTIVE (R251, R268, R270, R272, R301). -/
def takeCtrl (k : Nat) (f : RxFlit) (s : State) : State :=
  let rel := BitVec.ofNat 32 (sliceNat f.payload 4 4)
  let s := takeSlp k f (checkSeq k f s)
  let beyond : Bool := serialAfter 32 rel.toNat (link s k).sent.toNat
  let s := modLink k (fun l => { l with stopIn := f.payload.getD 0 0, relIn := if beyond then l.relIn else rel }) s
  let ls := activeLanes s k
  let s := each (List.range ls.length)
    (fun j s => tapWord true (ls.getD j 0) (sliceNat f.payload (16 + 4 * j) 4) s) s
  if beyond then startRetrain k true s else s

/-- A valid flit of a link in ACTIVE. -/
def takeActive (k : Nat) (f : RxFlit) (s : State) : State :=
  let (bad, s) := takeAck k f.ack s
  if bad then startRetrain k true s
  else if f.ftype = ftDATA then takeData k f s
  else if f.ftype = ftAUDIT then takeAudit k f s
  else if f.ftype = ftCTRL then takeCtrl k f s
  else if f.ftype = ftREPLAY then replayAsked k f.ack (takeSlp k f (checkSeq k f s))
  else takeSlp k f (checkSeq k f s)

/-- RATE, WIDTH and FEC of an INIT payload are the link's own (R276). -/
def initMatches (l : Link) (w : List Byte) : Bool :=
  let b := (w.getD 1 0).toNat
  w.getD 0 0 == 1 && natField b 0 2 == l.rate.toNat && natField b 2 2 == l.width.toNat && b.testBit 4 == l.fecS

/-- A valid INIT flit during a handshake (R274 to R277). In a retrain whose start will not be fresh, its ACK is taken as
that of any flit is, and one that names a flit not yet sent is a retrain cause, as is such a NEXT_SEQ (R264, R282). -/
def takeInit (k : Nat) (f : RxFlit) (s : State) : State :=
  let l := link s k
  let w := f.payload
  if initMatches l w then
    let s := setLink k { l with rxOk := true, initWord := some w,
                                initSeen := l.initSeen || (w.getD 1 0).getLsbD 5 } s
    if l.state = .retrain && !startsFresh (link s k) then
      let (bad, s) := takeAck k f.ack s
      if bad || serialAfter 12 (sliceNat w 6 2 % 4096) l.txSeq.toNat then startRetrain k true s else tryActive k s
    else tryActive k s
  else if l.state = .init then
    stopLink k .down (postLink 0x0605 k 0 (raise (Reg.LNK_STATUS k) 8 s))
  else s

/-- The link shakes hands: INIT, or step 5 of a retrain. -/
def shaking (l : Link) : Bool := l.state == .init || (l.state == .retrain && 4 ≤ l.rtStep)

/-- A flit arrives on link `k` as one of the types `ts`; a flit error is taken whichever type was expected. -/
def takeFlit (ts : List Nat) (k : Nat) (f : RxFlit) (s : State) : State :=
  let l := link s k
  if !coreUp s || !tileUp s k || l.rxSleep || !(l.state == .active || shaking l) then s
  else if !(flitError l f || ts.contains f.ftype) then s
  else
    let bad := flitError l f
    let s := each f.cws (countCodeword k) s
    if bad then (if l.state = .active then settle (flitFailed k s) else s)
    else if l.state = .active then settle (takeActive k f s)
    else if f.ftype = ftINIT then settle (takeInit k f s)
    else if f.ftype = ftDATA || f.ftype = ftIDLE then
      let s := tryActive k (modLink k (fun l => { l with initSeen := true }) s)
      settle (if (link s k).state = .active then takeActive k f s else s)
    else s

/-- FLIT_RECEIVE: DATA and IDLE. -/
def execFlitReceive (k : Fin 36) (f : RxFlit) (s : State) : Res := .next (takeFlit [ftDATA, ftIDLE] k.val f s)

/-- CTRL_FLIT_RECEIVE. -/
def execCtrlFlitReceive (k : Fin 36) (f : RxFlit) (s : State) : Res := .next (takeFlit [ftCTRL] k.val f s)

/-- REPLAY_REQ_RECEIVE. -/
def execReplayReqReceive (k : Fin 36) (f : RxFlit) (s : State) : Res := .next (takeFlit [ftREPLAY] k.val f s)

/-- AUDIT_RECEIVE. -/
def execAuditReceive (k : Fin 36) (f : RxFlit) (s : State) : Res := .next (takeFlit [ftAUDIT] k.val f s)

/-- INIT_FLIT_RECEIVE. -/
def execInitFlitReceive (k : Fin 36) (f : RxFlit) (s : State) : Res := .next (takeFlit [ftINIT] k.val f s)

/-! ### The link's timers -/

/-- A command of link `k` while its tile and the core run. -/
def onLink (k : Nat) (c : Bool) (f : State → State) (s : State) : State :=
  if coreUp s && tileUp s k && c then f s else s

/-- INIT_FLIT_TIMER: an INIT flit every 32 lc (R276). -/
def execInitFlitTimer (k : Fin 36) (s : State) : Res :=
  let l := link s k.val
  .next (onLink k.val (shaking l)
    (fun s => tryActive k.val (modLink k.val (fun l => { l with initsSent := if l.rxOk then l.initsSent + 1 else 0 })
      (sendUnseq k.val ftINIT false (initPayload s k.val) s))) s)

/-- A priming attempt has failed (R306): the cause is recorded, counted and posted. -/
def primeFailed (k cause : Nat) (s : State) : State :=
  let s := setFld (Reg.LNK_PRIME_STATUS k) 4 3 cause s
  let n := (link s k).fails + 1
  let s := postLink 0x0608 k cause (bump (Reg.LNK_PRIME_FAIL_CNT k) (modLink k (fun l => { l with fails := n }) s))
  if n = 16 then postLink 0x0609 k cause s else s

/-- INIT_TIMEOUT: back to PRIMING, a re-prime from P1 (R274, R305, R306). -/
def execInitTimeout (k : Fin 36) (s : State) : Res :=
  .next (onLink k.val ((link s k.val).state == .init)
    (fun s => sendCommas k.val (beginSteps k.val 1 (modLink k.val (fun l => { l with state := .priming, reprime := true })
      (primeFailed k.val 5 s)))) s)

/-- REPLAY_REQ_REPEAT (R265). -/
def execReplayReqRepeat (k : Fin 36) (s : State) : Res :=
  .next (onLink k.val ((link s k.val).awaiting && txReady s k.val) (sendReplayReq k.val) s)

/-- ACK_TIMEOUT (R266): while no replay runs. -/
def execAckTimeout (k : Fin 36) (s : State) : Res :=
  .next (onLink k.val (txReady s k.val && !replayRuns (link s k.val) s.now) (fun s => settle (startReplay k.val true s)) s)

/-- CREDIT_TIMEOUT (R273). -/
def execCreditTimeout (k : Fin 36) (s : State) : Res :=
  let l := link s k.val
  .next (onLink k.val (txReady s k.val && !hasCredit l && !(l.txq.isEmpty && l.txOut.isEmpty && l.txX.isEmpty))
    (fun s => settle (postLink 0x0604 k.val 0 (bump (Reg.LNK_CREDIT_STALL_CNT k.val)
      (modLink k.val (fun l => { l with auditDue := true }) s)))) s)

/-- CTRL_FLIT_DUE (R269). -/
def execCtrlFlitDue (k : Fin 36) (s : State) : Res := .next (onLink k.val (txReady s k.val) (sendCtrl k.val) s)

/-- FRAME_LOCK_LOSS (R263, R278). -/
def execFrameLockLoss (k : Fin 36) (s : State) : Res :=
  .next (onLink k.val (link s k.val).frameLock
    (fun s => settle (startRetrain k.val true (modLink k.val (fun l => { l with frameLock := false }) s))) s)

/-- FRAME_LOCK_GAIN: after priming, and in step 4 of a retrain (R263, R274, R279). -/
def execFrameLockGain (k : Fin 36) (s : State) : Res :=
  .next (onLink k.val (shaking (link s k.val))
    (fun s => tryActive k.val (modLink k.val (fun l => { l with
      frameLock := true
      rtStep := if l.state = .retrain then 5 else l.rtStep }) s)) s)

/-- PARTNER_RETRAIN_DETECT (R278, R313). -/
def execPartnerRetrainDetect (k : Fin 36) (s : State) : Res :=
  .next (onLink k.val ((link s k.val).state == .active && !(link s k.val).rxSleep)
    (fun s => settle (startRetrain k.val true s)) s)

/-- RETRAIN_ATTEMPT_TIMEOUT (R274, R281). -/
def execRetrainAttemptTimeout (k : Fin 36) (s : State) : Res :=
  .next (onLink k.val ((link s k.val).state == .retrain) (fun s => settle (startRetrain k.val false s)) s)

/-! ### Writes of `LNK_CTL` (R278, R283, R284, R452) -/

/-- DRAIN with a reason goes out on every ACTIVE link of a port (R224, R236). -/
def sendDrain (port reason : Nat) (s : State) : State :=
  each (portLinks s port)
    (fun j s => if (link s j).state = .active then sendControl j tDRAIN (leBytes 4 (port + 2 ^ 8 * reason)) s else s) s

/-- Link `k` is the last one of its port that carries traffic. -/
def lastUsable (s : State) (k : Nat) : Option Nat :=
  match portOfLink s k with
  | some p => if (usableLinks s p false) = [k] then some p else none
  | none => none

/-- `LNK_CTL.RETRAIN`: only from ACTIVE (R440). A port that stops carrying traffic with it sends DRAIN first, with the
reason of who wrote: 1 management, 2 the keeper (R236). -/
def retrainWrite (reason k : Nat) (s : State) : State :=
  if (link s k).state = .active then
    startRetrain k true (match lastUsable s k with
      | some p => settleLinks (sendDrain p reason s)
      | none => s)
  else s

/-- A refused write of link `k`. -/
def linkRefuse (k : Nat) (s : State) : State := raise (Reg.LNK_STATUS k) 5 s

/-- A full link reset (R284), judged against the MODE in force. -/
def fullReset (k : Nat) (s : State) : State :=
  if linkMode s k = 1 then linkRefuse k s
  else
    let s := absorbN (64 * (link s k).landing.length + 2) k true s
    let s := stopLink k .down (abortPart k s)
    let c := reg s (Reg.LNK_CTL k)
    tryPrime k (modLink k (fun l => { l with
      lresets := l.lresets + 1
      fresh := true
      recov := linkMode s k == 2
      fails := 0
      landing := []
      rxPos := 0
      rxX := []
      rxPart := none
      rate := BitVec.ofNat 2 (natField c.toNat 0 2)
      width := BitVec.ofNat 2 (natField c.toNat 2 2)
      fecS := c.getLsbD 4
      reach := c.getLsbD 5 }) s)

/-- MODE has changed from `old` on link `k` (R236, R283, R289). -/
def modeChanged (k old : Nat) (s : State) : State :=
  let new := linkMode s k
  let st := (link s k).state
  if new = old then s
  else
    let s := if old = 1 && st = .active then
        let s := requeueLink k isOrdinary s
        match portOfLink s k with
        | some p => if portUp s p false then s else settleLinks (sendDrain p 1 s)
        | none => s
      else s
    let s := if new = 2 then modLink k (fun l => { l with recov := true }) s else s
    if new = 2 && st != .down then stopLink k .down s
    else if old = 1 && st != .active then flushReplay k s
    else s

/-- A write of `LNK_CTL` (R284, R452). -/
def lnkCtlWrite (k v : Nat) (s : State) : State :=
  if natField v 2 2 = 3 || natField v 8 2 = 3 then linkRefuse k s
  else
    let old := linkMode s k
    let s := modeChanged k old (storeReg (Reg.LNK_CTL k) v s)
    let s := if v.testBit 16 then fullReset k s else s
    settle (if v.testBit 17 then retrainWrite 1 k s else s)

/-- A configuration write to a register of link `k` or of its lanes: ignored and noted while the tile is in reset
(R357). -/
def onTile (k : Nat) (f : State → State) (s : State) : State :=
  if !coreUp s then s else if tileUp s k then f s else raise Reg.RST_STATUS 2 s

/-- The fields of `LNK_CTL` as they stand, without its commands. -/
def lnkCtlNow (s : State) (k : Nat) : Nat := fld s (Reg.LNK_CTL k) 0 16

/-- LNK_RETRAIN. -/
def execLnkRetrain (k : Fin 36) (s : State) : Res :=
  .next (onTile k.val (lnkCtlWrite k.val (lnkCtlNow s k.val + 2 ^ 17)) s)

/-- FULL_LINK_RESET. -/
def execFullLinkReset (k : Fin 36) (s : State) : Res :=
  .next (onTile k.val (lnkCtlWrite k.val (lnkCtlNow s k.val + 2 ^ 16)) s)

/-- LNK_MODE_WRITE. -/
def execLnkModeWrite (k : Fin 36) (mode : BitVec 2) (s : State) : Res :=
  .next (onTile k.val
    (lnkCtlWrite k.val (natField (lnkCtlNow s k.val) 0 8 + 2 ^ 8 * mode.toNat)) s)

/-! ### Sleep of the transmit direction (R288, R312) -/

/-- `LNK_SLEEP_CFG.EN`. -/
def sleepEn (s : State) (k : Nat) : Bool := bit s (Reg.LNK_SLEEP_CFG k) 30

/-- The partner has been told the current ACK, RELEASED and STOP (R288). -/
def toldAll (l : Link) : Bool := l.toldAck == l.rxSeq - 1 && l.toldRel == l.relOut && l.toldStop == l.stopOut

/-- The transmit direction may sleep (R288): in a hold phase packets may stay queued. -/
def maySleep (s : State) (k : Nat) : Bool :=
  let l := link s k
  sleepEn s k && l.replay.isEmpty && l.txOut.isEmpty && l.txX.isEmpty && (l.txq.isEmpty || holding l) && toldAll l

/-- No other link of the port of link `k` has its transmit direction awake. -/
def lastAwake (s : State) (k : Nat) : Bool :=
  match portOfLink s k with
  | none => false
  | some p => (portLinks s p).all fun j => j == k || (link s j).state != .active || (link s j).txSleep != .awake

/-- The frame that is being built takes IDLE flits until it holds `n` (R312). -/
def padFrame (k n : Nat) (s : State) : State :=
  each (List.range (n - (link s k).frame.length)) (fun _ s => sendUnseq k ftIDLE false [] s) s

/-- An awake transmitter with nothing more to send completes the frame that is being built with IDLE flits, which carry
its ACK (R256, R261, R269; assumption log 44). -/
def completeFrame (k : Nat) (s : State) : State :=
  let l := link s k
  if txReady s k && (!l.frame.isEmpty || l.toldAck != l.rxSeq - 1) then padFrame k 5 s else s

/-- A direction goes to sleep: its last flit, an IDLE with SLP, is the last of its frame; then every active lane is in
electrical idle (R288, R312). -/
def dozeTx (k : Nat) (s : State) : State :=
  quiet .idle k (drive (.sleep k false)
    (modLink k (fun l => { l with txSleep := .doze }) (sendUnseq k ftIDLE true [] (padFrame k 4 s))))

/-- TX_SLEEP_ENTER (R236, R288, R312): an awake direction enters L-Doze; the last awake one of a port first sends DRAIN,
but not in a hold phase, which starts no packet (R288 over R236: the model's choice, assumption log 32). A
dozing one whose receive direction sleeps too enters L-Drain unless that is off. -/
def txSleepEnter (k : Nat) (s : State) : State :=
  let l := link s k
  if !maySleep s k || l.state != .active then s
  else if l.txSleep = .awake then
    if lastAwake s k && !l.drainTold && !holding l then
      match portOfLink s k with
      | some p => settleLinks (sendDrain p 3 (setLink k { l with drainTold := true } s))
      | none => s
    else dozeTx k s
  else if l.txSleep = .doze && l.rxSleep && !bit s (Reg.LNK_SLEEP_CFG k) 31 then
    drive (.sleep k true) (setLink k { l with txSleep := .drain } s)
  else s

/-- TX_SLEEP_ENTER. -/
def execTxSleepEnter (k : Fin 36) (s : State) : Res := .next (onLink k.val true (txSleepEnter k.val) s)

/-- A wake burst leaves on link `k` (R313, R314): commas, 512 after L-Drain and 48 after L-Doze, then WAKE on every active
lane; the flits follow. -/
def wakeBurst (k : Nat) (drain : Bool) (s : State) : State :=
  startFlits k 3 (drive (.line (commaRows k (if drain then 511 else 47) s)) (drive (.wake k drain) s))

/-- The transmit direction wakes (R288, R314), and a hold phase ends for its period; a REPLAY_REQ that is owed leaves
(R265). -/
def wakeTx (k : Nat) (s : State) : State :=
  let l := link s k
  if l.state != .active then s
  else if l.txSleep != .awake then
    let s := wakeBurst k (l.txSleep == .drain) (setLink k { l with txSleep := .awake, holdEnded := true, drainTold := false } s)
    settle (if l.awaiting then sendReplayReq k s else s)
  else if holding l then settle (setLink k { l with holdEnded := true } s)
  else s

/-- A wake cause holds (R288). -/
def wakeCause (s : State) (k : Nat) : Bool :=
  let l := link s k
  !l.txq.isEmpty || !l.txOut.isEmpty || !l.txX.isEmpty || l.awaiting || !toldAll l || !sleepEn s k

/-- TX_WAKE. -/
def execTxWake (k : Fin 36) (s : State) : Res := .next (onLink k.val (wakeCause s k.val) (wakeTx k.val) s)

/-- `LNK_DUTY_CTL.D`. -/
def dutyOf (s : State) (k : Nat) : Nat := fld s (Reg.LNK_DUTY_CTL k) 0 3

/-- DUTY_PERIOD_START: a hold phase opens (R288). -/
def execDutyPeriodStart (k : Fin 36) (s : State) : Res :=
  .next (onLink k.val (dutyOf s k.val != 0 && (link s k.val).state == .active)
    (modLink k.val (fun l => { l with hold := true, holdEnded := false })) s)

/-- The hold phase of link `k` ends. -/
def endHold (k : Nat) (s : State) : State := modLink k (fun l => { l with hold := false, holdEnded := false }) s

/-- HOLD_PHASE_END: queued packets may start again (R288). -/
def execHoldPhaseEnd (k : Fin 36) (s : State) : Res :=
  .next (onLink k.val (link s k.val).hold (fun s => settle (endHold k.val s)) s)

/-- A write of `LNK_SLEEP_CFG` (R288). -/
def sleepCfgWrite (k v : Nat) (s : State) : State :=
  let s := storeReg (Reg.LNK_SLEEP_CFG k) v s
  if sleepEn s k then s else wakeTx k s

/-- LNK_SLEEP_CFG_WRITE. -/
def execLnkSleepCfgWrite (k : Fin 36) (v : Word) (s : State) : Res :=
  .next (onTile k.val (sleepCfgWrite k.val v.toNat) s)

/-- A write of `LNK_DUTY_CTL` (R288). -/
def dutyCtlWrite (k v : Nat) (s : State) : State :=
  let s := storeReg (Reg.LNK_DUTY_CTL k) v s
  if dutyOf s k = 0 then settle (endHold k s) else s

/-- LNK_DUTY_CTL_WRITE. -/
def execLnkDutyCtlWrite (k : Fin 36) (v : Word) (s : State) : Res :=
  .next (onTile k.val (dutyCtlWrite k.val v.toNat) s)

end Sys2Proof.Machine
end

