-- ==== Sys2Proof/Machine/Lane.lean ====
section
/-!
DEFINITION. Machine/Lane.lean: priming (R302 to R306), detectors and test (R307 to R311), sleep of a receive direction
(R313, R315), calibration of the lanes (R316 to R318).
-/

namespace Sys2Proof.Machine

/-! ### Calibration (R316 to R318, R403, R426) -/

/-- The calibration that the keeper presents (R404); none while it is down. -/
def presentedCal (s : State) : Option (List Byte) :=
  if keeperRuns s then s.keeper.presented.map fun b => if b then s.flash.cal1 else s.flash.cal0 else none

/-- The factory values of lane `n` (R426): taps, CTLE peaking and gain, DFE taps, LOS threshold in mV, termination. -/
def factoryVals (s : State) (n : Nat) : List Int :=
  let v := natField ((s.shadow.map (·.cal)).getD 0) (64 * n) 64
  [-(natField v 0 3 : Int), -(natField v 3 5 : Int), 24 + (natField v 8 6 : Int), -(natField v 14 5 : Int),
    signedOf 4 (natField v 19 4), (natField v 23 5 : Int), (natField v 28 4 : Int), signedOf 6 (natField v 32 6),
    signedOf 6 (natField v 38 6), signedOf 6 (natField v 44 6), 20 + 5 * (natField v 50 6 : Int),
    (natField v 56 4 : Int)]

/-- The ranges of the twelve values (R300, R316). -/
def valRanges : List (Int × Int) :=
  tapRanges ++ [(0, 31), (0, 15), (-32, 31), (-32, 31), (-32, 31), (20, 200), (0, 15)]

/-- The ranges of the twelve user deltas (R316). -/
def deltaRanges : List Int := [8, 8, 8, 8, 8, 8, 4, 16, 16, 16, 20, 2]

/-- The user deltas of lane `n` in a calibration image (R403). -/
def userDeltas (image : List Byte) (n : Nat) : List Int :=
  (List.range 12).map fun i => (image.getD (128 + 16 * n + i) 0).toInt

/-- A number held within a range. -/
def clampTo (r : Int × Int) (x : Int) : Int := if x < r.1 then r.1 else if r.2 < x then r.2 else x

/-- The starting values of lane `n` and whether they were clamped (R317). -/
def startVals (fac deltas : List Int) : List Int × Bool :=
  let raw := (List.range 12).map fun i => fac.getD i 0 + deltas.getD i 0
  let vals := raw.mapIdx fun i x => clampTo (valRanges.getD i (0, 0)) x
  let taps := vals.take 5
  if tapsSum taps then (vals, vals != raw) else (fac.take 5 ++ vals.drop 5, true)

/-- A cold attempt loads lane `n`'s starting values (R317). -/
def loadLane (n : Nat) (s : State) : State :=
  let cal := presentedCal s
  let r := startVals (factoryVals s n) (match cal with | some im => userDeltas im n | none => [])
  let v := r.1
  let capture := cal.map fun im => signedOf 16 (sliceNat im (32 + 2 * (n / 8)) 2)
  let s := modLane n (fun x => { x with
    taps := v.take 5
    eq := ⟨v.getD 5 0, v.getD 6 0, [v.getD 7 0, v.getD 8 0, v.getD 9 0], v.getD 11 0⟩
    capture := capture
    losCode := some ((v.getD 10 0).toNat / 5) }) s
  let s := { s with regs := s.regs.erase (Reg.LANE_LOS_CFG n) }
  setFld (Reg.LANE_CAL_STATUS n) 1 1 (bitOf r.2) (setFld (Reg.LANE_CAL_STATUS n) 0 1 (bitOf cal.isSome) s)

/-- STALE of every active lane of link `k` (R318). -/
def setStale (k : Nat) (b : Bool) (s : State) : State :=
  each (activeLanes s k) (fun n s => setFld (Reg.LANE_CAL_STATUS n) 2 1 (bitOf b) s) s

/-- Link `k` shows STALE. -/
def isStale (s : State) (k : Nat) : Bool := (activeLanes s k).any fun n => bit s (Reg.LANE_CAL_STATUS n) 2

/-- The tile's temperature, in 0.25 °C units (R318, R369). -/
def tileTemp (s : State) (k : Nat) : Int := s.rst.sensors.tiles.getD k 0

/-- The comparison of R318: set above 25 °C on every active lane, with one event where none showed it, cleared at 20 °C or
less, and by a cold attempt (`cold`) within 25 °C. -/
def checkStale (k : Nat) (cold : Bool) (s : State) : State :=
  match (activeLanes s k).findSome? fun n => (lane s n).capture with
  | none => if cold then setStale k false s else s
  | some c =>
    let d := (tileTemp s k - c).natAbs
    if 100 < d then
      let was := isStale s k
      let s := setStale k true s
      if was then s
      else postOwn 0x060A k (half (tileTemp s k)) (modLink k (fun l => { l with staleAt := some s.now }) s)
    else if cold || d ≤ 80 then setStale k false s
    else s

/-- A cold attempt begins at a step (R303, R305, R306): starting values are loaded. -/
def beginCold (k step : Nat) (s : State) : State :=
  let s := each (activeLanes s k) loadLane s
  let s := checkStale k true (beginSteps k step (modLink k (fun l => { l with reprime := false }) s))
  if step = 0 then quiet .idle k s else sendCommas k s

/-! ### Priming (R302 to R306) -/

/-- Lane `n` is in test: by its own EN, or serving a partner's far-end loop (R311). A lane that is not active stays in its
reset state with its monitors off (R292). -/
def laneInTest (s : State) (n : Nat) : Bool := laneActive s n && (bit s (Reg.LANE_TEST n) 0 || (lane s n).farServe)

/-- Some lane of link `k` is in test: its priming steps are suspended (R311). -/
def linkInTest (s : State) (k : Nat) : Bool := (List.range 8).any fun i => laneInTest s (8 * k + i)

/-- The link runs the steps of a priming attempt or of a retrain's re-prime. -/
def priming (s : State) (k : Nat) : Bool :=
  ((link s k).state == .priming || ((link s k).state == .retrain && (link s k).rtStep < 4)) && !linkInTest s k

/-- PLL_LOCK: step P0 ends, commas leave (R303). The tile's reference input must run (R291). -/
def execPllLock (k : Fin 36) (s : State) : Res :=
  .next (onLink k.val (priming s k.val && (link s k.val).step == 0 && s.rst.refOk.getLsbD (k.val / 4))
    (fun s => sendCommas k.val (modLink k.val (fun l => { l with step := 1 }) s)) s)

/-- CDR_LOCK: every active lane has signal and lock; step P1 ends (R303). -/
def execCdrLock (k : Fin 36) (s : State) : Res :=
  .next (onLink k.val (priming s k.val && (link s k.val).step == 1)
    (fun s => modLink k.val (fun l => { l with step := 2 })
      (each (activeLanes s k.val) (fun n s => modLane n (fun v => { v with los := false, lol := false }) s) s)) s)

/-- A priming attempt fails (R306) and a cold attempt starts at P1 with the PLL locked. A retrain's re-prime does not
follow this rule. -/
def failAttempt (k cause : Nat) (s : State) : State :=
  if (link s k).state = .priming then beginCold k 1 (primeFailed k cause s) else s

/-- LANE_ALIGNED: every active lane is aligned; the measured skews are shown (R303, R304, R306). -/
def laneAligned (k : Nat) (skew : List Nat) (s : State) : State :=
  let ls := activeLanes s k
  let value := (List.range ls.length).foldl (fun v j =>
    v + skew.getD j 0 % 64 * 2 ^ (6 * (ls.getD j 0 - 8 * k))) 0
  let s := setReg (Reg.LNK_SKEW k) (BitVec.ofNat 64 value) s
  let used := skew.take ls.length
  if 32 < used.foldl max 0 - (leastOf used).getD 0 then failAttempt k 1 s
  else sendBlocks k 1 (modLink k (fun l => { l with step := 3, aligned := true }) s)

/-- Lane `n` waits for its far-end loop: it asks the partner for it in place of TRAIN (R311). -/
def farWanted (s : State) (n : Nat) : Bool :=
  laneInTest s n && bit s (Reg.LANE_TEST n) 0 && fld s (Reg.LANE_TEST n) 1 2 == 3 && !(lane s n).farOk

/-- Lane `n` has asked its partner for a far-end loop (R311). -/
def farAsked (s : State) (n : Nat) : Bool := farWanted s n && (lane s n).sends == .training 4

/-- The lanes of link `k` are aligned while one of them is in test: training frames leave, with LOOP_REQ on a lane that
waits for its far-end loop; a lane whose pins a loop or a pattern holds keeps them (R302, R310, R311). -/
def alignedInTest (k : Nat) (s : State) : State :=
  each (activeLanes s k)
    (fun n s => if (lane s n).sends = .commas then sendBlock n (if farWanted s n then 4 else 1) s else s) s

/-- LANE_ALIGNED. -/
def execLaneAligned (k : Fin 36) (skew : List Nat) (s : State) : Res :=
  .next (onLink k.val ((link s k.val).state == .priming || (link s k.val).state == .retrain)
    (fun s =>
      if priming s k.val && (link s k.val).step == 2 then laneAligned k.val skew s
      else if linkInTest s k.val then alignedInTest k.val s
      else s) s)

/-- READY is sent, and the partner's READY has come in 8 frames on every active lane (R303). -/
def endSent (s : State) (k : Nat) : Bool :=
  (link s k).sentReady && (activeLanes s k).all fun n => 8 ≤ (link s k).partRdy.get n 0

/-- The link has sent and received END on every active lane: it leaves training (R304). -/
def finishPriming (k : Nat) (s : State) : State :=
  if endSent s k && (activeLanes s k).all (fun n => (link s k).endSeen.contains n) then
    modLink k (fun l => if l.state = .retrain then { l with rtStep := 4, step := 7 }
      else { l with state := .init, step := 7 }) s
  else s

/-- The link sends END on every active lane if READY has just become complete; the block after it is block 0 of the coded
data (R303, R304). -/
def sendEnd (was : Bool) (k : Nat) (s : State) : State :=
  if !was && endSent s k then
    finishPriming k (modLink k (fun l => { l with blocks := 0, frame := [] }) (startFlits k 2 s))
  else s

/-- A TRAIN or END block of the right lane and rate (R301, R303, R306): the tap word is acted on, and in P5 a frame with
READY is counted. -/
def takeTrain (k n : Nat) (b : CtrlBlock) (s : State) : State :=
  let was := endSent s k
  let s := tapWord false n (sliceNat b 4 4) s
  let ready := (b.getD 3 0).getLsbD 3
  let s := modLink k (fun l => { l with
    partRdy := if ready && l.step = 5 then l.partRdy.set n (l.partRdy.get n 0 + 1) else l.partRdy
    step := if l.step = 3 then 4 else l.step }) s
  sendEnd was k s

/-- The next TRAIN of lane `n`, while the link sends training frames: in P4 it may ask for other taps (R301, R303). -/
def answerTrain (n : Nat) (s : State) : State :=
  let s := if (link s (n / 8)).step = 4 then askTaps false n s else s
  match (lane s n).sends with
  | .training _ => sendBlock n 1 s
  | _ => s

/-- A training block on lane `n` whose LANE and RATE are checked (R306). -/
def onTraining (n ctype : Nat) (b : CtrlBlock) (f : State → State) (s : State) : State :=
  let k := n / 8
  onLink k (priming s k && 3 ≤ (link s k).step && (activeLanes s k).contains n && blockIs ctype b)
    (fun s =>
      if natField (b.getD 1 0).toNat 0 3 != n % 8 then failAttempt k 2 s
      else if natField (b.getD 2 0).toNat 0 2 != (link s k).rate.toNat then failAttempt k 3 s
      else f s) s

/-- TRAIN. -/
def execTrain (n : Fin 288) (b : CtrlBlock) (s : State) : Res :=
  .next (onTraining n.val 1 b (fun s => answerTrain n.val (takeTrain (n.val / 8) n.val b s)) s)

/-- Receive adaptation of lane `n` has converged: where it stands is a free value (R303, R319; assumption log 12). -/
def convergeLane (n : Nat) (s : State) : State :=
  let (p, s) := draw s
  let (g, s) := draw s
  let (a, s) := draw s
  let (b, s) := draw s
  let (c, s) := draw s
  let dfe : Nat → Int := fun x => ((x % 64 : Nat) : Int) - 32
  modLane n (fun v => { v with eq := { v.eq with peak := (p % 32 : Nat), gain := (g % 16 : Nat),
                                                 dfe := [dfe a, dfe b, dfe c] } }) s

/-- ADAPTATION_DONE: every active lane has converged and asks for nothing more: RX_DONE and REQ_DONE go out, and in the
next frames READY (R303). -/
def execAdaptationDone (k : Fin 36) (s : State) : Res :=
  .next (onLink k.val (priming s k.val && (link s k.val).step == 4)
    (fun s =>
      let s := each (activeLanes s k.val) convergeLane s
      let s := sendBlocks k.val 1 (modLink k.val (fun l => { l with step := 5, rxDone := true }) s)
      sendBlocks k.val 1 (modLink k.val (fun l => { l with sentReady := true }) s)) s)

/-- END. -/
def execEndBlock (n : Fin 288) (b : CtrlBlock) (s : State) : Res :=
  let k := n.val / 8
  .next (onTraining n.val 2 b
    (fun s => finishPriming k (modLink k (fun l => { l with
      endSeen := if l.endSeen.contains n.val then l.endSeen else n.val :: l.endSeen }) (takeTrain k n.val b s))) s)

/-- PRIME_TIMEOUT (R306). -/
def execPrimeTimeout (k : Fin 36) (s : State) : Res :=
  .next (onLink k.val ((link s k.val).state == .priming && (link s k.val).step != 7 && !linkInTest s k.val)
    (failAttempt k.val 4) s)

/-! ### Sleep of the receive direction (R313, R315) -/

/-- The WAKE blocks of a wake burst, one for each active lane in order (R313). -/
def wakeOk (s : State) (k : Nat) (bs : List CtrlBlock) : Bool :=
  bs.length == (activeLanes s k).length && bs.all (blockIs 3)

/-- The receive direction of link `k` wakes (R313): its lanes have lock again (R307), and a transmit direction in L-Drain
stays asleep as in L-Doze (R288). -/
def wakeRx (k : Nat) (s : State) : State :=
  each (activeLanes s k) (fun n s => modLane n (fun v => { v with lol := false }) s)
    (modLink k (fun l => { l with rxSleep := false, txSleep := if l.txSleep = .drain then .doze else l.txSleep }) s)

/-- RX_WAKE: a wake burst ends with WAKE. -/
def execRxWake (burst : WakeBurst) (s : State) : Res :=
  let k := burst.link.val
  .next (onLink k ((link s k).rxSleep && wakeOk s k burst.blocks) (wakeRx k) s)

/-- SLEEP_COMMA_RETRAIN (R315). -/
def execSleepCommaRetrain (k : Fin 36) (s : State) : Res :=
  .next (onLink k.val (link s k.val).rxSleep (fun s => settle (startRetrain k.val true s)) s)

/-- A lane's LOL asserts (R307). -/
def setLol (n : Nat) (s : State) : State := raise (Reg.LANE_STATUS n) 3 (modLane n (fun v => { v with lol := true }) s)

/-- WAKE_MISSING_TIMEOUT (R315). -/
def execWakeMissingTimeout (n : Fin 288) (s : State) : Res :=
  let k := n.val / 8
  .next (onLink k ((link s k).rxSleep && laneActive s n.val)
    (fun s => settle (startRetrain k true (setLol n.val s))) s)

/-! ### Detectors (R307, R308) -/

/-- What a detector triggers on lane `n`: a retrain of an ACTIVE link whose receive direction is awake, unless the lane
counts PRBS. -/
def detect (n : Nat) (s : State) : State :=
  let k := n / 8
  if (link s k).state = .active && !(link s k).rxSleep && !bit s (Reg.LANE_SQ_CTL n) 0 then
    settle (startRetrain k true s) else s

/-- The last lane of link `k` has left test: a cold attempt starts at P0 (R311). -/
def leaveTest (k : Nat) (s : State) : State :=
  if linkInTest s k || (link s k).state != .priming then s else beginCold k 0 s

/-- The signal-quality monitor of a lane that has left test detects LOS and LOL again (R308). -/
def monitorBack (n : Nat) (s : State) : State := if laneInTest s n then s else setFld (Reg.LANE_SQ_CTL n) 0 1 0 s

/-- Lane `n`, which has left test, sends commas again, as the lanes of a link that sits in PRIMING do (R302, R311). -/
def backToCommas (n : Nat) (s : State) : State :=
  modLane n (fun v => { v with sends := .commas, scr := scramSeed (n % 8) }) s

/-- Lane `n` stops retransmitting for its partner (R311). -/
def endFarServe (n : Nat) (s : State) : State :=
  if (lane s n).farServe then
    leaveTest (n / 8) (monitorBack n (backToCommas n (modLane n (fun v => { v with farServe := false }) s)))
  else s

/-- LOS_ASSERT. Model's choice: on a lane that retransmits for its partner it ends the loop whatever SEL is, since R311
counts on it, while R308 lets it trigger nothing else (assumption log 11). -/
def execLosAssert (n : Fin 288) (s : State) : Res :=
  let k := n.val / 8
  .next (onLink k (laneActive s n.val)
    (fun s => detect n.val (endFarServe n.val
      (raise (Reg.LANE_STATUS n.val) 2 (modLane n.val (fun v => { v with los := true }) s)))) s)

/-- LOL_ASSERT. -/
def execLolAssert (n : Fin 288) (s : State) : Res :=
  let k := n.val / 8
  .next (onLink k (laneActive s n.val) (fun s => detect n.val (setLol n.val s)) s)

/-- LOS_CLEAR. -/
def execLosClear (n : Fin 288) (s : State) : Res :=
  let k := n.val / 8
  .next (onLink k (laneActive s n.val) (modLane n.val (fun v => { v with los := false })) s)

/-! ### Test (R308 to R311) -/

/-- A refused write of lane `n`. -/
def laneRefuse (n : Nat) (s : State) : State := raise (Reg.LANE_STATUS n) 4 s

/-- Link `k` may have a lane put in test (R311). -/
def testAllowed (s : State) (k : Nat) : Bool :=
  linkMode s k == 0 && ((link s k).state == .priming || (link s k).state == .init || (link s k).state == .active
    || (link s k).state == .retrain)

/-- The link sits in PRIMING while a lane is in test (R311, R320): it sends commas until its lanes are aligned (R302). -/
def sitInPriming (k : Nat) (s : State) : State :=
  if (link s k).state = .priming then s
  else
    let s := if (link s k).state = .active then leaveActive k .priming s else s
    sendCommas k (beginSteps k 0 (modLink k (fun l => { l with state := .priming, rtStep := 0 }) s))

/-- The steps back of the bits whose sum is the next bit of a pattern: PRBS7, PRBS13, PRBS31 (R309). -/
def prbsTaps (poly : Nat) : List Nat := if poly = 0 then [7, 6] else if poly = 1 then [13, 12, 2, 1] else [31, 28]

/-- The next bit of a pattern after the bits of `g`, the newest lowest (R309). -/
def prbsBit (poly : Nat) (g : BitVec 31) : Bool := (prbsTaps poly).foldl (fun b i => b ^^ g.getLsbD (i - 1)) false

/-- The next `m` bits of a pattern, and the generator after them. -/
def prbsBits (poly : Nat) : Nat → BitVec 31 → List Bool × BitVec 31
  | 0, g => ([], g)
  | m + 1, g =>
    let b := prbsBit poly g
    let r := prbsBits poly m (g <<< 1 ||| BitVec.ofNat 31 (if b then 1 else 0))
    (b :: r.1, r.2)

/-- `LANE_PRBS_CTL.POLY`. -/
def polyOf (s : State) (n : Nat) : Nat := fld s (Reg.LANE_PRBS_CTL n) 0 2

/-- The generator of lane `n` starts: where in its sequence is a free value, but not at zeros (R309; assumption log 12). -/
def seedPattern (n : Nat) (s : State) : State :=
  let (d, s) := draw s
  let deg := (prbsTaps (polyOf s n)).headD 31
  modLane n (fun v => { v with prbs := BitVec.ofNat 31 (d % (2 ^ deg - 1) + 1) }) s

/-- What lane `n` drives in a line test or a confirmed far-end loop: the pattern while its generator is on (R309, R310).
`anew` says that the pattern is another one from here. -/
def applyPattern (anew : Bool) (n : Nat) (s : State) : State :=
  if bit s (Reg.LANE_PRBS_CTL n) 4 then
    setSends .pattern n (if anew || (lane s n).sends != .pattern then seedPattern n s else s)
  else if (lane s n).sends = .pattern || (lane s n).sends = .reset then setSends .commas n s
  else s

/-- What lane `n` drives as it enters test or its LOOP changes (R310, R311): a far-end loop is asked for once the lane
sends training frames (assumption log 11). -/
def applyLoop (n : Nat) (s : State) : State :=
  let loop := fld s (Reg.LANE_TEST n) 1 2
  if loop = 1 || loop = 2 then setSends .reset n s
  else if loop = 0 then applyPattern false n s
  else match (lane s n).sends with
    | .training _ => sendBlock n 4 s
    | _ => setSends .commas n s

/-- A link that comes to PRIMING with lanes in test sits there: it sends commas, and those lanes drive what their loops
say (R310, R311). -/
def standInTest (k : Nat) (s : State) : State :=
  each ((activeLanes s k).filter fun n => bit s (Reg.LANE_TEST n) 0) applyLoop (sendCommas k (beginSteps k 0 s))

/-- PRIME_START: the attempt of a link that has entered PRIMING begins (R305). -/
def execPrimeStart (k : Fin 36) (s : State) : Res :=
  let l := link s k.val
  .next (onLink k.val (l.state == .priming && l.step == 7)
    (fun s =>
      if linkInTest s k.val then standInTest k.val s
      else if l.reprime then sendCommas k.val (beginSteps k.val 1 s)
      else beginCold k.val 0 s) s)

/-- Lane `n` leaves test (R311): from a far-end loop through 2 µs of electrical idle, by which the partner sees LOS. -/
def endTest (loop n : Nat) (s : State) : State :=
  let s := modLane n (fun v => { v with farOk := false }) s
  let s := if loop = 3 then
      drive (.idle n) (modLane n (fun v => { v with sends := .idle, idleTill := some (s.now + 200) }) s)
    else backToCommas n s
  leaveTest (n / 8) (monitorBack n s)

/-- The electrical idle that ends a far-end loop is over; a lane whose link still sits in PRIMING sends commas again. -/
def endIdle (n : Nat) (s : State) : State :=
  match (lane s n).idleTill with
  | none => s
  | some t =>
    if s.now < t then s
    else
      let s := modLane n (fun v => { v with idleTill := none }) s
      if (lane s n).sends = .idle && linkInTest s (n / 8) then backToCommas n s else s

/-- A write of `LANE_TEST` of lane `n` (R310, R311). -/
def laneTestWrite (n v : Nat) (s : State) : State :=
  let k := n / 8
  let a := Reg.LANE_TEST n
  let was := bit s a 0
  let loop := fld s a 1 2
  let on := v.testBit 0
  let moved : Bool := natField v 1 2 != loop
  if (on || moved) && !testAllowed s k then laneRefuse n s
  else
    let s := storeReg a v s
    if !laneActive s n then s
    else if on then
      let s := if was then s else sitInPriming k s
      if !was || moved then applyLoop n (modLane n (fun x => { x with farOk := false }) s) else s
    else if was then endTest loop n s
    else s

/-- LANE_TEST_WRITE. -/
def execLaneTestWrite (n : Fin 288) (v : Word) (s : State) : Res :=
  .next (onTile (n.val / 8) (fun s => settle (laneTestWrite n.val v.toNat s)) s)

/-- A write of `LANE_SQ_CTL` (R308): SEL 1 only while the lane is in test. -/
def sqCtlWrite (n v : Nat) (s : State) : State :=
  if v.testBit 0 && !laneInTest s n then laneRefuse n s else storeReg (Reg.LANE_SQ_CTL n) v s

/-- LANE_SQ_CTL_WRITE. -/
def execLaneSqCtlWrite (n : Fin 288) (v : Word) (s : State) : Res :=
  .next (onTile (n.val / 8) (sqCtlWrite n.val v.toNat) s)

/-- The checker of lane `n` runs: the lane is in test with its monitor counting PRBS (R308, R309). -/
def checking (s : State) (n : Nat) : Bool := laneInTest s n && bit s (Reg.LANE_SQ_CTL n) 0

/-- The checker of lane `n` is locked and counts (R309). -/
def counting (s : State) (n : Nat) : Bool := checking s n && bit s (Reg.LANE_PRBS_STATUS n) 0

/-- What lane `n` sends comes back to its own receiver (R310). -/
def loopedBack (s : State) (n : Nat) : Bool :=
  bit s (Reg.LANE_TEST n) 0 && (fld s (Reg.LANE_TEST n) 1 2 == 1 || fld s (Reg.LANE_TEST n) 1 2 == 2 || (lane s n).farOk)

/-- A write of `LANE_PRBS_CTL` (R309): CLR sets both counters to 0; INJ inverts one transmitted bit, which a lane that
receives its own pattern counts as an error after the clear. -/
def prbsCtlWrite (n v : Nat) (s : State) : State :=
  let was := polyOf s n
  let s := storeReg (Reg.LANE_PRBS_CTL n) v s
  let s := if laneInTest s n && bit s (Reg.LANE_TEST n) 0 && (fld s (Reg.LANE_TEST n) 1 2 == 0 || (lane s n).farOk) then
      applyPattern (polyOf s n != was) n s else s
  let s := if v.testBit 8 then setReg (Reg.LANE_PRBS_BITS n) 0 (setReg (Reg.LANE_PRBS_ERR n) 0 s) else s
  if v.testBit 9 then
    drive (.invert n) (if counting s n && loopedBack s n then bumpSat48 (Reg.LANE_PRBS_ERR n) 1 s else s)
  else s

/-- Bits of a lane in one tick of 10 ns (R290, R388). -/
def tickBits (l : Link) : Nat := 2125 / 2 ^ (3 - l.rate.toNat)

/-- A locked checker compares the bits of one tick; how many are in error is a free value (R309; assumption log 12). -/
def countBits (n : Nat) (s : State) : State :=
  if counting s n then
    let bits := tickBits (link s (n / 8))
    let (e, s) := draw s
    bumpSat48 (Reg.LANE_PRBS_ERR n) (e % (bits + 1)) (bumpSat48 (Reg.LANE_PRBS_BITS n) bits s)
  else s

/-- A lane that drives its pattern sends the bits of one tick, an even number, as symbols (R293, R309, R310). -/
def sendPattern (n : Nat) (s : State) : State :=
  if (lane s n).sends = .pattern then
    let l := link s (n / 8)
    let r := prbsBits (polyOf s n) (tickBits l / 2 * 2) (lane s n).prbs
    drive (.serial n (levels l.rate.toNat r.1)) (modLane n (fun v => { v with prbs := r.2 }) s)
  else s

/-- `LANE_PRBS_CTL` as it stands, without its commands. -/
def prbsCtlNow (s : State) (n : Nat) : Nat := fld s (Reg.LANE_PRBS_CTL n) 0 5

/-- PRBS_CLR. -/
def execPrbsClr (n : Fin 288) (s : State) : Res :=
  .next (onTile (n.val / 8) (prbsCtlWrite n.val (prbsCtlNow s n.val + 2 ^ 8)) s)

/-- PRBS_INJ. -/
def execPrbsInj (n : Fin 288) (s : State) : Res :=
  .next (onTile (n.val / 8) (prbsCtlWrite n.val (prbsCtlNow s n.val + 2 ^ 9)) s)

/-- PRBS_LOCK_GAIN (R309). -/
def execPrbsLockGain (n : Fin 288) (s : State) : Res :=
  .next (onLink (n.val / 8) (checking s n.val) (raise (Reg.LANE_PRBS_STATUS n.val) 0) s)

/-- PRBS_LOCK_LOSS (R309): the 64 errors that lost the lock were counted while it held; how many more, and how many
bits, is a free value (assumption log 12). -/
def execPrbsLockLoss (n : Fin 288) (s : State) : Res :=
  .next (onLink (n.val / 8) (counting s n.val)
    (fun s =>
      let (errs, s) := draw s
      let (bits, s) := draw s
      bump (Reg.LANE_PRBS_RELOCK n.val) (lower (Reg.LANE_PRBS_STATUS n.val) 0
        (bumpSat48 (Reg.LANE_PRBS_ERR n.val) (64 + errs)
          (bumpSat48 (Reg.LANE_PRBS_BITS n.val) (64 + errs + bits) s)))) s)

/-- LOOP_REQ: the partner asks for a far-end loop (R311): LOOP_ACK leaves, then what the lane receives. -/
def execLoopReq (n : Fin 288) (b : CtrlBlock) (s : State) : Res :=
  let k := n.val / 8
  .next (onLink k (blockIs 4 b && testAllowed s k && laneActive s n.val && bit s (Reg.LANE_TEST n.val) 4)
    (fun s => settle (setSends .retransmit n.val (sendBlock n.val 5
      (modLane n.val (fun v => { v with farServe := true }) (sitInPriming k s))))) s)

/-- LOOP_ACK: the partner retransmits (R311). -/
def execLoopAck (n : Fin 288) (b : CtrlBlock) (s : State) : Res :=
  .next (onLink (n.val / 8) (blockIs 5 b && farAsked s n.val)
    (fun s => applyPattern false n.val (modLane n.val (fun v => { v with farOk := true }) s)) s)

/-- FAR_LOOP_TIMEOUT (R311): the lane sends training frames from here. -/
def execFarLoopTimeout (n : Fin 288) (s : State) : Res :=
  .next (onLink (n.val / 8) (farAsked s n.val)
    (fun s => sendBlock n.val 1 (raise (Reg.LANE_TEST_STATUS n.val) 0 s)) s)

/-- CAL_TEMP_CHECK: every 1 ms in service, and a crossing while the lanes prime (R318, R320). -/
def execCalTempCheck (k : Fin 36) (s : State) : Res :=
  .next (onLink k.val ((link s k.val).state != .down && (link s k.val).state != .failed) (checkStale k.val false) s)

/-! ### The tick (R309, R388) -/

/-- What happens in 10 ns to a lane: its checker compares bits, its generator sends, its electrical idle may end. -/
def tickLane (n : Nat) (s : State) : State := endIdle n (sendPattern n (countBits n s))

/-- What happens in 10 ns whatever is commanded: the clock counts, lanes in test go on, and awake transmitters complete
their frames (assumption log 1). -/
def tick (s : State) : State :=
  let s : State := { s with now := s.now + 1 }
  each s.links.keys completeFrame (each s.lanes.keys tickLane s)

end Sys2Proof.Machine
end

