-- ==== Sys2Proof/Machine/Events.lean ====
section
/-!
DEFINITION. Machine/Events.lean: the keeper's event ring, coalescing and relay (R387 to R393).
-/

namespace Sys2Proof.Machine

/-- `MGT_EVT_PROD`. -/
def evtProd (s : State) : Nat := fld s Reg.MGT_EVT_PROD 0 32

/-- Entries of the ring that software has not consumed (R389, R450). -/
def ringHeld (s : State) : Nat := (s.keeper.next + 2 ^ 32 - fld s Reg.MGT_EVT_CONS 0 32) % 2 ^ 32

/-- Keeper state changed by `f`. -/
def modKeeper (f : Keeper → Keeper) (s : State) : State := { s with keeper := f s.keeper }

/-- Entries go to the host ring one at a time while `MGT_EVT_CTL.EN` and master enable are 1, and wait while master enable
is 0; they stay in the keeper where copying is off. `MGT_EVT_PROD` follows (R389). -/
def hostSteps : Nat → State → State
  | 0, s => s
  | fuel + 1, s =>
    let i := evtProd s
    if s.keeper.hostBusy || i = s.keeper.next % 2 ^ 32 then s
    else if bit s Reg.MGT_EVT_CTL 0 then
      match s.keeper.ring.find (i % 4096) with
      | some e =>
        let pa := fld s Reg.MGT_EVT_BASE 12 36 * 4096 + 32 * (i % 4096)
        if !(masterEn s && coreUp s) then s
        else issueAll (writeMem (.event i) [⟨pa, 0, allBytes (clean e.bytes)⟩] false none
          (modKeeper (fun k => { k with hostBusy := true }) s))
      | none => hostSteps fuel (setReg Reg.MGT_EVT_PROD (BitVec.ofNat 64 ((i + 1) % 2 ^ 32)) s)
    else hostSteps fuel (setReg Reg.MGT_EVT_PROD (BitVec.ofNat 64 ((i + 1) % 2 ^ 32)) s)

/-- Entries that wait go to the host ring. -/
def hostStep (s : State) : State := hostSteps 4096 s

/-- The host ring's write of entry `i` has been accepted. -/
def eventCopied (i : Nat) (s : State) : State :=
  if s.keeper.hostBusy && evtProd s == i then
    hostStep (setReg Reg.MGT_EVT_PROD (BitVec.ofNat 64 ((i + 1) % 2 ^ 32))
      (modKeeper (fun k => { k with hostBusy := false, toCopy := k.toCopy.filter fun j => j != i }) s))
  else s

/-- An entry is written to the ring, or dropped (R389, R390): the last 16 entries are kept for FATAL events. The answer
says whether it was written. -/
def writeEntry (e : Event) (s : State) : Bool × State :=
  let limit := if e.cls = 3 then 4096 else 4080
  if limit ≤ ringHeld s then
    (false, modKeeper (fun k => { k with lostNote := true })
      (raise Reg.MGT_EVT_STATUS 1 (bump Reg.MGT_EVT_LOST s)))
  else
    let i := s.keeper.next % 2 ^ 32
    let s := modKeeper (fun k => { k with next := (k.next + 1) % 2 ^ 32, toCopy := k.toCopy ++ [i],
                                          ring := k.ring.set (i % 4096) e }) s
    let s := if fld s Reg.MGT_EVT_CTL 4 2 ≤ e.cls.toNat then raise Reg.MGT_EVT_STATUS 0 s else s
    (true, hostStep s)

/-- An entry that is not a summary is relayed to the collector (R393). -/
def relay (e : Event) (s : State) : State :=
  let dest := fld s Reg.MGT_RELAY_CTL 8 8
  if bit s Reg.MGT_RELAY_CTL 0 && !e.summary && dest != (ownId s).toNat
      && (fld s Reg.MGT_RELAY_CTL 4 2 ≤ e.cls.toNat || e.cls = 3) then
    inject 2 { blankPacket with ptype := tMEVT, vc := 6, src := ownId s, dst := BitVec.ofNat 8 dest, len := 32,
                                payload := e.bytes } s
  else s

/-- An entry is written and relayed. -/
def publish (e : Event) (s : State) : State :=
  match writeEntry e s with
  | (true, s) => relay e s
  | (false, s) => s

/-- The open slot of an event's pair (R392). -/
def slotFor (s : State) (cause : BitVec 16) (node : NodeId) : Option CoalSlot :=
  s.keeper.coal.find? fun c => c.cause == cause && c.node == node

/-- A slot replaced. -/
def setSlot (c : CoalSlot) (s : State) : State :=
  modKeeper (fun k => { k with
    coal := k.coal.map fun x => if x.cause == c.cause && x.node == c.node then c else x }) s

/-- An event passes through coalescing (R392). -/
def coalesce (e : Event) (s : State) : State :=
  if e.cls = 3 then publish e s
  else match slotFor s e.cause e.node with
    | some c => setSlot { c with count := c.count + 1, last := e } s
    | none =>
      if s.keeper.coal.length < 512 then
        publish e (modKeeper (fun k => { k with coal := k.coal ++ [⟨e.cause, e.node, 0, e⟩] }) s)
      else raise Reg.MGT_EVT_STATUS 2 (publish e s)

/-- A loss is reported once the ring has room (R389). -/
def reportLoss (s : State) : State :=
  if s.keeper.lostNote && ringHeld s < 4080 then
    postOwn 0x0906 0 (fld s Reg.MGT_EVT_LOST 0 32) (modKeeper (fun k => { k with lostNote := false }) s)
  else s

/-- KEEPER_EVENT_COPY: the keeper takes the oldest event of the core's queue (R387). -/
def execKeeperEventCopy (s : State) : Res :=
  .next (onlyIf (keeperRuns s && coreUp s)
    (fun s => match s.evq with
      | [] => s
      | e :: rest => settle (reportLoss (coalesce e { s with evq := rest }))) s)

/-- COALESCE_HOLDDOWN_EXPIRY: the slot closes, or writes a summary and holds down again (R392). -/
def execCoalesceHolddownExpiry (cause : BitVec 16) (node : NodeId) (s : State) : Res :=
  .next (onlyIf (keeperRuns s)
    (fun s => match slotFor s cause node with
      | none => s
      | some c =>
        if c.count = 0 then
          modKeeper (fun k => { k with coal := k.coal.filter fun x => !(x.cause == cause && x.node == node) }) s
        else
          let e : Event := { c.last with summary := true, count := BitVec.ofNat 32 c.count }
          settle (publish e (setSlot { c with count := 0 } s))) s)

/-- The event that 32 bytes spell (R388). -/
def parseEvent (bs : List Byte) : Event :=
  let w : Nat → Nat := fun i => sliceNat bs (4 * i) 4
  { cls := BitVec.ofNat 2 (natField (w 0) 30 2), summary := (w 0).testBit 29, relayed := (w 0).testBit 28,
    cause := BitVec.ofNat 16 (w 0), node := BitVec.ofNat 8 (w 1), reporter := BitVec.ofNat 8 (natField (w 1) 8 8),
    part := BitVec.ofNat 8 (natField (w 1) 16 8), count := BitVec.ofNat 32 (w 2), index := BitVec.ofNat 16 (w 3),
    time := BitVec.ofNat 64 (sliceNat bs 16 8), data := BitVec.ofNat 64 (sliceNat bs 24 8) }

/-- MEVT: the collector takes a relayed event (R393). -/
def execMevt (p : Packet) (s : State) : Res :=
  .next (onlyIf (coreUp s && keeperRuns s && p.ptype == tMEVT)
    (fun s =>
      let e : Event := { parseEvent (fit 32 p.payload) with relayed := true, reporter := p.src }
      let s := takeEjected p s
      if p.abt then s else settle (coalesce e s)) s)

/-- A write of `MGT_EVT_CONS` frees the entries before it (R389). -/
def evtConsWrite (v : Nat) (s : State) : State :=
  reportLoss (modKeeper (fun k => { k with toCopy := k.toCopy.filter fun i => !serialAfter 32 v i })
    (storeReg Reg.MGT_EVT_CONS v s))

/-- EVT_CONS_WRITE. -/
def execEvtConsWrite (v : Word) (s : State) : Res := .next (onlyIf (coreUp s) (evtConsWrite v.toNat) s)

/-- A calibration command ends with a cause (R406). -/
def calEnd (cause : Nat) (s : State) : State := raise Reg.MGT_CAL_STATUS 4 (setFld Reg.MGT_CAL_STATUS 8 4 cause s)

/-- A firmware command ends with a cause (R399). -/
def fwEnd (cause : Nat) (s : State) : State := raise Reg.MGT_FW_STATUS 4 (setFld Reg.MGT_FW_STATUS 8 4 cause s)

/-- The keeper reads an image that `MASTER_EN` no longer lets it read: its command ends (R399, R406). -/
def imageLost (s : State) : State :=
  let s := if fwBusy s then fwEnd 5 s else s
  if calReads s then calEnd 4 s else s

end Sys2Proof.Machine
end

