-- ==== Sys2Proof/Machine/Keeper.lean ====
section
/-!
DEFINITION. Machine/Keeper.lean: what keeper firmware does to the links: steering, throttling, retrains and sleep times
within the bounds of its policy (R371, R376 to R383), and the margins it watches (R319).
-/

namespace Sys2Proof.Machine

/-! ### Exclusion (R222, R231, R371, R379, R381) -/

/-- The links that the keeper excludes, for their margin or because their tile is throttled: none while
`MGT_STEER_CTL.EN` is 0 (R378, R379). -/
def keeperExcluded (s : State) : List Nat :=
  if bit s Reg.MGT_STEER_CTL 0 then
    (List.range 36).filter fun k => s.keeper.steered.contains k || (s.keeper.throttle.find k).isSome
  else []

/-- A mask of a list of bit numbers. -/
def maskOf (l : List Nat) : Nat := l.foldl setBit 0

/-- The ports of which every usable link is excluded (R381). -/
def shutPorts (s : State) (ex : List Nat) : List Nat :=
  (List.range 16).filter fun p => portUp s p false && (usableLinks s p false).all fun k => ex.contains k

/-- The keeper's exclusions are written (R381): its links' bits of `FAB_LPORT_LINK_EXCL`, and `ADP_EXCL` of ports it
shuts; `MGT_STEER_STATUS` shows them. Bits that it did not set stay. -/
def applyExclusion (s : State) : State :=
  let old := (reg s Reg.MGT_STEER_STATUS).toNat
  let ex := keeperExcluded s
  let ports := shutPorts s ex
  let links := bitsOf 36 (reg s Reg.FAB_LPORT_LINK_EXCL).toNat
  let kept := links.filter fun k => !old.testBit k
  let s := if coreUp s then
      setReg Reg.FAB_LPORT_LINK_EXCL (BitVec.ofNat 64 (maskOf (kept ++ ex)))
        (each (List.range 16)
          (fun p s =>
            if ports.contains p then exclPort p s
            else if old.testBit (48 + p) then lower (Reg.FAB_LPORT_CTL p) 8 s
            else s) s)
    else s
  setReg Reg.MGT_STEER_STATUS (BitVec.ofNat 64 (maskOf ex + 2 ^ 48 * maskOf ports)) s

/-- The vertical margin that the worst active lane of link `k` shows (R319). -/
def worstMargin (s : State) (k : Nat) : Nat :=
  (leastOf ((activeLanes s k).map fun n => fld s (Reg.LANE_MARGIN n) 0 16)).getD 0

/-- `LNK_FEC_UNCORR_CW` of link `k` has risen by more than UNCORR_MAX within the last 1 ms (R381). -/
def noisy (s : State) (k : Nat) : Bool := uncorrMax s < (uncorrNow s k).length

/-- There has been no such rise for 100 ms (R381). -/
def quietLong (s : State) (k : Nat) : Bool :=
  !noisy s k && match (link s k).noisyAt with | some t => decide (t + 10000000 ≤ s.now) | none => true

/-- The links that the keeper excludes for their quality once it has looked at link `k` (R381). That a margin has held for
its time is what the command says (assumption log 36). -/
def steeredNow (s : State) (k : Nat) : List Nat :=
  let low := fld s Reg.MGT_STEER_CTL 8 7
  let m := worstMargin s k
  let out := s.keeper.steered.contains k
  if !out && (m < low || noisy s k) then k :: s.keeper.steered
  else if out && low + 3 ≤ m && quietLong s k then s.keeper.steered.filter fun j => j != k
  else s.keeper.steered

/-- KEEPER_STEER: the keeper looks at link `k` and excludes it or includes it again (R381). -/
def steer (k : Nat) (s : State) : State := applyExclusion (modKeeper (fun x => { x with steered := steeredNow s k }) s)

/-- KEEPER_STEER. -/
def execKeeperSteer (k : Fin 36) (s : State) : Res :=
  .next (onLink k.val (keeperRuns s && bit s Reg.MGT_STEER_CTL 0) (fun s => settle (steer k.val s)) s)

/-! ### Limits and throttling (R369, R371) -/

/-- The core's reading: the highest of its sensors (R369). -/
def coreTemp (s : State) : Int :=
  match s.rst.sensors.cores with
  | [] => 0
  | t :: ts => ts.foldl max t

/-- The VLINK readings of the tiles, their least and greatest. -/
def vlinkSpread (s : State) : Nat × Nat :=
  ((leastOf s.rst.sensors.vlink).getD 0, s.rst.sensors.vlink.foldl max 0)

/-- The junction of tile `k` reads more than `x`, in 0.25 °C. -/
def junctionOver (s : State) (k : Nat) (x : Int) : Bool := x < tileTemp s k

/-- Tile `k` reads more than `x` above an adjacent tile. -/
def adjacentOver (s : State) (k : Nat) (x : Int) : Bool :=
  (0 < k && x < tileTemp s k - tileTemp s (k - 1)) || (k < 35 && x < tileTemp s k - tileTemp s (k + 1))

/-- Tile `k` and the core differ by more than `x`. -/
def coreOver (s : State) (k : Nat) (x : Int) : Bool := x < (tileTemp s k - coreTemp s).natAbs

/-- Tile `k` passes a limit of temperature: `j` for the junction, `a` against an adjacent tile, `c` against the core. -/
def tempPasses (s : State) (k : Nat) (j a c : Int) : Bool := junctionOver s k j || adjacentOver s k a || coreOver s k c

/-- Distance of tile `k`'s VLINK from nominal, 750 mV (R367). -/
def vlinkOff (s : State) (k : Nat) : Nat := ((s.rst.sensors.vlink.getD k 750 : Int) - 750).natAbs

/-- Tile `k`'s VLINK lies outside the range of R367. -/
def vlinkOutside (s : State) (k : Nat) : Bool :=
  let v := 10 * s.rst.sensors.vlink.getD k 750
  v < 7275 || 7725 < v

/-- Tile `k`'s VLINK differs by more than 45 mV from another tile's. -/
def vlinkFar (s : State) (k : Nat) : Bool :=
  (List.range 36).any fun j =>
    45 < ((s.rst.sensors.vlink.getD k 750 : Int) - (s.rst.sensors.vlink.getD j 750 : Nat)).natAbs

/-- Tile `k`'s VLINK lies outside its range, or it is the further from nominal of two tiles whose VLINK differs by more
than 45 mV (R369, R371). -/
def vlinkPasses (s : State) (k : Nat) : Bool :=
  let r := vlinkSpread s
  vlinkOutside s k || 45 < r.2 - r.1 && (s.rst.sensors.vlink.getD k 750 = r.1 || s.rst.sensors.vlink.getD k 750 = r.2)
    && (List.range 36).all fun j => vlinkOff s j ≤ vlinkOff s k

/-- A reading of tile `k` passes the limit in row `i` of R369's table: junction, adjacent tile, core, VLINK. -/
def passesRow (s : State) (k : Nat) : Nat → Bool
  | 0 => junctionOver s k 420
  | 1 => adjacentOver s k 120
  | 2 => coreOver s k 160
  | 3 => vlinkPasses s k
  | _ => false

/-- The reading of row `i` has not reached the value at which throttling ends (R369). -/
def holdsRow (s : State) (k : Nat) : Nat → Bool
  | 0 => junctionOver s k 400
  | 1 => adjacentOver s k 100
  | 2 => coreOver s k 140
  | 3 => vlinkOutside s k || vlinkFar s k
  | _ => false

/-- The limits of R369 that readings of tile `k` pass. -/
def limitsPassed (s : State) (k : Nat) : List Nat := (List.range 4).filter (passesRow s k)

/-- A reading of tile `k` passes a limit (R369). -/
def passesLimit (s : State) (k : Nat) : Bool := !(limitsPassed s k).isEmpty

/-- Every reading of tile `k` that passed its limit has reached the end of throttling (R369, R371). -/
def recovered (s : State) (k : Nat) : Bool := (s.keeper.limits.get k [] ++ limitsPassed s k).all fun i => !holdsRow s k i

/-- The limits that a throttled tile's readings pass now are remembered (R371). -/
def noteLimits (k : Nat) (s : State) : State :=
  modKeeper (fun x => { x with limits := x.limits.set k (x.limits.get k [] ++ limitsPassed s k).eraseDups }) s

/-- KEEPER_THROTTLE: the link of a tile whose reading passes a limit leaves its port's spread (R371). -/
def execKeeperThrottle (tile : Fin 36) (s : State) : Res :=
  let k := tile.val
  .next (onLink k (keeperRuns s && bit s Reg.MGT_THERM_CTL 0 && passesLimit s k && (link s k).state == .active
      && (s.keeper.throttle.find k).isNone)
    (fun s => settle (applyExclusion (noteLimits k (modKeeper (fun x => { x with throttle := x.throttle.set k 0 }) s)))) s)

/-- Throttling of tile `k` is undone (R371). -/
def unthrottle (k : Nat) (s : State) : State :=
  let s := if s.keeper.throttle.get k 0 = 0 then s else dutyCtlWrite k 0 s
  applyExclusion (modKeeper (fun x => { x with throttle := x.throttle.erase k, limits := x.limits.erase k }) s)

/-- THROTTLE_DUTY_STEP: while the limit is still passed the duty rises one step; both steps are undone once every
reading that passed a limit has recovered (R371). -/
def dutyStep (k : Nat) (s : State) : State :=
  match s.keeper.throttle.find k with
  | none => s
  | some d =>
    let s := noteLimits k s
    if recovered s k then unthrottle k s
    else if passesLimit s k && bit s Reg.MGT_THERM_CTL 0 then
      let n := min (d + 1) (fld s Reg.MGT_THERM_CTL 4 3)
      dutyCtlWrite k n (modKeeper (fun x => { x with throttle := x.throttle.set k n }) s)
    else s

/-- THROTTLE_DUTY_STEP. -/
def execThrottleDutyStep (tile : Fin 36) (s : State) : Res :=
  .next (onLink tile.val (keeperRuns s) (fun s => settle (dutyStep tile.val s)) s)

/-! ### Sleep times (R380) -/

/-- Links of a port by falling margin, the lowest number first among equals. -/
def byMargin (s : State) (ks : List Nat) : List Nat := sortBy (fun k => 65536 - worstMargin s k) ks

/-- Link `k` is one of the ACTIVE ones that the keeper keeps awake in their port (R378, R380). -/
def keptAwake (s : State) (k : Nat) : Bool :=
  match portOfLink s k with
  | none => false
  | some p => ((byMargin s ((portLinks s p).filter fun j => (link s j).state == .active)).take (fld s Reg.MGT_SLEEP_CTL 32 6)).contains k

/-- An idle time adapted to the wakes per second: doubled above 1,000, halved below 100, never under its bound (R380;
the step is the model's choice, assumption log 13). -/
def tuneIdle (now_ least_ most wakes : Nat) : Nat :=
  let t := if 1000 < wakes then 2 * now_ else if wakes < 100 then now_ / 2 else now_
  min most (max least_ t)

/-- The keeper's value of `LNK_SLEEP_CFG` for link `k` (R380). -/
def sleepCfgFor (s : State) (k wakes : Nat) : Nat :=
  let c := (reg s (Reg.LNK_SLEEP_CFG k)).toNat
  let doze := tuneIdle (natField c 0 12) (fld s Reg.MGT_SLEEP_CTL 2 12) 4095 wakes
  let drain := tuneIdle (natField c 12 18) (fld s Reg.MGT_SLEEP_CTL 14 18) 262143 wakes
  let en := bit s Reg.MGT_SLEEP_CTL 0 && !keptAwake s k
  doze + 2 ^ 12 * drain + 2 ^ 30 * bitOf en + 2 ^ 31 * bitOf (!bit s Reg.MGT_SLEEP_CTL 1)

/-- KEEPER_SLEEP_TUNE. -/
def execKeeperSleepTune (k : Fin 36) (wakesPerSecond : Nat) (s : State) : Res :=
  .next (onLink k.val (keeperRuns s) (fun s => sleepCfgWrite k.val (sleepCfgFor s k.val wakesPerSecond) s) s)

/-! ### Policy (R378, R379) -/

/-- The keeper brings its own actions within the bounds of its policy (R379). -/
def keeperBounds (s : State) : State :=
  if !keeperRuns s || !coreUp s then s
  else
    let s := if bit s Reg.MGT_STEER_CTL 0 then s else modKeeper (fun x => { x with steered := [] }) s
    let s := if bit s Reg.MGT_THERM_CTL 0 then
        each s.keeper.throttle.keys
          (fun k s =>
            let most := fld s Reg.MGT_THERM_CTL 4 3
            if most < s.keeper.throttle.get k 0 then
              dutyCtlWrite k most (modKeeper (fun x => { x with throttle := x.throttle.set k most }) s)
            else s) s
      else each s.keeper.throttle.keys unthrottle s
    let s := applyExclusion s
    let outside : Nat → Bool := fun k =>
      tileUp s k && (sleepEn s k && (!bit s Reg.MGT_SLEEP_CTL 0 || keptAwake s k
        || fld s (Reg.LNK_SLEEP_CFG k) 0 12 < fld s Reg.MGT_SLEEP_CTL 2 12
        || fld s (Reg.LNK_SLEEP_CFG k) 12 18 < fld s Reg.MGT_SLEEP_CTL 14 18
        || (!bit s Reg.MGT_SLEEP_CTL 1 && !bit s (Reg.LNK_SLEEP_CFG k) 31)))
    each ((List.range 36).filter outside) (fun k s => sleepCfgWrite k (sleepCfgFor s k 500) s) s

/-! ### Retrains (R382, R383) -/

/-- `MGT_MARGIN_CTL.FLOOR`. -/
def marginFloor (s : State) : Nat := fld s Reg.MGT_MARGIN_CTL 8 6

/-- KEEPER_MARGIN_RETRAIN (R382). -/
def execKeeperMarginRetrain (n : Fin 288) (s : State) : Res :=
  let k := n.val / 8
  .next (onLink k (keeperRuns s && bit s Reg.MGT_MARGIN_CTL 0 && (activeLanes s k).contains n.val
      && fld s (Reg.LANE_MARGIN n.val) 0 16 < marginFloor s && (recentStarts s k).isEmpty)
    (fun s => settle (retrainWrite 2 k s)) s)

/-- KEEPER_STALE_RETRAIN (R383). -/
def execKeeperStaleRetrain (k : Fin 36) (s : State) : Res :=
  .next (onLink k.val (keeperRuns s && bit s Reg.MGT_CAL_CTL 0 && isStale s k.val && (recentStarts s k.val).isEmpty)
    (fun s => settle (retrainWrite 2 k.val s)) s)

/-! ### Margins (R319) -/

/-- A code moved by at most `most` either way, by a free value, within its range. -/
def drift (most : Nat) (r : Int × Int) (x : Int) (s : State) : Int × State :=
  let d := draw s
  (clampTo r (x + ((d.1 % (2 * most + 1) : Nat) : Int) - most), d.2)

/-- Adaptation goes on for 100 µs (R319): DFE by at most 10 codes a tap, CTLE by at most one code in ten such periods. -/
def adaptLane (n : Nat) (s : State) : State :=
  let v := lane s n
  let e := v.eq
  let most := if 10 ≤ v.ctleAge then 1 else 0
  let (p, s) := drift most (0, 31) e.peak s
  let (g, s) := drift most (0, 15) e.gain s
  let (a, s) := drift 10 (-32, 31) (e.dfe.getD 0 0) s
  let (b, s) := drift 10 (-32, 31) (e.dfe.getD 1 0) s
  let (c, s) := drift 10 (-32, 31) (e.dfe.getD 2 0) s
  modLane n (fun v => { v with eq := { v.eq with peak := p, gain := g, dfe := [a, b, c] },
                               ctleAge := if p = e.peak && g = e.gain then v.ctleAge + 1 else 1 }) s

/-- In service a lane may ask its partner for other taps once in 100 µs, while `LANE_CTL.SVC_REQ_EN` is 1 (R301). -/
def askInService (n : Nat) (s : State) : State :=
  if (link s (n / 8)).state = .active && bit s (Reg.LANE_CTL n) 0 then askTaps true n s else s

/-- MARGIN_UPDATE: an active lane whose receive direction is awake shows its margins, and has adapted. -/
def execMarginUpdate (n : Fin 288) (vert horz : BitVec 16) (s : State) : Res :=
  let k := n.val / 8
  .next (onLink k ((activeLanes s k).contains n.val && !(link s k).rxSleep)
    (fun s => setReg (Reg.LANE_MARGIN n.val) (BitVec.ofNat 64 (vert.toNat + 2 ^ 16 * horz.toNat))
      (askInService n.val (adaptLane n.val s))) s)

end Sys2Proof.Machine
end

