-- ==== Sys2Proof/Machine/Firmware.lean ====
section
/-!
DEFINITION. Machine/Firmware.lean: watchdog and restart (R384, R385), firmware banks and commands (R396 to R402), and the
calibration store (R403 to R406).
-/

namespace Sys2Proof.Machine

/-! ### Key store (R326, R327) -/

/-- The security unit changed by `f`. -/
def modSec (f : Security → Security) (s : State) : State := { s with sec := f s.sec }

/-- A key put into a slot. -/
def setKey (i : Nat) (k : List Byte) (s : State) : State := modSec (fun x => { x with keys := x.keys.set i k }) s

/-- The fuse values in force. -/
def fuseView (s : State) : Fuses := s.shadow.getD s.fuses

/-- A management bundle as the flash holds it: with a CRC-32C after it (R396; its place is the model's choice, assumption
log 48). -/
def sealBundle (data : List Byte) : List Byte := data ++ leBytes 4 (crc32c data).toNat

/-- The management bundle of the flash; one that fails its CRC is absent (R396). -/
def bundleOf (s : State) : List Byte :=
  let d := s.flash.bundle.take (s.flash.bundle.length - 4)
  if sealBundle d = s.flash.bundle then d else []

/-- The device keys are derived (R326); slot 2 again from the stored salt (R348), but not while debug access has been
opened (R347). -/
def deriveKeys (s : State) : State :=
  let f := fuseView s
  let s := setKey 0 (Config.deviceKey f.secret 0) (setKey 1 (Config.deviceKey f.secret 1) s)
  if (bundleOf s).isEmpty || s.sec.openBit then s
  else setKey 2 (Config.managementKey f.secret ((bundleOf s).take 32)) s

/-! ### Banks (R397, R398) -/

/-- A bank of the flash: A, or B. -/
def bankOf (s : State) (b : Bool) : Bank := if b then s.flash.bankB else s.flash.bankA

/-- A bank replaced. -/
def setBank (b : Bool) (v : Bank) (s : State) : State :=
  { s with flash := if b then { s.flash with bankB := v } else { s.flash with bankA := v } }

/-- The set values of the state page's markers (R397). -/
abbrev markVERIFIED : Word := 0x56455249
abbrev markACTIVE : Word := 0x41435456
abbrev markCONFIRMED : Word := 0x434F4E46
abbrev markRETIRED : Word := 0x52455449

/-- The anti-rollback counter: programmed bits of the ARB row (R426). -/
def rollback (s : State) : Nat := popcount 64 s.fuses.arb

/-- A bank's SEQ pair is valid. -/
def Bank.seqOk (b : Bank) : Bool := b.seqN == ~~~b.seq

/-- The manifest's signature and the image's digest verify (R397). -/
def Bank.sound (b : Bank) : Bool :=
  Config.firmwareSigned b.manifest
    && Config.sha384 (b.image.take (Config.manifestLength b.manifest)) == Config.manifestDigest b.manifest

/-- A bank is good (R398). -/
def Bank.good (b : Bank) (counter : Nat) : Bool :=
  b.seqOk && b.verified == markVERIFIED && b.retired != markRETIRED && b.sound
    && counter ≤ Config.manifestSvn b.manifest

/-- A good bank on trial. -/
def Bank.onTrial (b : Bank) (counter : Nat) : Bool :=
  b.good counter && b.active == markACTIVE && b.confirmed != markCONFIRMED

/-- A good bank that is confirmed. -/
def Bank.isConfirmed (b : Bank) (counter : Nat) : Bool := b.good counter && b.confirmed == markCONFIRMED

/-- Of the banks that meet `p`, the one with the newest SEQ (R398). -/
def newest (s : State) (p : Bank → Bool) : Option Bool :=
  match p (bankOf s false), p (bankOf s true) with
  | false, false => none
  | true, false => some false
  | false, true => some true
  | true, true => some (serialAfter 32 (bankOf s true).seq.toNat (bankOf s false).seq.toNat)

/-- Trial boots used: zero bits of TRIAL_BOOTS (R398). -/
def Bank.bootsUsed (b : Bank) : Nat := 3 - popcount 3 b.trialBoots.toNat

/-- The next TRIAL_BOOTS bit programmed to 0. -/
def Bank.countBoot (b : Bank) : Bank := { b with trialBoots := b.trialBoots &&& (b.trialBoots - 1) }

/-- A fuse row of `w` bits with its lowest blank bits programmed until `n` bits are: none is cleared (R426). -/
def programTo (w n row : Nat) : Nat :=
  (List.range w).foldl (fun r i => if popcount w r < n then setBit r i else r) row

/-- The fuse array, and the shadow of it where it is loaded, changed by `f`. -/
def modFuses (f : Fuses → Fuses) (s : State) : State := { s with fuses := f s.fuses, shadow := s.shadow.map f }

/-- The anti-rollback counter raised to a security version, if it is lower (R402). -/
def raiseRollback (svn : Nat) (s : State) : State :=
  if rollback s < svn then modFuses (fun x => { x with arb := programTo 64 svn x.arb }) s else s

/-- Whether an erase or program of the flash fails, or reads back wrong (R399, R406): a free choice (assumption log
35). -/
def flashFails (s : State) : Bool × State := choose s

/-- The trial bank that R398 finds: newer than every confirmed one. -/
def trialBank (s : State) : Option Bool :=
  let c := rollback s
  match newest s fun b => b.onTrial c with
  | none => none
  | some t =>
    match newest s fun b => b.isConfirmed c with
    | none => some t
    | some x => if serialAfter 32 (bankOf s t).seq.toNat (bankOf s x).seq.toNat then some t else none

/-! ### The calibration store (R403 to R405) -/

/-- The CRC and COMMIT of a calibration image (R403). -/
def calSeal (body : List Byte) : List Byte :=
  fit 4736 body ++ leBytes 4 (crc32c (fit 4736 body)).toNat ++ leBytes 4 0x5A3CC3A5

/-- Every delta of an image lies within R316. -/
def deltasOk (im : List Byte) : Bool :=
  (List.range 288).all fun n => (List.range 12).all fun i =>
    ((userDeltas im n).getD i 0).natAbs ≤ (deltaRanges.getD i 0).toNat

/-- MAGIC, FORMAT, STEPPING, the serial and the deltas of a calibration image hold (R404). -/
def calBodyOk (s : State) (im : List Byte) : Bool :=
  sliceNat im 0 4 == 0x4B43414C && sliceNat im 4 2 == 1 && im.getD 6 0 == 0xB0
    && sliceNat im 16 8 == (fuseView s).serial.toNat && deltasOk im

/-- A calibration slot is valid (R404). -/
def calValid (s : State) (im : List Byte) : Bool :=
  calBodyOk s im && sliceNat im 4736 4 == (crc32c (im.take 4736)).toNat && sliceNat im 4740 4 == 0x5A3CC3A5

/-- A calibration slot of the flash. -/
def calSlot (s : State) (b : Bool) : List Byte := if b then s.flash.cal1 else s.flash.cal0

/-- A calibration slot written. -/
def setCal (b : Bool) (im : List Byte) (s : State) : State :=
  { s with flash := if b then { s.flash with cal1 := im } else { s.flash with cal0 := im } }

/-- The slot that the keeper presents: of the valid ones, that with the newer SEQ (R404). -/
def choosePresented (s : State) : Option Bool :=
  match calValid s s.flash.cal0, calValid s s.flash.cal1 with
  | false, false => none
  | true, false => some false
  | false, true => some true
  | true, true => some (serialAfter 32 (sliceNat s.flash.cal1 8 4) (sliceNat s.flash.cal0 8 4))

/-- The keeper checks both slots at its boot (R404); an erased slot holds nothing and is not reported. -/
def checkSlots (s : State) : State :=
  let s := modKeeper (fun k => { k with presented := choosePresented s }) s
  each [false, true]
    (fun b s => if (calSlot s b).isEmpty || calValid s (calSlot s b) then s else postOwn 0x0905 (bitOf b) 0 s) s

/-- A store starts (R405): the slot not presented is erased and its body written; CRC and COMMIT follow. -/
def startStore (body : List Byte) (byCmd : Bool) (s : State) : State :=
  let slot := match s.keeper.presented with
    | some b => !b
    | none => false
  let seq := match s.keeper.presented with
    | some b => sliceNat (calSlot s b) 8 4 + 1
    | none => 1
  let body := (fit 4736 body).take 8 ++ leBytes 4 seq ++ (fit 4736 body).drop 12
  modKeeper (fun k => { k with store := some ⟨slot, calSeal body, byCmd⟩ }) (setCal slot body s)

/-- The end of a store (R405): CRC and COMMIT are written, and the new slot is presented; where the flash fails, the slot
stays without them, and the previous one in use. A command that asked for the store ends (R406). -/
def endStore (c : CalStore) (s : State) : State :=
  let r := flashFails s
  let s := modKeeper (fun k => { k with store := none }) r.2
  let s := if r.1 then s
    else postOwn 0x0904 (bitOf c.slotB) 0 (modKeeper (fun k => { k with
      presented := some c.slotB, lastStore := some s.now }) (setCal c.slotB c.image s))
  if c.byCmd then calEnd (if r.1 then 3 else 0) s else s

/-- CAL_STORE_DONE. -/
def execCalStoreDone (s : State) : Res :=
  match s.keeper.store with
  | some c => .next (onlyIf (keeperRuns s) (endStore c) s)
  | none => .next s

/-- A store may not start before MIN_GAP has passed since the last (R378). -/
def gapForbids (s : State) : Bool :=
  match s.keeper.lastStore with
  | some t => s.now < t + fld s Reg.MGT_CAL_CTL 15 17 * 100000000
  | none => false

/-- A user delta: the adapted value less the factory value, within its range (R316, R406). -/
def captureLane (s : State) (n : Nat) : List Byte :=
  let v := lane s n
  let fac := factoryVals s n
  let thr := match s.regs.find (Reg.LANE_LOS_CFG n) with
    | some w => 5 * w.toNat
    | none => 5 * (v.losCode.getD (losFactory s n))
  let vals := v.taps ++ [v.eq.peak, v.eq.gain] ++ v.eq.dfe ++ [(thr : Int), v.eq.term]
  let ds := (List.range 12).map fun i =>
    let r := deltaRanges.getD i 0
    BitVec.ofInt 8 (clampTo (-r, r) (vals.getD i 0 - fac.getD i 0))
  ds ++ [1, 0, 0, 0]

/-- The image of a capture (R403, R406), without SEQ, CRC and COMMIT: every lane of the ACTIVE links and their tiles as
they are now, the others as the presented slot has them. -/
def captureImage (s : State) : List Byte :=
  let old := fit 4736 ((presentedCal s).getD [])
  let on : Nat → Bool := fun k => (link s k).state == .active
  let head := leBytes 4 0x4B43414C ++ leBytes 2 1 ++ [0xB0, 0] ++ zeros 8
    ++ leBytes 8 (fuseView s).serial.toNat ++ zeros 8
  let temps := (List.range 36).flatMap fun t =>
    if on t then leBytes 2 (half (tileTemp s t)) else slice old (32 + 2 * t) 2
  let lanes := (List.range 288).flatMap fun n =>
    if on (n / 8) then captureLane s n else slice old (128 + 16 * n) 16
  head ++ temps ++ zeros 24 ++ lanes

/-- A capture starts its store (R406). -/
def startCapture (byCmd : Bool) (s : State) : State := startStore (captureImage s) byCmd s

/-- The last retrain start of link `k`. -/
def lastStart (s : State) (k : Nat) : Option Nat := (link s k).starts.getLast?

/-- Link `k` has been retrained since it began to show STALE, and has not been captured since that retrain (R383). -/
def staleRetrained (s : State) (k : Nat) : Bool :=
  match lastStart s k, (link s k).staleAt with
  | some t, some u => u ≤ t && s.keeper.captured.find k != some t
  | _, _ => false

/-- A STALE link that has been retrained is ACTIVE with every active lane at or above FLOOR, and is to be captured
(R383). -/
def captureDue (s : State) (k : Nat) : Bool :=
  (link s k).state == .active && isStale s k && staleRetrained s k && marginFloor s ≤ worstMargin s k

/-- A store is under way, or an IMPORT reads what it will store. -/
def storing (s : State) : Bool := s.keeper.store.isSome || calReads s

/-- KEEPER_CAL_CAPTURE (R383). -/
def execKeeperCalCapture (s : State) : Res :=
  let ks := (List.range 36).filter (captureDue s)
  .next (onlyIf (coreUp s && keeperRuns s && bit s Reg.MGT_CAL_CTL 0 && !ks.isEmpty && !storing s
      && !gapForbids s)
    (fun s => startCapture false (modKeeper (fun x => { x with
      captured := ks.foldl (fun t k => t.set k ((lastStart s k).getD 0)) x.captured }) s)) s)

/-- The keeper takes calibration commands. -/
def calReady (s : State) : Bool := coreUp s && keeperRuns s

/-- A store may not start now (R378, R406): MIN_GAP has not passed since the last one, or one is under way (assumption
log 35). -/
def storeForbidden (s : State) : Bool := gapForbids s || storing s

/-- CAPTURE (R406). -/
def captureCmd (s : State) : State := if storeForbidden s then calEnd 1 s else startCapture true s

/-- CAPTURE. -/
def execCapture (s : State) : Res := .next (onlyIf (calReady s) captureCmd s)

/-- IMPORT (R406): the image is read from `MGT_CAL_BASE`. -/
def importCmd (s : State) : State :=
  if !masterEn s then calEnd 4 s
  else if storeForbidden s then calEnd 1 s
  else issueAll (readMem .calImage [⟨fld s Reg.MGT_CAL_BASE 6 42 * 64, 4736, 0⟩] false none s)

/-- Software writes the address of the image to `MGT_CAL_BASE` (R406). -/
def aimImport (base : BitVec 64) (s : State) : State := storeReg Reg.MGT_CAL_BASE base.toNat s

/-- IMPORT: the address of the image is written, then the command (R406). -/
def execCalImport (base : BitVec 64) (s : State) : Res :=
  .next (onlyIf (coreUp s) (fun s => let u := aimImport base s; onlyIf (calReady u) importCmd u) s)

/-- The image of an IMPORT has been read: it is checked and stored, with SEQ and CRC of the keeper's own (R406). -/
def importRead (data : List PByte) (s : State) : State :=
  let image := data.map fun x => x.b
  if data.any fun x => x.p then calEnd 4 s
  else if !calBodyOk s image then calEnd 2 s
  else startStore image true s

/-- EXPORT: the presented slot is written to `MGT_CAL_BASE` (R406). -/
def exportCmd (s : State) : State :=
  if !masterEn s then calEnd 4 s
  else match presentedCal s with
    | none => calEnd 2 s
    | some im =>
      issueAll (writeMem .calExport
        [⟨fld s Reg.MGT_CAL_BASE 6 42 * 64, 0, allBytes (clean (fit 4744 im))⟩] false none s)

/-- EXPORT. -/
def execCalExport (s : State) : Res := .next (onlyIf (calReady s) exportCmd s)

/-! ### Watchdog and restart (R384, R385) -/

/-- WATCHDOG_KICK: the watchdog starts again; its time is not counted (assumption log 1). -/
def execWatchdogKick (s : State) : Res := .next s

/-- The keeper island alone is reset (R384): sessions drop, what was not copied from its ring is lost, PROD and CONS stay
(R389), a store and a command under way are cut off (R401, R405). -/
def resetKeeper (s : State) : State :=
  let lost := s.keeper.toCopy.length
  let s := if lost = 0 then s else bumpBy Reg.MGT_EVT_LOST lost s
  let s := giveUpReads (fun _ j => j.what = .firmware || j.what = .calImage) (fun _ => false) s
  modKeeper (fun k => { k with running := false, ring := Tbl.empty, toCopy := [], hostBusy := false,
                               next := evtProd s, coal := [], sessions := 0, store := none, trial := false,
                               recovery := false, lateConf := false }) s

/-- The keeper restarts for a reason (R384, R450). -/
def restartKeeper (reason : Nat) (s : State) : State :=
  resetKeeper (modKeeper (fun k => { k with reason := BitVec.ofNat 4 reason }) s)

/-- WATCHDOG_EXPIRY: a restart, or a halt at the 4th expiry within 10 minutes (R384, R385). -/
def execWatchdogExpiry (s : State) : Res :=
  .next (onlyIf (s.rst.keeperUp && (s.keeper.running || s.keeper.recovery))
    (fun s =>
      let times := (s.rst.wdExpiries.filter fun t => s.now < t + 60000000000) ++ [s.now]
      let s := restartKeeper 2 { s with rst := { s.rst with wdExpiries := times } }
      if 4 ≤ times.length then
        raise Reg.RST_STATUS 5 { s with rst := { s.rst with keeperUp := false } }
      else s) s)

/-- A write of `RST_CTL.KEEPER_RESTART` (R385): a halt ends, the count is cleared, the keeper reboots. -/
def keeperRestart (s : State) : State :=
  if s.rst.keeperUp || bit s Reg.RST_STATUS 5 then
    lower Reg.RST_STATUS 5 (restartKeeper 4 { s with rst := { s.rst with keeperUp := true, wdExpiries := [] } })
  else s

/-- KEEPER_RESTART. -/
def execKeeperRestart (s : State) : Res := .next (keeperRestart s)

/-- Firmware of a bank runs (R384, R398, R400, R404), within the bounds of its policy (R379); a CONFIRM that came during a
revert shows its cause (R407). -/
def runFirmware (b trial : Bool) (s : State) : State :=
  let was := s.keeper.reason
  let reverted := s.keeper.reverted
  let s := modKeeper (fun k => { k with running := true, bankB := b, trial := trial, recovery := false,
                                        reverted := k.reverted && trial }) s
  let s := checkSlots (if coreUp s then deriveKeys s else s)
  let s := if was = 0 then s else postOwn 0x0901 0 was.toNat s
  let s := if reverted && !trial then postOwn 0x0902 0 was.toNat s else s
  keeperBounds (if s.keeper.lateConf then fwEnd 7 (modKeeper (fun k => { k with lateConf := false }) s) else s)

/-- KEEPER_BOOT: the boot ROM selects a bank (R398). -/
def bootKeeper (s : State) : State :=
  let go (s : State) : State :=
    match newest s fun b => b.isConfirmed (rollback s) with
    | some c => runFirmware c false (raiseRollback (Config.manifestSvn (bankOf s c).manifest) s)
    | none => modKeeper (fun k => { k with recovery := true }) s
  match trialBank s with
  | some t =>
    let b := bankOf s t
    if b.bootsUsed < 3 then runFirmware t true (setBank t b.countBoot s)
    else go (modKeeper (fun k => { k with reason := 1, reverted := true })
      (setBank t { b with retired := markRETIRED } s))
  | none => go s

/-- KEEPER_BOOT. -/
def execKeeperBoot (s : State) : Res :=
  .next (onlyIf (s.rst.keeperUp && !s.keeper.running) (fun s => bootKeeper (modKeeper (fun k => { k with
    recovery := false }) s)) s)

/-! ### Firmware commands (R399, R400) -/

/-- Firmware, or the ROM in RECOVERY, takes commands. -/
def fwReady (s : State) : Bool := s.rst.keeperUp && (s.keeper.running || s.keeper.recovery)

/-- The bank that is not running; A in RECOVERY (R398, R399). -/
def spareBank (s : State) : Bool := if s.keeper.recovery then false else !s.keeper.bankB

/-- SEQ of a staged bank: the running bank's SEQ + 1; in RECOVERY one more than bank B's where that is valid (R399). -/
def stagedSeq (s : State) : Word :=
  let b := if s.keeper.recovery then bankOf s true else runBank s
  if b.seqOk then b.seq + 1 else 1

/-- STAGE begins (R399): the bank that is not running is erased, and the image is read from `MGT_FW_BASE`. -/
def stageStart (s : State) : State :=
  let len := fld s Reg.MGT_FW_LEN 0 21
  if s.keeper.trial then fwEnd 6 s
  else if !masterEn s then fwEnd 5 s
  else if len < 4096 || 4096 + 1572864 < len then fwEnd 3 s
  else issueAll (readMem .firmware [⟨fld s Reg.MGT_FW_BASE 6 42 * 64, len, 0⟩] false none
    (setBank (spareBank s) Bank.erased s))

/-- The image of a STAGE has been read: it is written, read back and checked; VERIFIED is programmed only where all of
it holds (R399). -/
def stageRead (data : List PByte) (s : State) : State :=
  let image := data.map fun x => x.b
  let manifest := image.take 4096
  let seq := stagedSeq s
  let b : Bank := { Bank.erased with seq := seq, seqN := ~~~seq, manifest := manifest, image := image.drop 4096 }
  if data.any fun x => x.p then fwEnd 5 s
  else
    let r := flashFails (setBank (spareBank s) b s)
    if r.1 then fwEnd 4 r.2
    else if Config.manifestLength manifest != image.length - 4096 then fwEnd 3 r.2
    else if !b.sound then fwEnd 1 r.2
    else if Config.manifestSvn manifest < rollback s then fwEnd 2 r.2
    else fwEnd 0 (setBank (spareBank s) { b with verified := markVERIFIED } r.2)

/-- A firmware command is taken, unless one is under way: that one goes on, and cause 0x8 shows (R399). -/
def takeFw (f : State → State) (s : State) : State :=
  if !(coreUp s && fwReady s) then s else if fwBusy s then setFld Reg.MGT_FW_STATUS 8 4 8 s else f s

/-- Software writes where the image of a STAGE stands and how long it is (R399). -/
def aimStage (image : ImageAt) (s : State) : State :=
  storeReg Reg.MGT_FW_LEN image.len.toNat (storeReg Reg.MGT_FW_BASE image.base.toNat s)

/-- STAGE: the place of the image is written, then the command (R399). -/
def execStage (image : ImageAt) (s : State) : Res :=
  .next (onlyIf (coreUp s) (fun s => takeFw stageStart (aimStage image s)) s)

/-- ACTIVATE (R399). -/
def activateBank (s : State) : State :=
  let t := spareBank s
  let b := bankOf s t
  if s.keeper.trial then fwEnd 6 s
  else if !(b.seqOk && b.verified == markVERIFIED && b.retired != markRETIRED && b.active != markACTIVE) then fwEnd 7 s
  else
    let r := flashFails s
    if r.1 then fwEnd 4 r.2 else restartKeeper 3 (fwEnd 0 (setBank t { b with active := markACTIVE } r.2))

/-- ACTIVATE. -/
def execActivate (s : State) : Res := .next (takeFw activateBank s)

/-- CONFIRM (R399). -/
def confirmBank (s : State) : State :=
  if !s.keeper.trial then fwEnd 7 s
  else
    let b := runBank s
    let r := flashFails s
    if r.1 then fwEnd 4 r.2
    else
      let s := setBank s.keeper.bankB { b with confirmed := markCONFIRMED } r.2
      let s := raiseRollback (Config.manifestSvn b.manifest) s
      fwEnd 0 (postOwn 0x0903 0 (fwVersion s) (modKeeper (fun k => { k with trial := false }) s))

/-- The keeper restarts after a revert of its own. -/
def reverting (s : State) : Bool := s.keeper.reverted && !fwReady s

/-- A CONFIRM comes: while the keeper restarts after its revert it is kept, to show its cause then (R407). -/
def confirmCmd (s : State) : State :=
  if coreUp s && reverting s then modKeeper (fun k => { k with lateConf := true }) s else takeFw confirmBank s

/-- CONFIRM. -/
def execConfirm (s : State) : Res := .next (confirmCmd s)

/-- The running trial bank is retired and the keeper restarts (R399, R400). -/
def revertBank (s : State) : State :=
  let s := setBank s.keeper.bankB { runBank s with retired := markRETIRED } s
  restartKeeper 1 (modKeeper (fun k => { k with reverted := true }) s)

/-- REVERT (R399). -/
def revertCmd (s : State) : State :=
  if s.keeper.trial then
    let r := flashFails s
    if r.1 then fwEnd 4 r.2 else revertBank (fwEnd 0 r.2)
  else fwEnd 7 s

/-- REVERT. -/
def execRevert (s : State) : Res := .next (takeFw revertCmd s)

/-- TRIAL_TIMEOUT: trial firmware that was not confirmed reverts (R400). -/
def execTrialTimeout (s : State) : Res := .next (onlyIf (keeperRuns s && s.keeper.trial) revertBank s)

end Sys2Proof.Machine
end

