-- ==== Sys2Proof/Machine/Walks.lean ====
section
/-!
DEFINITION. Machine/Walks.lean: the end of a walk and who waits for it (R130 to R139), translation commands and their
drain (R147 to R153).
-/

namespace Sys2Proof.Machine

/-! ### The end of a walk (R130, R134, R137, R144) -/

/-- The lookup of a waiter has found no entry through the walk for its own address (R145, R146). -/
def waiterFault (part : Nat) (wt : Waiter) (s : State) : State :=
  match wt with
  | .pkt no va =>
    match s.txn.miss.find? (fun m => m.no == no) with
    | none => s
    | some m => xltFault m.packet part stXLT va (freeMiss no s)
  | .op o w =>
    match desc s o.d with
    | none => s
    | some v =>
      let s := match collOf s o.d with
        | some c => setColl o.d { c with writes := c.writes - 1 } s
        | none => s
      if v.stopped then s else localFault o.d w s
  | .desc d w =>
    match desc s d with
    | none => s
    | some v =>
      if v.disabled || v.stopped then s
      else if v.phase = .starting then endUnstarted d stLOCAL (reportFault false v.part w (opcode v.bits) 0 s)
      else match v.resend with
        | some r => if r.stage = 2 then resendFault d v r w s else localFault d w s
        | none =>
          if dChainEn v.bits && !sequenced v.bits && v.phase = .running then chainPartial d v w s else localFault d w s

/-- A waiter whose lookup hits now goes on; a descriptor does so with every other one. -/
def waiterGoes (wt : Waiter) (s : State) : State :=
  match wt with
  | .pkt no _ =>
    match s.txn.miss.find? (fun m => m.no == no) with
    | none => s
    | some m =>
      match processTarget m.packet (freeMiss no s) with
      | some s => s
      | none => s
  | .op o _ => issueOp o s
  | .desc _ _ => s

/-- The address a waiter waits for. -/
def Waiter.va : Waiter → Nat
  | .pkt _ va => va
  | .desc _ va => va
  | .op _ va => va

/-- Lookups whose address the walk did not settle wait on a walk of their own, under their numbers, which put them before
every newer miss. The walk is for the address of the oldest target-side lookup, if there is one, since that class goes
first (R137). -/
def rewait (w : Nat) (v : Walk) (ws : List Missed) (s : State) : State :=
  match ws.filter (·.who.isTarget), ws with
  | x :: _, _ => setWalk w (Walk.new .target v.part x.who.va 0 ws) s
  | [], x :: _ => setWalk w (Walk.new .initiator v.part x.who.va 0 ws) s
  | [], [] => s

/-- A preload that has ended completes its command (R148). -/
def finishInv (s : State) : State := raise Reg.XLT_INV_STATUS 1 { s with xlt := { s.xlt with inv := none } }

/-- What a walk that failed counts and posts: a failed read (R134), or a malformed entry it would have used (R130). A
prefetch walk posts no event (R144). Model's choice: the walk of a PRELOAD posts the events of a demand walk
(assumption log 24). -/
def walkReports (v : Walk) (bad : Option Nat) (err : Bool) (s : State) : State :=
  let pf := v.kind == .prefetch
  let s := if err then
      (let s := bump Reg.XLT_WALK_ERR_CNT s
       if pf then s else postEvent 0x0302 (ownId s) v.part 0 v.va s)
    else s
  match bad with
  | some pa =>
    let s := bump Reg.XLT_BAD_ENTRY_CNT s
    if pf then s else postEvent 0x0301 (ownId s) v.part 0 pa s
  | none => s

/-- The waiters of walk `w`, which found the entry `e` and installs it if `use` says so (R137, R144): those it answers
go on; those for whose own address it has found no entry fault; the others look up again on a walk of their own, also
those whose address lies under an entry that only the prefetch could not use. A preload's command ends. Model's choice:
a lookup that waited on a prefetch walk hits a fragment still unused after prefetch, and counts in `XLT_PF_HIT_CNT`
(assumption log 24). -/
def serveWalk (w : Nat) (v : Walk) (e : Option RangeEntry) (use : Bool) (s : State) : State :=
  let s := match e with
    | some x => if use then install (x.fragment v.part v.va (v.kind == .prefetch) s.xlt.stamp) s else s
    | none => s
  let hit (x : Missed) : Bool := (findFrag s v.part x.who.va).isSome
  let own (x : Missed) : Bool := !hit x && e.isNone && (x.who.va == v.va || !dirEn s v.part)
  let goes := v.waiters.filter hit
  let faults := v.waiters.filter own
  let again := v.waiters.filter fun x => !hit x && !own x
  let s := each (goes.map (·.who)) waiterGoes (each (faults.map (·.who)) (waiterFault v.part) (rewait w v again s))
  if v.kind = .preload then finishInv s else s

/-- Walk `w` ends: with an entry or none, having met a malformed entry that it would have used, or with a failed
read. -/
def endWalk (w : Nat) (v : Walk) (e : Option RangeEntry) (bad : Option Nat) (err : Bool) (s : State) : State :=
  let s := walkReports v bad err s
  let s := { s with xlt := { s.xlt with walks := s.xlt.walks.erase w } }
  let use : Bool := match e with
    | some x => v.kind != .prefetch || x.perms.getLsbD v.perm
    | none => false
  grantHandlers 16 (serveWalk w v e use s)

/-- A walk goes on as `takeSlot` or the search says. -/
def goWalk (w : Nat) (n : WalkNext) (v : Walk) (s : State) : State :=
  match n with
  | .read x b => readWalk w (x.list + 256 * b) 256 (setWalk w { x with cur := some b } s)
  | .done e bad => endWalk w v e bad false s

/-- A read of a walk has returned (R133, R134). One that was dropped, because master enable was cleared while it was
outstanding, is counted (R119). -/
def walkReturn (r : MemReq) (b : Beat) (s : State) : State :=
  let s := dropReq r s
  if r.drop then bump Reg.GEN_MEM_DROP s
  else match s.xlt.walks.find r.job with
    | none => s
    | some v =>
      let ps := v.parts.mapIdx fun i p => if i = r.idx then p.fill b else p
      match partsData ps with
      | none => setWalk r.job { v with parts := ps } s
      | some d =>
        if d.any (·.p) then endWalk r.job v none none true s
        else goWalk r.job (takeBlock v (d.map fun x => x.b)) v s

/-! ### Users of translations (R149) -/

/-- The blocks whose lookup running descriptor `d` still needs: those of which it has read or written one part (R128). -/
def midBlocks (s : State) (d : Nat) (v : Desc) : List Nat :=
  if v.phase == .running && !v.stopped && !v.disabled then
    let at_ := match collOf s d with
      | some c => (nextColl s v c).map (· % 2 ^ 52)
      | none => nextLocal s v
    (at_.filter fun a => a % 4096 != 0).map fun a => a / 4096
  else []

/-- Users of a partition that carry a translation of an earlier generation than the present one (R149). -/
def oldUser (s : State) (part gen : Nat) : Bool :=
  let old (u : Option (Nat × Nat)) : Bool := match u with | some (p, g) => p == part && g < gen | none => false
  let held (h : Held) : Bool := h.part == part && h.gen < gen
  s.mem.rjobs.values.any (fun j => old j.user) || s.mem.wjobs.values.any (fun j => old j.user)
    || s.txn.held.any held || s.txn.fenceQ.values.any (fun q => q.any held)
    || s.txn.atoms.values.any (fun o => o.part == part && o.gen < gen)
    || (s.txn.tags.values.any fun t =>
      !t.quarantine && (match desc s t.desc with | some d => d.part == part && !d.disabled | none => false)
        && t.expects.any fun e => e.gen < gen)
    || s.qe.descs.entries.any fun e => e.2.part == part && !e.2.disabled
      && e.2.maps.any fun m => m.gen < gen && (midBlocks s e.1 e.2).contains m.blk

/-- Descriptor `d` of one of some partitions forgets the blocks it has looked up, but for one of which it has read a part:
that block stays under its old translation to its end (R128, R152). -/
def Desc.forget (s : State) (l : List Nat) (d : Nat) (v : Desc) : Desc :=
  if l.contains v.part then { v with maps := v.maps.filter fun m => (midBlocks s d v).contains m.blk } else v

/-- Every descriptor of some partitions forgets the blocks it has looked up. -/
def forgetMaps (l : List Nat) (s : State) : State :=
  { s with qe := { s.qe with descs := ⟨s.qe.descs.entries.map fun e => (e.1, Desc.forget s l e.1 e.2)⟩ } }

/-! ### Translation commands (R147 to R153) -/

/-- The job number of a walk read whose walk has been discarded. -/
def noWalk : Nat := 2 ^ 64

/-- A walk is discarded and restarted for the lookups that wait on it (R150); with its directory disabled it ends with no
entry (R126). -/
def restartWalk (w : Nat) (s : State) : State :=
  match s.xlt.walks.find w with
  | none => s
  | some v =>
    let s := { s with mem := { s.mem with
      queue := s.mem.queue.filter fun r => !(r.walk && r.job == w)
      out := s.mem.out.map fun r => if r.walk && r.job == w then { r with job := noWalk } else r } }
    if !dirEn s v.part then endWalk w v none none false s
    else if v.active then beginWalk w v s
    else s

/-- Fragments that a command removes: those of the partition that overlap an extent. -/
def Frag.overlaps (f : Frag) (lo hi : Nat) : Bool := f.lo < hi && lo < f.hi

/-- Step 1 of R150: fragments go, walks of the partitions restart, generations advance; the command then waits. -/
def invalidate (cmd part : Nat) (parts : List Nat) (gone : Frag → Bool) (s : State) : State :=
  let s := forgetMaps parts { s with xlt := { s.xlt with frags := s.xlt.frags.filter fun f => !gone f } }
  let s := each parts (fun p s => { s with xlt := { s.xlt with gens := s.xlt.gens.set p (genOf s p + 1) } }) s
  let ws := (s.xlt.walks.filterV fun v => parts.contains v.part).map (·.1)
  let s := { s with xlt := { s.xlt with inv := some ⟨cmd, part, parts.map fun p => (p, genOf s p)⟩ } }
  grantHandlers 16 (each ws restartWalk s)

/-- INV_PART of a partition. -/
def invalidatePart (part : Nat) (s : State) : State := invalidate 2 part [part] (fun f => f.part == part) s

/-- A command that is not accepted (R148). -/
def invOverrun (s : State) : State := raise Reg.XLT_INV_STATUS 2 s

/-- PRELOAD (R147): its walk installs the fragment; with no directory it completes at once. -/
def startPreload (part : Nat) (s : State) : State :=
  let va := fld s Reg.XLT_INV_ADDR 0 52
  let s := { s with xlt := { s.xlt with inv := some ⟨4, part, []⟩ } }
  if !dirEn s part then finishInv s
  else
    let w := s.xlt.walkNo
    grantHandlers 16 (setWalk w (Walk.new .preload part va 0 []) { s with xlt := { s.xlt with walkNo := w + 1 } })

/-- A write of `XLT_INV_CTL` (R147, R148). -/
def invCommand (cmd part : Nat) (s : State) : State :=
  let a := fld s Reg.XLT_INV_ADDR 0 52
  let n := fld s Reg.XLT_INV_LEN 0 47
  if s.xlt.inv.isSome then invOverrun s
  else if cmd = 1 then
    (if n = 0 || 2 ^ 46 < n then invOverrun s
    else invalidate 1 part [part] (fun f => f.part == part && f.overlaps a (a + n)) s)
  else if cmd = 2 then invalidatePart part s
  else if cmd = 3 then invalidate 3 part (List.range 64) (fun _ => true) s
  else if cmd = 4 then startPreload part s
  else invOverrun s

/-- The drain of a command has ended (R150): no user carries an earlier generation of its partitions. -/
def drainEnded (s : State) : Bool :=
  match s.xlt.inv with
  | some c => c.cmd != 4 && c.parts.all fun p => !oldUser s p.1 p.2
  | none => false

/-- A write of `XLT_DIR_BASE` (R126, R153): both words at once. -/
def dirWrite (part v : Nat) (s : State) : State :=
  let a := Reg.XLT_DIR_BASE part
  let on := v.testBit 0
  if s.xlt.inv.isSome || (on && dirEn s part) then raise Reg.XLT_STATUS 0 s
  else
    let was := dirEn s part
    let s := setReg a (BitVec.ofNat 64 (v % 2 + natField v 16 32 * 2 ^ 16)) s
    if was && !on then invalidatePart part s else s

/-! ### Meanings -/

/-- A read of a walk returns (R133, R134). -/
def execWalkReadReturn (port : Fin 16) (id : BitVec 12) (beat : Beat) (s : State) : Res :=
  .next (if coreUp s then
      match findReq s port id.toNat false true with
      | some r => proceedAll (walkReturn r beat s)
      | none => s
    else staleReturn port id s)

/-- An `XLT_INV_CTL` write with CMD INV_RANGE (R147). -/
def execInvRange (part : BitVec 6) (s : State) : Res :=
  .next (onlyIf (unitsUp s) (fun s => proceedAll (invCommand 1 part.toNat s)) s)

/-- An `XLT_INV_CTL` write with CMD INV_PART (R147). -/
def execInvPart (part : BitVec 6) (s : State) : Res :=
  .next (onlyIf (unitsUp s) (fun s => proceedAll (invCommand 2 part.toNat s)) s)

/-- An `XLT_INV_CTL` write with CMD INV_ALL (R147). -/
def execInvAll (s : State) : Res := .next (onlyIf (unitsUp s) (fun s => proceedAll (invCommand 3 0 s)) s)

/-- An `XLT_INV_CTL` write with CMD PRELOAD (R147). -/
def execPreload (part : BitVec 6) (s : State) : Res :=
  .next (onlyIf (unitsUp s) (fun s => proceedAll (invCommand 4 part.toNat s)) s)

/-- The drain of a translation command ends and the command completes (R150, R148). -/
def execInvDrainComplete (s : State) : Res :=
  .next (onlyIf (drainEnded s) finishInv s)

end Sys2Proof.Machine
end

