-- ==== Sys2Proof/Machine/MemResp.lean ====
section
/-!
DEFINITION. Machine/MemResp.lean: responses of the memory ports and what they complete (R35, R60, R72, R119, R360, R412,
R414).
-/

namespace Sys2Proof.Machine

/-- Data for a rebuilt fence-final packet has returned (R46). -/
def resendData (d : Nat) (second : Bool) (data : List PByte) (s : State) : State :=
  modDesc d (fun v => { v with resend := v.resend.map fun r =>
    if r.stage != 3 then r else if second then { r with data2 := some data } else { r with data := some data } }) s

/-- The header of a configuration image has been read: the rest of the image, whose length its COUNT gives, is read
(R122, R123); none of it where the header shows already that the image fails. -/
def imageHeader (w : Whole) (data : List Byte) (bad : Bool) (s : State) : State :=
  let n := sliceNat data 8 4
  if w = .image true && fld s Reg.GEN_CFG_STATUS 0 2 = 1 then
    askWhole (.image false) (fld s Reg.GEN_CFG_BASE 6 42 * 64 + 64) (if !bad && n ≤ 16384 then 8 * n - 16 else 0) s
  else s

/-- A finished read feeds what asked for it. -/
def readDone (what : RdWhat) (data : List PByte) (s : State) : State :=
  match what with
  | .source d second =>
    modDesc d (fun v =>
      if v.stopped || v.disabled then v else if second then { v with buf2 := some data } else { v with buf := some data }) s
  | .resend d second => resendData d second data s
  | .elist d =>
    modDesc d (fun v =>
      if v.phase = .starting && !v.disabled then { v with buf := some data, reading := false } else v) s
  | .target p => answerLoad p data s
  | .atomic n => atomicRead n data s
  | .coll d w => collReturned d w data s
  | .whole w => imageHeader w (data.map fun x => x.b) (data.any fun x => x.p) s
  | .firmware => stageRead data s
  | .calImage => importRead data s
  | .gone _ => s

/-- A read that one command brings whole (R95, R118, R123, R163, R208, R328). -/
def MemReq.isWhole (s : State) (r : MemReq) : Bool :=
  match s.mem.rjobs.find r.job with
  | some j => (match j.what with | .whole w => w != .image true | _ => false)
  | none => false

/-- A read beat arrives. Data that was to be dropped is counted (R119). -/
def readBeat (r : MemReq) (b : Beat) (s : State) : State :=
  if r.drop then reapRead r.job (bump Reg.GEN_MEM_DROP (dropReq r s))
  else match readReturn r b s with
    | (none, s) => reapRead r.job s
    | (some (j, data), s) => readDone j.what data s

/-- Data of a load has been accepted locally (R63, R107): counted as DONE, but for `bad` bytes of it, which are
POISONED (R31, R414). -/
def destDone (d elem len bad : Nat) (s : State) : State :=
  let s := modDesc d (fun v => { v with writes := v.writes - 1, done := if v.disabled then v.done else v.done + (len - bad) }) s
  match desc s d with
  | none => s
  | some v => if bad = 0 || v.disabled then s else partEnded d elem stPOISONED s

/-- A line of an ECMB has been applied (R211): it counts in its combine, which reports a failed write (R414). A combine
marked DISABLED only waits for it no longer (R72). -/
def ecmbLanded (o : AtomOp) (err : Bool) (s : State) : State :=
  match collSlot s o.packet.win.toNat with
  | none => s
  | some (d, c) =>
    let s := setColl d { c with writes := c.writes - 1 } s
    match desc s d with
    | some v =>
      if v.disabled then s
      else rowsLanded d 1 64 (if err then setDesc d { v with ends := v.ends ++ [stPOISONED] } s else s)
    | none => s

/-- OUT and RESULT of a security command have been written: it is done (R328). -/
def secDone (s : State) : State := raise Reg.SEC_CMD_STATUS 1 (lower Reg.SEC_CMD_STATUS 0 s)

/-- A finished write completes what asked for it. -/
def writeDone (j : WrJob) (s : State) : State :=
  let bad : Bool := j.badLines != 0
  match j.what with
  | .posted p => answerApplied p (poisonedLines p false j.badLines) [] s
  | .fence p => fenceDone p (poisonedLines p false j.badLines) [] s
  | .atomic n =>
    let o := s.txn.atoms.find n
    let s := atomicWritten n bad s
    match o with
    | some o => if o.packet.ptype = tECMB then ecmbLanded o bad s else s
    | none => s
  | .record _ => s
  | .event i => eventCopied i s
  | .dest _ d elem len _ aux => destDone d elem len (if aux = 1 then len else j.badBytes) s
  | .coll d w =>
    let s := if bad then modDesc d (fun v => { v with ends := v.ends ++ [stPOISONED] }) s else s
    collWritten d w s
  | .security => secDone s
  | .calExport => calEnd 0 s

/-- A write response arrives: the lines of a posted packet land as they are accepted (R39). -/
def writeBeat (r : MemReq) (err : Bool) (s : State) : State :=
  let s := if err then bump Reg.GEN_MEM_WERR_CNT s else s
  match writeReturn r err s with
  | (none, s) => s
  | (some (j, last), s) =>
    let s := match j.what with
      | .posted p => landLines p.win.toNat r.nline s
      | _ => s
    if last then writeDone j s else s

/-! ### Descriptors marked DISABLED (R121) -/

/-- Tags go into quarantine: their expected answers are forgotten. -/
def quarantineTags (l : List Nat) (s : State) : State :=
  each l (fun t s => match tagOf s t with
    | some x => setTag t { x with quarantine := true, expects := [], lines := Tbl.empty } s
    | none => s) s

/-- A marked descriptor gets its record and its tags go into quarantine (R121). -/
def disabledRecord (d : Nat) (s : State) : State :=
  match desc s d with
  | none => s
  | some v => writeRecord d (quarantineTags v.tags s)

/-- Every local write of a marked descriptor has been accepted (R72). -/
def disabledDue (s : State) (d : Nat) (v : Desc) : Bool :=
  v.disabled && v.writes == 0 && (match collOf s d with | some c => c.writes == 0 | none => true)

/-- The marked descriptors, in INDEX order within each queue. -/
def marked (s : State) : List (Nat × Desc) :=
  sortBy (fun e => e.2.queue * 2 ^ 16 + e.2.index.toNat) (s.qe.descs.filterV (·.disabled))

/-- Once master enable is set, the records of marked descriptors are written in INDEX order within each queue, each after
its local writes have been accepted (R72, R121). -/
def flushDisabled (s : State) : State :=
  if masterEn s then
    ((marked s).foldl
      (fun (acc : List Nat × State) e =>
        if acc.1.contains e.2.queue || !disabledDue acc.2 e.1 e.2 then (e.2.queue :: acc.1, acc.2)
        else (acc.1, disabledRecord e.1 acc.2)) ([], s)).2
  else s

/-! ### Meanings -/

/-- A memory port returns a read beat (R411, R412, R414). -/
def execMemReadResponse (port : Fin 16) (id : BitVec 12) (beat : Beat) (s : State) : Res :=
  .next (if coreUp s then
      match findReq s port id.toNat false false with
      | some r => if r.isWhole s then s else proceedAll (readBeat r beat s)
      | none => s
    else staleReturn port id s)

/-- A memory port returns a write response (R35, R411, R414). -/
def execMemWriteResponse (port : Fin 16) (id : BitVec 12) (err : Bool) (s : State) : Res :=
  .next (if coreUp s then
      match findReq s port id.toNat true false with
      | some r => proceedAll (flushBacklog (flushDisabled (writeBeat r err s)))
      | none => s
    else staleReturn port id s)

end Sys2Proof.Machine
end

