-- ==== Sys2Proof/Machine/Queues.lean ====
section
/-!
DEFINITION. Machine/Queues.lean: doorbells, queue set-up, slot fetches, tile queues, cancellation, master enable, and the
loads of chain programs and templates (R90 to R121, R163 to R166).
-/

namespace Sys2Proof.Machine

/-! ### Queue set-up (R91, R451) -/

/-- EN of a queue turns on: the ring starts afresh (R91). -/
def queueFresh (q : Nat) (s : State) : State :=
  let s := setReg (Reg.Q_HEAD q) 0 (setReg (Reg.Q_CR_TAIL q) (2 ^ 16) s)
  modQueue q (fun v => { v with prod := 0, crHead := 0, reserved := 0, arrivals := 0 }) s

/-- The slots whose reads are under way will not be fetched when they return, and hold no completion slot (R91, R95,
R119, R341). -/
def dropFetches (q : Nat) (s : State) : State :=
  modQueue q (fun v =>
    if v.fetching.isEmpty || v.fetchDrop then v
    else { v with fetchDrop := true, reserved := v.reserved - v.reading }) s

/-- A write of `Q_CTL` (R91, R451). -/
def qCtlWrite (q v : Nat) (s : State) : State :=
  let a := Reg.Q_CTL q
  let on := queueEn s q
  if natField v 7 6 != queuePart s q && (on || !queueIdle s q) then raise (Reg.Q_STATUS q) 1 s
  else
    let s := modQueue q id (storeReg a v s)
    if !on && v.testBit 0 then queueFresh q s
    else if on && !v.testBit 0 then dropFetches q s
    else s

/-- A write of one of a queue's ring registers (R91): `v` holds both words of a 64-bit one. -/
def qSetup (a q v : Nat) (s : State) : State :=
  if queueEn s q || !queueIdle s q then raise (Reg.Q_STATUS q) 1 s else storeReg a v s

/-! ### Doorbells (R93 to R97, R111) -/

/-- SQ_TAIL (R94). -/
def sqTail (q v : Nat) (s : State) : State :=
  if ringSize s q ≤ v || !queueEn s q then raise (Reg.Q_STATUS q) 2 s
  else modQueue q (fun x => { x with prod := v }) s

/-- CQ_HEAD (R97): a head beyond the completion tail is refused. Model's choice: bits 31:16 of the write are ignored, and
an index at or above the size of the completion ring is refused too (assumption log 47). -/
def cqHead (q v : Nat) (s : State) : State :=
  let h := v % 2 ^ 16
  let n := crSize s q
  if n ≤ h || crUnread s q < (h + n - (queue s q).crHead % n) % n then raise (Reg.Q_STATUS q) 2 s
  else flushBacklog (modQueue q (fun x => { x with crHead := h }) s)

/-- The groups that a half of a doorbell mask names. -/
def maskGroups (hi : Bool) (mask : Word) : List Nat :=
  (bitsOf 32 mask.toNat).map fun i => if hi then i + 32 else i

/-- CANCEL (R111, R112). -/
def cancelMask (q : Nat) (hi : Bool) (mask : Word) (s : State) : State :=
  each (maskGroups hi mask) (fun g s => cancelGroup (queuePart s q) g none s) s

/-- REARM (R111). -/
def rearmMask (q : Nat) (hi : Bool) (mask : Word) (s : State) : State :=
  let gone := (maskGroups hi mask).map fun g => (g, queuePart s q)
  { s with qe := { s.qe with cancelled := s.qe.cancelled.filter fun x => !gone.contains x } }

/-! ### Slot fetches (R95) -/

/-- One slot has been fetched (R95). -/
def fetchSlot (q i : Nat) (bytes : List Byte) (bad : Bool) (s : State) : State :=
  let part := queuePart s q
  let d := s.qe.descNo
  let s := addDesc (Desc.new q (BitVec.ofNat 16 i) false (BitVec.ofNat 512 (leNat (fit 64 bytes))) bad part (partOf s part).key) s
  let s := setReg (Reg.Q_HEAD q) (BitVec.ofNat 64 ((i + 1) % ringSize s q)) s
  modQueue q (fun v => { v with fetched := v.fetched ++ [d] }) s

/-- A slot read of queue `q`. -/
def Whole.ofQueue (q : Nat) : Whole → Bool
  | .slots e _ _ => e == q
  | _ => false

/-- The oldest slot read of a queue returns (R95): its slots are fetched, or its data is dropped because the queue was
disabled, master enable was cleared or its partition is torn down. -/
def slotsReturn (q : Nat) (b : Beat) (s : State) : State :=
  match wholeBack (Whole.ofQueue q) s with
  | (some (.slots _ h n, _), s) =>
    let drop := (queue s q).fetchDrop
    let s := modQueue q (fun v => { v with fetching := v.fetching.drop 1,
                                           fetchDrop := v.fetchDrop && 1 < v.fetching.length }) s
    if drop then s
    else (List.range n).foldl
      (fun s i => fetchSlot q (h + i) (slice b.data (64 * i) 64) (b.err || b.poison.getLsbD i) s) s
  | (_, s) => s

/-! ### Tile queues (R115 to R118) -/

/-- A token enters its tile queue while it has room (R115, R420). -/
def pushToken (t : Nat) (token : BitVec 256) (s : State) : State :=
  if (tileQueue s t).tokens.length < 64 then modTq t (fun v => { v with tokens := v.tokens ++ [token] }) s else s

/-- The read of the templates of a load in progress (R118). -/
def askTemplates (t : Nat) (s : State) : State :=
  match (tileQueue s t).loading with
  | some (_, n) => askWhole (.templates t) (fld s Reg.GEN_TQ_TMPL_BASE 6 42 * 64) (64 * n) s
  | none => s

/-- A write of `GEN_TQ_CTL` (R118). Model's choice: a LOAD while the load of another tile queue is under way is refused
too, since the block has one set of load registers (assumption log 30). -/
def tqCtlWrite (v : Nat) (s : State) : State :=
  let t := natField v 8 3
  let i := natField v 12 6
  let n := natField v 18 7
  let load := v.testBit 31
  let s := storeReg Reg.GEN_TQ_CTL v s
  if !load then s
  else if tqEn s t || (tileQueue s t).tokens != [] || (List.range 8).any (fun x => (tileQueue s x).loading.isSome)
      || n = 0 || 64 < i + n then raise Reg.GEN_TQ_STATUS 0 s
  else issueAll (askTemplates t (modTq t (fun x => { x with loading := some (i, n) }) s))

/-- The templates of the load of tile queue `t` are installed (R118); a read that failed installs none. -/
def templatesIn (t : Nat) (blob : Blob) (s : State) : State :=
  match (tileQueue s t).loading with
  | none => s
  | some (i, n) =>
    let put (x : Tbl (BitVec 512)) : Tbl (BitVec 512) :=
      if blob.bad then x
      else (List.range n).foldl
        (fun x k => x.set (i + k) (BitVec.ofNat 512 (leNat (fit 64 (slice blob.data (64 * k) 64))))) x
    raise Reg.GEN_TQ_STATUS 2 (modTq t (fun v => { v with loading := none, templates := put v.templates }) s)

/-- The read of a template load. -/
def Whole.isTemplates : Whole → Bool
  | .templates _ => true
  | _ => false

/-- The templates of the load in progress have been read. Data dropped because master enable was cleared is read again
(R119; assumption log 28). -/
def templatesBack (blob : Blob) (s : State) : State :=
  match wholeBack Whole.isTemplates s with
  | (some (.templates t, dropped), s) => if dropped then issueAll (askTemplates t s) else templatesIn t blob s
  | (_, s) => s

/-- A write of `GEN_TQ_BIND`: the binding of an enabled tile queue does not change. -/
def tqBindWrite (v : Nat) (s : State) : State :=
  let x := (List.range 8).foldl
    (fun n t => n + 2 ^ (8 * t) * (if tqEn s t then boundQueue s t else natField v (8 * t) 8)) 0
  setReg Reg.GEN_TQ_BIND (BitVec.ofNat 64 x) s

/-! ### Chain programs (R163 to R166) and pipe reservation (R157) -/

/-- A load or a program is refused (R163, R164): the first one since the load began is recorded. -/
def chainRefused (slot cause : Nat) (s : State) : State :=
  let s := setFld Reg.IMP_CHAIN_STATUS 8 6 slot (setFld Reg.IMP_CHAIN_STATUS 16 4 cause s)
  postOwn 0x0402 slot cause (raise Reg.IMP_CHAIN_STATUS 2 s)

/-- The read of the programs of a load in progress (R163). -/
def askPrograms (s : State) : State :=
  match s.imp.loading with
  | some (_, n) => askWhole .programs (fld s Reg.IMP_CHAIN_BASE 8 40 * 256) (256 * n) s
  | none => s

/-- A write of `IMP_CHAIN_CTL` (R163, R166). Model's choice: a LOAD with a bad CNT or IDX while master enable is 0 gives
cause 0x8, the one that does not depend on when it comes (assumption log 26). -/
def chainCtlWrite (v : Nat) (s : State) : State :=
  let i := natField v 8 6
  let n := natField v 16 7
  if natField v 0 2 != 1 then storeReg Reg.IMP_CHAIN_CTL v s
  else if s.imp.loading.isSome then raise Reg.IMP_CHAIN_STATUS 3 s
  else
    let s := storeReg Reg.IMP_CHAIN_CTL v s
    if n = 0 || 64 < i + n then raise Reg.IMP_CHAIN_STATUS 1 (chainRefused i 8 s)
    else if !masterEn s then raise Reg.IMP_CHAIN_STATUS 1 (chainRefused i 7 s)
    else issueAll (askPrograms { s with imp := { s.imp with loading := some (i, n) } })

/-- The programs of the load in progress have been read: each is installed, or leaves its slot empty (R164). -/
def chainsIn (progs : List Blob) (s : State) : State :=
  match s.imp.loading with
  | none => s
  | some (i, n) =>
    let causes := (List.range n).map fun k =>
      let b := progs.getD k ⟨[], true⟩
      (i + k, fit 256 b.data, if b.bad then 6 else progCause (fit 256 b.data))
    let put (t : Tbl (List Byte)) : Tbl (List Byte) := causes.foldl
      (fun t x => if x.2.2 = 0 then t.set x.1 x.2.1 else t.erase x.1) t
    let s := { s with imp := { s.imp with loading := none, chains := put s.imp.chains } }
    let s := match causes.find? (fun x => x.2.2 != 0) with
      | some x => chainRefused x.1 x.2.2 s
      | none => s
    raise Reg.IMP_CHAIN_STATUS 1 s

/-- The programs of the load in progress have been read. Data dropped because master enable was cleared is read again
(R119; assumption log 28). -/
def chainsBack (progs : List Blob) (s : State) : State :=
  match wholeBack (fun w => w == .programs) s with
  | (some (_, true), s) => issueAll (askPrograms s)
  | (some (_, false), s) => chainsIn progs s
  | (none, s) => s

/-- A write of `IMP_PIPE_RSV` (R157). -/
def pipeRsvWrite (v : Nat) (s : State) : State := refreshReserved (storeReg Reg.IMP_PIPE_RSV v s)

/-! ### Master enable (R119 to R121) -/

/-- A descriptor in progress is marked DISABLED (R119): what has been accounted OK so far is its DONE. -/
def disableDesc (d : Nat) (s : State) : State :=
  match desc s d with
  | none => s
  | some v =>
    let acc := v.tags.foldl (fun n t => n + ((tagOf s t).map TagSt.bytesOk).getD 0) 0
    let s := releasePipe d s
    modDesc d (fun v => { v with disabled := true, done := v.done + acc, ends := v.ends ++ [stDISABLED], buf := none,
                                 buf2 := none, obuf := [], reading := false }) s

/-- A request of a target whose reads can no longer issue (R119, R120): it is answered DISABLED. -/
def dropTargets (s : State) : State :=
  s.mem.rjobs.values.foldl
    (fun s j => match j.what with
      | .target p => failLoad p stDISABLED s
      | _ => s) s

/-- A read that one command brings whole goes on after a master-enable clear (R119). -/
def RdJob.isWhole (j : RdJob) : Bool := match j.what with | .whole _ => true | _ => false

/-- A read for the target: its translation stays in use until its data has returned (R149, R151); one of a descriptor
marked DISABLED is no user any more (R152). -/
def RdJob.isTarget (j : RdJob) : Bool := match j.what with | .target _ => true | .atomic _ => true | .gone none => true | _ => false

/-- Reads issued before the clear are dropped on return (R119); those of walks are asked for again, and operations of
the atomic unit that were reading start again. -/
def dropReads (s : State) : State :=
  let again := (s.mem.out.filter fun r => r.walk && !r.drop && r.job != noWalk)
  let s := giveUpReads (fun _ j => !j.isWhole) RdJob.isTarget (dropOnReturn (fun _ => true) s)
  let atoms := s.txn.atoms.map fun o => if o.stage = 1 then { o with stage := 0 } else o
  { s with
      txn := { s.txn with atoms := atoms }
      mem := { s.mem with queue := s.mem.queue ++ again } }

/-- A local write of a descriptor. -/
def WrJob.isLocal (j : WrJob) : Bool := match j.what with | .dest _ _ _ _ _ _ => true | .coll _ _ => true | _ => false

/-- A local write that will not be issued is no longer waited for. -/
def forgetWrite (j : WrJob) (s : State) : State :=
  match j.what with
  | .dest _ d _ _ _ _ => modDesc d (fun v => { v with writes := v.writes - 1 }) s
  | .coll d _ =>
    match collOf s d with
    | some c => setColl d { c with writes := c.writes - 1 } s
    | none => s
  | _ => s

/-- A waiter is a local lookup: of a descriptor, or of a write of the collective sequencer. -/
def Waiter.isLocal : Waiter → Bool
  | .pkt _ _ => false
  | _ => true

/-- Local lookups and local writes that have not been issued are given up, since every descriptor is marked (R119). -/
def dropLocals (s : State) : State :=
  let ops := s.xlt.walks.values.flatMap fun w => w.waiters.filterMap fun x => match x.who with | .op o _ => some o | _ => none
  let s := { s with xlt := { s.xlt with
    walks := s.xlt.walks.map fun w => { w with waiters := w.waiters.filter fun x => !x.who.isLocal } } }
  let s := each ops (fun o s => match collOf s o.d with
    | some c => setColl o.d { c with writes := c.writes - 1 } s
    | none => s) s
  let r := withdrawWrites WrJob.isLocal s
  each r.1 forgetWrite r.2

/-- `GEN_CTL.MASTER_EN` is cleared (R119). -/
def masterClear (s : State) : State :=
  if masterEn s then
    let s := lower Reg.GEN_CTL 0 s
    let s := each s.qe.descs.keys disableDesc (dropTargets s)
    each s.qe.queues.keys dropFetches (dropLocals (dropReads (imageLost s)))
  else s

/-- The windows that hold a held write. -/
def heldWindows (s : State) : List Nat := (s.txn.held.map fun h => h.packet.win.toNat).eraseDups

/-- `GEN_CTL.MASTER_EN` is set (R121): the DISABLED records go first; held writes whose EXPECT has been reached meanwhile
are released (R44, R120), and events that wait go to the host ring (R389). -/
def masterSet (s : State) : State :=
  if masterEn s then s
  else
    let s := flushBacklog (flushDisabled (raise Reg.GEN_CTL 0 s))
    let s := each (heldWindows s) releaseHeld s
    if keeperRuns s then hostStep s else s

/-! ### Meanings -/

/-- A `Q_CTL` write that sets EN (R91). -/
def execQEnable (q : Byte) (v : Word) (s : State) : Res :=
  .next (onlyIf (unitsUp s && v.getLsbD 0) (fun s => proceedAll (qCtlWrite q.toNat v.toNat s)) s)

/-- A `Q_CTL` write that clears EN (R91). -/
def execQDisable (q : Byte) (v : Word) (s : State) : Res :=
  .next (onlyIf (unitsUp s && !v.getLsbD 0) (fun s => proceedAll (qCtlWrite q.toNat v.toNat s)) s)

/-- A doorbell SQ_TAIL write (R94); discarded while the core island is in reset (R357). -/
def execSqTail (q : Byte) (v : Word) (s : State) : Res :=
  .next (onlyIf (unitsUp s) (fun s => proceedAll (sqTail q.toNat v.toNat s)) s)

/-- A doorbell CQ_HEAD write (R97, R109). -/
def execCqHead (q : Byte) (v : Word) (s : State) : Res :=
  .next (onlyIf (unitsUp s) (fun s => proceedAll (cqHead q.toNat v.toNat s)) s)

/-- A doorbell CANCEL write (R111, R112). -/
def execCancel (q : Byte) (hi : Bool) (mask : Word) (s : State) : Res :=
  .next (onlyIf (unitsUp s) (fun s => proceedAll (cancelMask q.toNat hi mask s)) s)

/-- A doorbell REARM write (R111). -/
def execRearm (q : Byte) (hi : Bool) (mask : Word) (s : State) : Res :=
  .next (onlyIf (unitsUp s) (rearmMask q.toNat hi mask) s)

/-- A slot read of a queue returns (R95). -/
def execDescriptorFetch (q : Byte) (beat : Beat) (s : State) : Res :=
  .next (wholeCommand (Whole.ofQueue q.toNat) (fun s => proceedAll (slotsReturn q.toNat beat s)) s)

/-- The matrix engine pushes a token (R115, R420). -/
def execTileTokenPush (t : BitVec 3) (token : BitVec 256) (s : State) : Res :=
  .next (onlyIf (unitsUp s) (pushToken t.toNat token) s)

/-- A tile queue's oldest token starts (R117). -/
def execTileTokenStart (t : BitVec 3) (s : State) : Res :=
  .next (onlyIf (unitsUp s && masterEn s) (fun s => proceedAll (startToken t.toNat s)) s)

/-- A `GEN_TQ_CTL` write (R118). -/
def execTqTemplateLoad (v : Word) (s : State) : Res := .next (onlyIf (coreUp s) (tqCtlWrite v.toNat) s)

/-- The template reads return (R118). -/
def execTqTemplateLoadDone (blob : Blob) (s : State) : Res := .next (wholeCommand Whole.isTemplates (templatesBack blob) s)

/-- An `IMP_CHAIN_CTL` write (R163, R166). -/
def execChainLoad (v : Word) (s : State) : Res := .next (onlyIf (unitsUp s) (chainCtlWrite v.toNat) s)

/-- The chain program reads return (R164). -/
def execChainLoadDone (programs : List Blob) (s : State) : Res :=
  .next (wholeCommand (fun w => w == .programs) (chainsBack programs) s)

/-- An `IMP_PIPE_RSV` write (R157). -/
def execPipeRsvWrite (v : Word) (s : State) : Res := .next (onlyIf (unitsUp s) (pipeRsvWrite v.toNat) s)

/-- A `GEN_CTL` write that clears MASTER_EN (R119). -/
def execMasterEnClear (s : State) : Res := .next (onlyIf (coreUp s) masterClear s)

/-- A `GEN_CTL` write that sets MASTER_EN (R121). -/
def execMasterEnSet (s : State) : Res := .next (onlyIf (coreUp s) (fun s => proceedAll (masterSet s)) s)

end Sys2Proof.Machine
end

