-- ==== Sys2Proof/Machine/Security.lean ====
section
/-!
DEFINITION. Machine/Security.lean: partitions, key store, security commands, sealed channels, attestation, teardown,
scrub, debug access, test access ports and the fuse bus (R321 to R349, R426, R428).
-/

namespace Sys2Proof.Machine

/-! ### Key slots (R326, R327) -/

/-- A slot zeroized (R327). -/
def zeroize (i : Option Nat) (s : State) : State :=
  match i with
  | some i => modSec (fun x => { x with keys := x.keys.erase i }) s
  | none => s

/-- A free slot of slots 4 to 511. -/
def freeSlot (s : State) : Option Nat := (List.range 508).findSome? fun i =>
  if (s.sec.keys.find (i + 4)).isNone then some (i + 4) else none

/-- The contents of a slot. -/
def slotKey (s : State) (i : Nat) : List Byte := s.sec.keys.get i []

/-- The device serial, least significant byte first. -/
def serialBytes (s : State) : List Byte := leBytes 8 (fuseView s).serial.toNat

/-- A signature under DIK (R326), with fresh nonce material. -/
def dikSign (msg : List Byte) (s : State) : List Byte × State :=
  (fit 96 (Config.ecdsaSign (slotKey s 0) msg s.draws), { s with draws := s.draws + 1 })

/-- A 96 B public key. -/
def publicOf (k : List Byte) : List Byte := fit 96 (Config.p384Public k)

/-! ### Partitions (R322, R325) -/

/-- A `SEC_PART_STATUS.OVERRUN`. -/
def partOverrun (s : State) : State := raise Reg.SEC_PART_STATUS 6 s

/-- The owner digest in `SEC_PART_OWNER` (R449). -/
def ownerDigest (s : State) : List Byte := (List.range 12).flatMap fun i => beBytes 4 (fld s (Reg.SEC_PART_OWNER i) 0 32)

/-- A key may be given to partition `p` (R322). -/
def keyFree (s : State) (p : Nat) (k : PKey) : Bool :=
  k != 0 && !s.sec.quarantine.contains k
    && s.sec.parts.entries.all fun e => e.1 == p || e.2.state == .free || e.2.key != k

/-- ENABLE of partition `p` (R322). -/
def partEnable (p : Nat) (s : State) : State :=
  let k := BitVec.ofNat 16 (fld s Reg.SEC_PART_KEY 0 16)
  if (partOf s p).state = .free && keyFree s p k then
    modPart p (fun _ => ⟨.active, k, ownerDigest s, [], [], false⟩) s
  else partOverrun s

/-- A key enters quarantine (R325). -/
def quarantineKey (k : PKey) (s : State) : State :=
  if s.sec.quarantine.length < 128 then modSec (fun x => { x with quarantine := x.quarantine ++ [k] }) s
  else raise Reg.SEC_PART_STATUS 7 (modSec (fun x => { x with quarantine := x.quarantine.drop 1 ++ [k] }) s)

/-! ### Channels (R331) -/

/-- A channel closes and its slots are zeroized (R331). -/
def closeChan (c : Nat) (s : State) : State :=
  let v := chanOf s c
  setChan c { v with state := .closed, keySlot := none, ephSlot := none } (zeroize v.keySlot (zeroize v.ephSlot s))

/-- Every channel of a partition closes (T2 of R341). -/
def closeChans (p : Nat) (s : State) : State :=
  each ((s.sec.chans.filterV fun c => c.part == p && c.state != .closed).map (·.1)) closeChan s

/-! ### Teardown and scrub (R341 to R344) -/

/-- The queues of a partition. -/
def partQueues (s : State) (p : Nat) : List Nat := (List.range 256).filter fun q => queuePart s q = p

/-- A descriptor of a partition is discarded: no record, its tags in quarantine, its pipe free. -/
def discardDesc (d : Nat) (s : State) : State :=
  match desc s d with
  | none => s
  | some v =>
    let s := quarantineTags v.tags s
    let s := { s with
      qe := { s.qe with descs := s.qe.descs.erase d }
      seq := { s.seq with colls := s.seq.colls.erase d }
      imp := { s.imp with pipes := ⟨s.imp.pipes.entries.filter fun e => e.2 != d⟩ } }
    refreshReserved s

/-- What stands for an access of partition `p`. -/
def userOf (p : Nat) (u : Option (Nat × Nat)) : Bool := match u with | some (q, _) => q == p | none => false

/-- A write that partition `p` would make: under its translations, or of a record of one of its queues. -/
def WrJob.ofPart (p : Nat) (qs : List Nat) (j : WrJob) : Bool :=
  userOf p j.user || (match j.what with | .record q => qs.contains q | _ => false)

/-- The locked read of operation `n` of the atomic unit has gone out, and its write has not been accepted: the pair goes
on to its end (R80, R415). -/
def pairOpen (s : State) (n : Nat) : Bool := match s.txn.atoms.find n with
  | some o => o.locked && ((s.mem.wjobs.values.any fun j => j.what == .atomic n)
      || s.mem.rjobs.entries.any fun e => e.2.what == .atomic n && s.mem.out.any fun r => r.reads e.1)
  | none => false

/-- A read that is not part of an open locked pair. -/
def RdJob.loose (s : State) (j : RdJob) : Bool := match j.what with | .atomic n => !pairOpen s n | _ => true

/-- A write that is not part of an open locked pair. -/
def WrJob.loose (s : State) (j : WrJob) : Bool := match j.what with | .atomic n => !pairOpen s n | _ => true

/-- The fence-final packet that each window has in progress, after those before it have been dropped, is issued (R74). -/
def restartFences (before : Tbl (List Held)) (s : State) : State :=
  let heads := s.txn.fenceQ.entries.filterMap fun e =>
    if (before.get e.1 []).head? = e.2.head? then none else e.2.head?
  if heads.isEmpty then s else issueAll (each heads applyFence s)

/-- Memory accesses of a partition that the ports have not taken are given up, reads under way are dropped on return,
and operations of the atomic unit that have not been written go with them (R341, R342), but for open locked pairs. A read
for the target stays a user until its data has returned (T4). -/
def discardAccesses (p : Nat) (s : State) : State :=
  let before := s.txn.fenceQ
  let was := s
  let s := giveUpReads (fun _ j => userOf p j.user && j.loose was) RdJob.isTarget s
  let s := (withdrawWrites (fun j => j.ofPart p (partQueues s p) && j.loose was) s).2
  let atoms := ⟨s.txn.atoms.entries.filter fun e =>
    e.2.part != p || pairOpen was e.1 || s.mem.wjobs.values.any fun j => j.what == .atomic e.1⟩
  let groups := ⟨s.txn.groups.entries.filterMap fun e =>
    let n := (atoms.values.filter fun (o : AtomOp) => o.group == e.1).length
    if n = 0 then none else some (e.1, { e.2 with left := min e.2.left n })⟩
  let busy (h : Held) : Bool := s.mem.wjobs.values.any (fun j => j.what == .fence h.packet)
    || atoms.values.any (fun (o : AtomOp) => o.packet == h.packet)
  let fences := ⟨(s.txn.fenceQ.entries.map fun e => (e.1, e.2.filter fun h => h.part != p || busy h)).filter
    fun e => !e.2.isEmpty⟩
  restartFences before { s with txn := { s.txn with atoms := atoms, groups := groups, fenceQ := fences } }

/-- A packet that this node built for a key, other than a LACK packet, which holds nothing of the partition's memory. -/
def isBuilt (s : State) (key : PKey) (p : Packet) : Bool := p.src == ownId s && p.pkey == key && p.ptype != tLACK

/-- Packets built for a partition that have not started on a link are discarded (R341, R343); those that the router has
taken are counted as having left it (R240). One that has started on a link is the link's from there (assumption log
48). -/
def discardPackets (key : PKey) (s : State) : State :=
  let mine := isBuilt s key
  let taken := (s.router.waiting.map (·.packet) ++ s.links.values.flatMap (·.txq)).filter mine
  each taken countEj { s with
    router := { s.router with
      inject := s.router.inject.map fun q => q.filter fun p => !mine p
      waiting := s.router.waiting.filter fun w => !mine w.packet }
    links := s.links.map fun l => { l with txq := l.txq.filter fun p => !mine p } }

/-- Packets with a key that are for this node and stand in the VC buffer of a link, opened if they were sealed, are
dropped as the ejection port would drop them (R244, R342, R343). -/
def dropArrived (key : PKey) (s : State) : State :=
  let mine (a : Arrived) : Bool := a.packet.pkey == key && a.packet.dst == ownId s && !a.packet.mcast
  let gone := s.links.values.flatMap fun l => l.inbuf.filter mine
  if gone.isEmpty then s
  else
    let s := { s with links := s.links.map fun l => { l with inbuf := l.inbuf.filter fun a => !mine a } }
    settleLinks (each gone (fun a s => pkeyDrop 2 0 a.packet s) s)

/-- T1 and T3 of R341: what belongs to a partition is stopped and discarded, and its windows are reset. `keep` keeps the
descriptors that an opening of debug access has marked DISABLED, whose records are still to be found (R349). -/
def discardWork (keep : Bool) (p : Nat) (s : State) : State :=
  let key := (partOf s p).key
  let qs := partQueues s p
  let s := each (s.router.ejected.flatten.filter fun x => x.pkey == key)
    (fun x s => pkeyNote 2 0 x (takeEjected x s)) (dropArrived key s)
  let s := discardPackets key { s with txn := { s.txn with stopVcs := [] } }
  let s := each ((s.qe.descs.filterV fun v => v.part == p && !(keep && v.disabled)).map (·.1)) discardDesc s
  let s := each (s.qe.queues.keys.filter fun q => qs.contains q)
    (fun q s => modQueue q (fun v => { v with fetched := [], reserved := 0, arrivals := 0 }) (dropFetches q s)) s
  let s := each ((List.range 8).filter fun t => qs.contains (boundQueue s t)) (modTq · fun v => { v with tokens := [] }) s
  let s := { s with qe := { s.qe with
    backlog := s.qe.backlog.filter fun a => !qs.contains a.queue
    cancelled := s.qe.cancelled.filter fun x => x.2 != p } }
  let s := each (partOf s p).windows resetWindow (discardAccesses p s)
  { s with txn := { s.txn with
    held := s.txn.held.filter fun h => h.packet.pkey != key
    miss := s.txn.miss.filter fun m => m.packet.pkey != key } }

/-- T4 of R341 begins: the directory is disabled, and the partition's fragments and walks go. -/
def dropTranslations (p : Nat) (s : State) : State :=
  let s := setFld (Reg.XLT_DIR_BASE p) 0 1 0 s
  let s := { s with xlt := { s.xlt with
    frags := s.xlt.frags.filter fun f => f.part != p, gens := s.xlt.gens.set p (genOf s p + 1) } }
  grantHandlers 16 (each ((s.xlt.walks.filterV fun v => v.part == p).map (·.1)) restartWalk s)

/-- T1 to the start of T4 of R341. -/
def tearDown (keep : Bool) (p : Nat) (s : State) : State := dropTranslations p (discardWork keep p (closeChans p s))

/-- T4 of R341 is over: no user of the partition carries an earlier translation, no slot read of its queues is under
way, and no translation command runs. It waits for no other node (R436). -/
def partDrained (s : State) (p : Nat) : Bool :=
  s.xlt.inv.isNone && !oldUser s p (genOf s p) && (partQueues s p).all fun q => (queue s q).fetching.isEmpty

/-- Registers that capture something of a partition, cleared where `p` says so (T5 of R341): by partition, key, channel
and queue. -/
def clearCaptures (part key chan queue : Nat → Bool) (s : State) : State :=
  let s := if part (fld s Reg.XLT_FAULT_INFO 0 6) then
      setReg Reg.XLT_FAULT_VA 0 (setReg Reg.XLT_FAULT_INFO 0 (lower Reg.XLT_FAULT_STATUS 0 s)) else s
  let s := if key (fld s Reg.FAB_PKEY_DROP_INFO 16 16) then setReg Reg.FAB_PKEY_DROP_INFO 0 s else s
  let s := if chan (fld s Reg.SEC_AUTH_FAIL_INFO 8 8) then setReg Reg.SEC_AUTH_FAIL_INFO 0 s else s
  let s := if queue (fld s Reg.IMP_EXIT_STATUS 8 8) then setReg Reg.IMP_EXIT_STATUS 0 s else s
  each (List.range 8) (fun i s =>
    if queue (fld s (Reg.IMP_PIPE_FLAG_SRC i) 0 8) then setReg (Reg.IMP_PIPE_FLAG_SRC i) 0 s else s) s

/-- The registers of a queue. -/
def queueRegs (q : Nat) : List Nat :=
  [Reg.Q_CTL q, Reg.Q_STATUS q, Reg.Q_RING_BASE q, Reg.Q_RING_SIZE q, Reg.Q_CR_BASE q, Reg.Q_CR_SIZE q, Reg.Q_HEAD q,
   Reg.Q_CR_TAIL q, Reg.Q_ARR_LOST_CNT q]

/-- The templates of a tile queue, which hold addresses, are cleared; a load of them that is under way installs none
(R343; assumption log 48). -/
def clearTemplates (t : Nat) (s : State) : State :=
  let s := giveUpReads (fun _ j => j.what == .whole (.templates t)) (fun _ => false) s
  modTq t (fun v => { v with templates := Tbl.empty }) (templatesIn t ⟨[], true⟩ s)

/-- T5 of R341: the scrub engine zeroes what the block still holds of a partition, its directory address, its tile
queues' templates and what has come for it since T1 among it (R343). Windows that its last accepted writes have counted
into are reset again. -/
def scrubPart (p : Nat) (s : State) : State :=
  let qs := partQueues s p
  let v := partOf s p
  let s := each ((List.range 8).filter fun t => qs.contains (boundQueue s t)) clearTemplates (dropArrived v.key s)
  let chan (c : Nat) : Bool := match s.sec.chans.find c with | some x => x.part == p | none => false
  let s := clearCaptures (· == p) (· == v.key.toNat) chan qs.contains s
  let s := each qs (fun q s => each (queueRegs q) (setReg · 0) (modQueue q (fun _ => Queue.initial) s)) s
  let s := each v.streams (fun i s => setReg (Reg.XLT_WL_CFG i) 0 s) s
  let s := setReg (Reg.XLT_DIR_BASE p) 0 (each v.windows resetWindow s)
  let s := { s with qe := { s.qe with backlog := s.qe.backlog.filter fun a => !qs.contains a.queue } }
  let s := modSec (fun x => { x with chans := ⟨x.chans.entries.filter fun e => e.2.part != p⟩ }) s
  modPart p (fun v => { v with windows := [], streams := [] }) s

/-- A partition becomes FREE; a key that leaves TEARDOWN enters quarantine (T6 of R341, R325). -/
def freePart (p : Nat) (s : State) : State :=
  let v := partOf s p
  let s := modPart p (fun _ => Part.initial) s
  if v.state = .teardown then quarantineKey v.key s else s

/-- TEARDOWN of partition `p` (R322, R341). -/
def partTeardown (p : Nat) (s : State) : State :=
  if (partOf s p).state = .active then
    tearDown false p (modPart p (fun v => { v with state := .teardown, drained := false }) s)
  else partOverrun s

/-- A write of `SEC_PART_CTL` (R322). -/
def partCtlWrite (v : Nat) (s : State) : State :=
  let p := natField v 0 6
  let cmd := natField v 8 2
  let s := setFld Reg.SEC_PART_CTL 0 6 p s
  if cmd = 0 then s
  else if cmd = 1 then partEnable p s
  else if cmd = 2 then partTeardown p s
  else partOverrun s

/-- Partitions that are not FREE. -/
def livePart (s : State) : List Nat := (s.sec.parts.filterV fun p => p.state != .free).map (·.1)

/-- The whole-block scrub starts (R344). -/
def startScrub (keep : Bool) (s : State) : State :=
  let s := raise Reg.SEC_SCRUB_STATUS 0 s
  let s := each (livePart s) (tearDown keep) s
  let s := modSec (fun x => { x with keys := x.keys.keep (· < 4) }) s
  let s := { s with imp := { s.imp with chains := Tbl.empty }, seq := { s.seq with experts := Tbl.empty } }
  let s := each (s.txn.windows.keys ++ s.txn.held.map fun h => h.packet.win.toNat) resetWindow s
  { s with txn := { s.txn with
    tags := s.txn.tags.map fun x => { x with quarantine := true, expects := [], lines := Tbl.empty } } }

/-- A write of `SEC_SCRUB_CTL.ALL` (R344). -/
def scrubWrite (s : State) : State :=
  if masterEn s || bit s Reg.SEC_SCRUB_STATUS 0 then raise Reg.SEC_SCRUB_STATUS 2 s else startScrub false s

/-- The local writes of every descriptor that an opening has marked have been accepted (R72). -/
def markedDue (s : State) : Bool := (marked s).all fun e => disabledDue s e.1 e.2

/-- The whole-block scrub ends (R344). Records of descriptors that an opening of debug access has marked are put to their
rings before the rings' registers go; they wait for master enable (R349). -/
def endScrub (s : State) : State :=
  let ps := livePart s
  let s := each ((marked s).map (·.1)) disabledRecord s
  let s := each ps freePart (each ps scrubPart s)
  let all : Nat → Bool := fun _ => true
  raise Reg.SEC_SCRUB_STATUS 1 (lower Reg.SEC_SCRUB_STATUS 0 (clearCaptures all all all all s))

/-! ### Security commands (R328 to R330) -/

/-- Result codes (R330). -/
abbrev resOK : Byte := 0x00
abbrev resBADCMD : Byte := 0x01
abbrev resBADSIG : Byte := 0x02
abbrev resMISMATCH : Byte := 0x03
abbrev resNOSLOT : Byte := 0x04
abbrev resSTATE : Byte := 0x05
abbrev resNOTINSET : Byte := 0x06
abbrev resMEMERR : Byte := 0x07
abbrev resDEBUG : Byte := 0x08

/-- A command's result: its code and, where it succeeds, its output. -/
abbrev SecResult := Byte × List Byte × State

/-- The read of the command block: its command and its input, bytes 0 to 2,047 (R328). -/
def askCommand (s : State) : State := askWhole .command (fld s Reg.SEC_CMD_BASE 12 36 * 4096) 2048 s

/-- A write of `SEC_CMD_CTL` with GO (R328). -/
def secGo (s : State) : State :=
  if bit s Reg.SEC_CMD_STATUS 0 then raise Reg.SEC_CMD_STATUS 2 s
  else issueAll (askCommand (raise Reg.SEC_CMD_STATUS 0 s))

/-- OUT and RESULT go to the command block (R328); DONE follows when they have been written. -/
def secAnswer (r : SecResult) : State :=
  let s := r.2.2
  let base := fld s Reg.SEC_CMD_BASE 12 36 * 4096
  let out : List Store := if r.2.1.isEmpty then [] else [⟨base + 2048, 0, allBytes (clean r.2.1)⟩]
  issueAll (writeMem .security (⟨base + 1, 0, allBytes (clean [r.1])⟩ :: out) false none s)

/-- Fields of the command block (R328). -/
def cmdPart (b : Blob) : Nat := (b.data.getD 2 0).toNat
def cmdChan (b : Blob) : Nat := (b.data.getD 3 0).toNat
def cmdPeer (b : Blob) : NodeId := b.data.getD 4 0
def cmdIn (b : Blob) (off n : Nat) : List Byte := fit n (slice b.data (64 + off) n)

/-- What every command checks before its own rules: `part` says that it names a partition, `closed` that it is refused
once debug access has been opened (R330, R347). -/
def secCheck (part closed : Bool) (b : Blob) (s : State) : Option Byte :=
  let code := (b.data.getD 0 0).toNat
  if b.bad then some resMEMERR
  else if code = 0 || 8 < code || !allZero (slice b.data 5 3) || !allZero (slice b.data 16 48)
      || (part && 64 ≤ cmdPart b) then some resBADCMD
  else if closed && s.sec.openBit then some resDEBUG
  else none

/-- A command whose block has been read goes on with `run` where it passes its checks, and is answered where it does
not. -/
def answerCmd (code : Nat) (part closed : Bool) (b : Blob) (run : State → State) (failed : State → SecResult)
    (s : State) : State :=
  match secCheck part closed b s with
  | none => run s
  | some r => if b.bad || (b.data.getD 0 0).toNat != code then secAnswer (r, [], s) else secAnswer (r, [], (failed s).2.2)

/-- The block of a command that is under way has been read. A block that holds another command leaves this one alone.
Data dropped because master enable was cleared is read again (R119; assumption log 28). -/
def runSecCmd (code : Nat) (part closed : Bool) (b : Blob) (run : State → State) (failed : State → SecResult)
    (s : State) : State :=
  let c := (b.data.getD 0 0).toNat
  let mine : Bool := b.bad || c == code || c == 0 || decide (8 < c)
  wholeCommand (fun w => w == .command)
    (fun s => if !mine then s else match wholeBack (fun w => w == .command) s with
      | (some (_, true), s) => issueAll (askCommand s)
      | (some (_, false), s) => answerCmd code part closed b run failed s
      | (none, s) => s) s

/-- A command that leaves everything as it is when it fails. -/
def noFail (s : State) : SecResult := (resOK, [], s)

/-- A failure that changes nothing. -/
def secFail (r : Byte) (s : State) : SecResult := (r, [], s)

/-- The physical address in ARG of a command block (R328). -/
def cmdArg (block : List Byte) : Nat := sliceNat block 8 8 % 2 ^ 48

/-- The read of what ARG names, once the block has been read: `len` bytes (assumption log 48). -/
def askArgument (len : Nat) (block : List Byte) (s : State) : State :=
  issueAll (askWhole .argument (cmdArg block) len (modSec (fun x => { x with cmdBlock := some block }) s))

/-- A command with an argument: its block names the address that `len` bytes are read from, and once they have come the
command runs. A command that waits for its argument meets its checks again then (R330, R347). -/
def runArgCmd (code : Nat) (part closed : Bool) (len : Nat) (b arg : Blob) (run : Blob → Blob → State → SecResult)
    (s : State) : State :=
  match s.sec.cmdBlock with
  | none => runSecCmd code part closed b (askArgument len b.data) noFail s
  | some block =>
    let b : Blob := ⟨block, false⟩
    let isArg : Whole → Bool := fun w => w == .argument
    wholeCommand isArg
      (fun s => if (block.getD 0 0).toNat != code then s else match wholeBack isArg s with
        | (some (_, true), s) => issueAll (askWhole .argument (cmdArg block) len s)
        | (some (_, false), s) =>
          answerCmd code part closed b (fun s => secAnswer (run b arg s)) noFail
            (modSec (fun x => { x with cmdBlock := none }) s)
        | (none, s) => s) s

/-- EPH_GEN (R331, R332). -/
def ephRun (b : Blob) (s : State) : SecResult :=
  let p := cmdPart b
  let c := cmdChan b
  if (partOf s p).state != .active || (chanOf s c).state != .closed then secFail resSTATE s
  else match freeSlot s with
    | none => secFail resNOSLOT s
    | some i =>
      let priv := drawBytes 48 s
      let nonce := drawBytes 32 priv.2
      let s := setKey i priv.1 nonce.2
      let body := serialBytes s ++ [ownId s, BitVec.ofNat 8 c] ++ leBytes 2 (partOf s p).key.toNat ++ zeros 4 ++ nonce.1
        ++ publicOf priv.1
      let sig := dikSign body s
      let v : Chan := { Chan.initial with state := .pending, part := p, peer := cmdPeer b, ephSlot := some i,
                                          nonce := nonce.1 }
      (resOK, body ++ sig.1, setChan c v sig.2)

/-- A failed CHAN_OPEN zeroizes its ephemeral slot (R330). -/
def openFailed (r : Byte) (b : Blob) (s : State) : SecResult :=
  let c := cmdChan b
  let v := chanOf s c
  if v.state = .pending then (r, [], setChan c { v with ephSlot := none } (zeroize v.ephSlot s)) else (r, [], s)

/-- The channel key (R333). -/
def channelKey (own peer : NodeId) (mine theirs shared : List Byte) (c : Nat) (key : PKey) : List Byte :=
  let low : Bool := own.toNat < peer.toNat
  let salt := if low then mine ++ theirs else theirs ++ mine
  let ids := if low then [own, peer] else [peer, own]
  let label : List Byte := [0x44, 0x5A, 0x50, 0x2D, 0x53, 0x45, 0x41, 0x4C]
  fit 32 (Config.hkdf salt shared (label ++ ids ++ [BitVec.ofNat 8 c] ++ leBytes 2 key.toNat) 32)

/-- CHAN_OPEN (R331, R333). -/
def openRun (b : Blob) (s : State) : SecResult :=
  let p := cmdPart b
  let c := cmdChan b
  let v := chanOf s c
  let tok := cmdIn b 0 240
  let key := (partOf s p).key
  if (partOf s p).state != .active || v.state != .pending || v.ephSlot.isNone then openFailed resSTATE b s
  else if !Config.ecdsaVerify (cmdIn b 240 96) (tok.take 144) (tok.drop 144) then openFailed resBADSIG b s
  else if tok.getD 9 0 != BitVec.ofNat 8 c || sliceNat tok 10 2 != key.toNat || tok.getD 8 0 != cmdPeer b
      || cmdPeer b == ownId s then openFailed resMISMATCH b s
  else match freeSlot s with
    | none => openFailed resNOSLOT b s
    | some i =>
      let shared := Config.ecdh (slotKey s (v.ephSlot.getD 0)) (slice tok 48 96)
      let k := channelKey (ownId s) (cmdPeer b) v.nonce (slice tok 16 32) shared c key
      let s := setKey i k (zeroize v.ephSlot s)
      (resOK, [], setChan c { Chan.initial with state := .opened, part := p, peer := cmdPeer b, keySlot := some i } s)

/-- CHAN_CLOSE (R331). -/
def closeRun (b : Blob) (s : State) : SecResult := (resOK, [], closeChan (cmdChan b) s)

/-- A weight-seal blob is laid out as R338 says. -/
def blobOk (d : List Byte) : Bool :=
  let n := sliceNat d 28 2
  sliceNat d 0 4 == 0x4C455357 && d.getD 17 0 == 0 && allZero (slice d 30 2) && 1 ≤ n && n ≤ 256
    && 1 ≤ sliceNat d 20 8 && sliceNat d 20 8 ≤ 2 ^ 35 && sliceNat d 8 8 < 2 ^ 52 && sliceNat d 8 8 % 2048 == 0
    && (List.range n).all fun i => allZero (slice d (232 + 64 * i) 8) && allZero (slice d (280 + 64 * i) 8)

/-- WSEAL_OPEN (R331, R338). -/
def wsealRun (b arg : Blob) (s : State) : SecResult :=
  let p := cmdPart b
  let c := cmdChan b
  let d := arg.data
  let n := sliceNat d 28 2
  let part := partOf s p
  let len := 224 + 64 * n
  if arg.bad then secFail resMEMERR s
  else if part.state != .active || (chanOf s c).state != .closed then secFail resSTATE s
  else if !blobOk d then secFail resBADCMD s
  else if fit 48 (Config.sha384 (slice d 32 96)) != part.owner
      || !Config.ecdsaVerify (slice d 32 96) (d.take len) (slice d len 96) then secFail resBADSIG s
  else if sliceNat d 18 2 != part.key.toNat || d.getD 16 0 == ownId s then secFail resMISMATCH s
  else match (List.range n).find? (fun i => sliceNat d (224 + 64 * i) 8 == (fuseView s).serial.toNat) with
    | none => secFail resNOTINSET s
    | some i =>
      let label : List Byte := [0x44, 0x5A, 0x50, 0x2D, 0x57, 0x53, 0x45, 0x41, 0x4C]
      let wrap := fit 32 (Config.hkdf (slice d 4 4) (Config.ecdh (slotKey s 1) (slice d 128 96)) (label ++ serialBytes s) 32)
      match Config.keyUnwrap wrap (slice d (240 + 64 * i) 40), freeSlot s with
      | none, _ => secFail resBADSIG s
      | _, none => secFail resNOSLOT s
      | some k, some slot =>
        let v : Chan := { Chan.initial with
          state := .weight, part := p, peer := d.getD 16 0, keySlot := some slot
          imageId := BitVec.ofNat 32 (sliceNat d 4 4), img := sliceNat d 8 8, nrec := sliceNat d 20 8 }
        (resOK, [], setChan c v (setKey slot (fit 32 k) s))

/-- DEBUG_OPENS: the programmed bits of the OPENS row (R340, R426). -/
def debugOpens (s : State) : Nat := popcount 32 s.fuses.opens

/-- Bytes 0 to 415 of the attestation report (R340). -/
def reportBody (part : Nat) (nonce : List Byte) (s : State) : List Byte :=
  let v := partOf s part
  let flags := bitOf s.keeper.trial + 2 * bitOf s.keeper.bankB + 4 * bitOf s.sec.cfgDirect
  fit 416 (leBytes 4 0x54415A4B ++ leBytes 2 1 ++ [0xB0, BitVec.ofNat 8 (bitOf s.sec.openBit)] ++ serialBytes s
    ++ leBytes 2 (debugOpens s) ++ [ownId s, BitVec.ofNat 8 part] ++ leBytes 2 v.key.toNat ++ zeros 2
    ++ leBytes 4 (fwVersion s) ++ leBytes 4 (rollback s) ++ leBytes 4 (fld s Reg.GEN_CFG_ID 0 32) ++ leBytes 4 flags
    ++ fit 48 nonce ++ fit 48 (Config.sha384 (runBank s).image) ++ fit 48 (s.sec.cfgDigest.getD []) ++ fit 48 v.owner
    ++ publicOf (slotKey s 1))

/-- ATTEST (R340). -/
def attestRun (b : Blob) (s : State) : SecResult :=
  if (partOf s (cmdPart b)).state != .active then secFail resSTATE s
  else
    let body := reportBody (cmdPart b) (cmdIn b 0 48) s
    let sig := dikSign body s
    (resOK, body ++ sig.1, sig.2)

/-- CERT (R329, R426): the length in the first 16 bits of the row, then the certificate. -/
def certRun (s : State) : SecResult :=
  let row := (fuseView s).cert
  let n := row % 2 ^ 16
  (resOK, fit (min (4 + n) 2048) (leBytes 4 n ++ leBytes n (row / 2 ^ 16)), s)

/-- MGMT_KEYGEN (R348). -/
def keygenRun (b : Blob) (s : State) : SecResult :=
  let k := Config.managementKey (fuseView s).secret (cmdIn b 0 32)
  let sig := dikSign (publicOf k ++ serialBytes s) s
  (resOK, publicOf k ++ sig.1, setKey 2 k sig.2)

/-- MGMT_LOAD (R348). -/
def loadRun (arg : Blob) (s : State) : SecResult :=
  if arg.bad then secFail resMEMERR s
  else if (Config.bundleKey arg.data).map (fit 96) != some (publicOf (slotKey s 2)) then secFail resMISMATCH s
  else (resOK, [], modKeeper (fun k => { k with sessions := 0 })
    { s with flash := { s.flash with bundle := sealBundle arg.data } })

/-! ### Meanings: partitions and commands -/

/-- ENABLE. -/
def execEnable (part : BitVec 6) (s : State) : Res := .next (onlyIf (coreUp s) (partCtlWrite (part.toNat + 2 ^ 8)) s)

/-- TEARDOWN. -/
def execTeardown (part : BitVec 6) (s : State) : Res :=
  .next (onlyIf (coreUp s) (partCtlWrite (part.toNat + 2 * 2 ^ 8)) s)

/-- TEARDOWN_DRAIN_END: T4 ends and T5 runs. -/
def execTeardownDrainEnd (part : BitVec 6) (s : State) : Res :=
  let p := part.toNat
  .next (onlyIf (coreUp s && (partOf s p).state == .teardown && !(partOf s p).drained && partDrained s p)
    (fun s => modPart p (fun v => { v with drained := true }) (scrubPart p s)) s)

/-- TEARDOWN_DONE: T6. -/
def execTeardownDone (part : BitVec 6) (s : State) : Res :=
  let p := part.toNat
  .next (onlyIf (coreUp s && (partOf s p).state == .teardown && (partOf s p).drained)
    (fun s => raise Reg.SEC_PART_STATUS 5 (freePart p s)) s)

/-- PKEY_QUARANTINE_END (R325). -/
def execPkeyQuarantineEnd (key : PKey) (s : State) : Res :=
  .next (modSec (fun x => { x with quarantine := x.quarantine.erase key }) s)

/-- EPH_GEN. -/
def execEphGen (block : Blob) (s : State) : Res := .next (runSecCmd 1 true true block (fun s => secAnswer (ephRun block s)) noFail s)

/-- CHAN_OPEN. -/
def execChanOpen (block : Blob) (s : State) : Res :=
  .next (runSecCmd 2 true true block (fun s => secAnswer (openRun block s)) (openFailed resOK block) s)

/-- CHAN_CLOSE. -/
def execChanClose (block : Blob) (s : State) : Res :=
  .next (runSecCmd 3 false false block (fun s => secAnswer (closeRun block s)) noFail s)

/-- Bytes that are read for a weight-seal blob: as many as one of 256 entries has (R338; assumption log 48). -/
def blobBytes : Nat := 224 + 64 * 256 + 96

/-- WSEAL_OPEN: with the block, and again with the blob that ARG names. -/
def execWsealOpen (block arg : Blob) (s : State) : Res := .next (runArgCmd 4 true true blobBytes block arg wsealRun s)

/-- ATTEST. -/
def execAttest (block : Blob) (s : State) : Res := .next (runSecCmd 5 true false block (fun s => secAnswer (attestRun block s)) noFail s)

/-- CERT. -/
def execCert (block : Blob) (s : State) : Res := .next (runSecCmd 6 false false block (fun s => secAnswer (certRun s)) noFail s)

/-- MGMT_KEYGEN. -/
def execMgmtKeygen (block : Blob) (s : State) : Res := .next (runSecCmd 7 false true block (fun s => secAnswer (keygenRun block s)) noFail s)

/-- Bytes that are read for a management bundle: as many as its place in the flash has beside the CRC (R396; assumption
log 48). -/
def bundleBytes : Nat := 65536 - 4

/-- MGMT_LOAD: with the block, and again with the bundle that ARG names. The keeper stores a bundle that passes, so that
waits for the keeper; a command that fails does not. -/
def execMgmtLoad (block arg : Blob) (s : State) : Res :=
  let waits : Bool := coreUp s && !keeperRuns s && s.sec.cmdBlock.isSome && !s.sec.openBit && (loadRun arg s).1 == resOK
  .next (onlyIf (!waits) (runArgCmd 8 false true bundleBytes block arg fun _ => loadRun) s)

/-- CHAN_PENDING_TIMEOUT (R331). -/
def execChanPendingTimeout (c : Byte) (s : State) : Res :=
  .next (onlyIf ((chanOf s c.toNat).state == .pending) (closeChan c.toNat) s)

/-- SCRUB_ALL. -/
def execScrubAll (s : State) : Res := .next (onlyIf (coreUp s) scrubWrite s)

/-- SCRUB_DONE. -/
def execScrubDone (s : State) : Res :=
  .next (onlyIf (coreUp s && bit s Reg.SEC_SCRUB_STATUS 0 && (livePart s).all (partDrained s) && markedDue s) endScrub s)

/-! ### Debug access and test access ports (R345 to R347, R428) -/

/-- The number of a test access port. -/
def TapPort.index : TapPort → Nat
  | .jtag => 0
  | .debug => 1

/-- The instruction a test access port acts on: 0 BYPASS, 1 IDCODE, 2 SAMPLE/PRELOAD, 3 another (R428). -/
def setTap (t : TapPort) (i : Nat) (s : State) : State := modSec (fun x => { x with tapIr := x.tapIr.set t.index i }) s

/-- Steps 1 and 2 of an opening begin (R346). Where master enable was 1, the descriptors that step 1 marks keep their
records (R349). -/
def startOpening (s : State) : State := zeroize (some 2) (startScrub (masterEn s) (masterClear s))

/-- DEBUG_ACCESS_REQUEST (R345, R346): refused under DBG_LOCK; otherwise master enable drops and the scrub takes over,
once step 3 of the release has passed (R375). Once granted, access stays. -/
def execDebugAccessRequest (tap : TapPort) (s : State) : Res :=
  .next (if (fuseView s).dbgLock then setTap tap 0 s
    else if s.sec.granted || s.sec.opening then setTap tap 3 s
    else onlyIf (coreUp s) startOpening (modSec (fun x => { x with opening := true }) (setTap tap 3 s)))

/-- DEBUG_ACCESS_GRANTED (R346): OPEN is set, DEBUG_OPENS rises by one, and access is granted. -/
def execDebugAccessGranted (s : State) : Res :=
  .next (onlyIf (coreUp s && s.sec.opening && !bit s Reg.SEC_SCRUB_STATUS 0)
    (fun s =>
      postOwn 0x0703 0 0 (modSec (fun x => { x with openBit := true, opening := false, granted := true })
        (modFuses (fun x => { x with opens := programTo 32 (popcount 32 x.opens + 1) x.opens }) s))) s)

/-- JTAG_IDCODE (R428): version 0xB, part number 0x4B36, the MFR row, and the mandatory 1 in bit 0. -/
def execJtagIdcode (tap : TapPort) (s : State) : Res :=
  .next (drive (.tdo (0xB * 2 ^ 28 + 0x4B36 * 2 ^ 12 + (fuseView s).mfr.toNat * 2 + 1) 32) (setTap tap 1 s))

/-- JTAG_BYPASS: the one-bit bypass register, which captures 0. -/
def execJtagBypass (tap : TapPort) (s : State) : Res := .next (drive (.tdo 0 1) (setTap tap 0 s))

/-- JTAG_SAMPLE_PRELOAD on the JTAG port (R428): the cells sampled, or shifted in, are held. -/
def execJtagSamplePreload (cells : List Bool) (s : State) : Res :=
  .next (setTap .jtag 2 (modSec (fun x => { x with cells := cells }) s))

/-- MGMT_DTLS_HANDSHAKE (R347, R348). -/
def execMgmtDtlsHandshake (h : Handshake) (s : State) : Res :=
  let ok : Bool := keeperRuns s && !(bundleOf s).isEmpty && !s.sec.openBit && s.keeper.sessions < 4
    && Config.clientAccepted (bundleOf s) h.chain h.proof
  .next (drive (.session ok) (if ok then modKeeper (fun k => { k with sessions := k.sessions + 1 }) s else s))

/-! ### The fuse bus (R426) -/

/-- What a read of a fuse row returns (R426). -/
def Fuses.read (f : Fuses) : FuseRow → Nat
  | .serial => f.serial.toNat
  | .txMap => f.txMap.toNat
  | .dbgLock => bitOf f.dbgLock
  | .mfr => f.mfr.toNat
  | .mac => f.mac.toNat
  | .cal => f.cal
  | .opens => f.opens
  | .arb => f.arb
  | .cert => f.cert
  | .secret => 0

/-- Bits of a row programmed: none is ever cleared. SECRET is never supplied from outside (R426). -/
def Fuses.program (f : Fuses) (row : FuseRow) (v : Nat) : Fuses :=
  match row with
  | .serial => { f with serial := f.serial ||| BitVec.ofNat 64 v }
  | .txMap => { f with txMap := f.txMap ||| BitVec.ofNat 72 v }
  | .dbgLock => { f with dbgLock := f.dbgLock || v.testBit 0 }
  | .mfr => { f with mfr := f.mfr ||| BitVec.ofNat 11 v }
  | .mac => { f with mac := f.mac ||| BitVec.ofNat 48 v }
  | .cal => { f with cal := f.cal ||| (v % 2 ^ 18432) }
  | .opens => { f with opens := f.opens ||| (v % 2 ^ 32) }
  | .arb => { f with arb := f.arb ||| (v % 2 ^ 64) }
  | .cert => { f with cert := f.cert ||| (v % 2 ^ 16384) }
  | .secret => f

/-- FUSE_PROGRAM: only while `RST_HARD_N` is low (R426, R431). -/
def execFuseProgram (row : FuseRow) (bits : Nat) (s : State) : Res :=
  .next (onlyIf s.rst.hardLow (fun s => { s with fuses := s.fuses.program row bits }) s)

/-- FUSE_READ. -/
def execFuseRead (row : FuseRow) (s : State) : Res := .next (drive (.fuseBus (s.fuses.read row)) s)

end Sys2Proof.Machine
end

