-- ==== Sys2Proof/Machine/Reset.lean ====
section
/-!
DEFINITION. Machine/Reset.lean: reset sources, what each clears, the release sequence, clocks, sensors, the thermal trip
and errors in protected state (R350 to R375, R395).
-/

namespace Sys2Proof.Machine

/-- The reset unit changed by `f`. -/
def modRst (f : ResetUnit → ResetUnit) (s : State) : State := { s with rst := f s.rst }

/-- What a reset scope covers (R350). -/
inductive Scope where
  | power | hard | soft
  deriving DecidableEq, Repr

/-- The codes of `RST_CAUSE` (R446). -/
abbrev causePOR : Nat := 0
abbrev causeHARD : Nat := 1
abbrev causeTHERMAL : Nat := 2
abbrev causeSOFT : Nat := 3

/-! ### What a reset clears (R353) -/

/-- Beats of a write request: 256 bytes each (R411, R412). -/
def MemReq.beats (r : MemReq) : Nat := (r.nline + 3) / 4

/-- The write burst that a port has started when a reset comes (R360): its youngest outstanding write, if some of that
write's beats are still to be sent, which is a free choice. -/
def startedBurst (port : Nat) (s : State) : State :=
  match (s.mem.out.filter fun r => r.write && r.port == port).getLast? with
  | none => s
  | some r =>
    let x := draw s
    let left := x.1 % (r.beats + 1)
    onlyIf (0 < left) (fun s => drive (.zeroBeats port left)
      { s with rst := { s.rst with bursts := s.rst.bursts ++ [(port, left)] } }) x.2

/-- The core island goes into reset: its registers and everything its units hold (R241, R327, R353). Requests that the
memory ports have taken leave responses that will be discarded, and a port finishes a burst it has started with all
byte enables 0 (R360). The keeper's memory is its own (R353). -/
def resetCore (s : State) : State :=
  let incarn := reg s Reg.FAB_INCARN
  let stale := staleOf s.mem
  let s := each (List.range 16) startedBurst s
  let s := setReg Reg.FAB_INCARN incarn (clearRegs isCoreReg s)
  { s with
    evq := []
    rst := { s.rst with coreUp := false, unitsUp := false, tiles := 0, stale := s.rst.stale ++ stale }
    sec := { s.sec with parts := Tbl.empty, quarantine := [], keys := s.sec.keys.keep (· < 4), chans := Tbl.empty,
                        cfgDigest := none, cfgDirect := false }
    txn := Txn.initial, mem := MemPorts.initial, xlt := Xlat.initial, imp := Impeller.initial, qe := QueueEng.initial
    seq := Sequencer.initial, router := Router.initial
    keeper := { s.keeper with hostBusy := false } }

/-- The link islands go into reset (R353): LRESETS is cleared, or rises by one at a soft reset. -/
def resetLinks (soft : Bool) (s : State) : State :=
  let old (k : Nat) : BitVec 16 := (link s k).lresets
  let links : Tbl Link := if soft then
    ⟨(List.range 36).map fun k => (k, { Link.initial with lresets := old k + 1 })⟩ else Tbl.empty
  { clearRegs (fun a => 0x40000 ≤ a && a < 0xA4000) s with links := links, lanes := Tbl.empty }

/-- The keeper island goes into reset and will boot anew (R353, R385). -/
def resetKeeperIsland (s : State) : State :=
  let s := clearRegs (fun a => 0x6000 ≤ a && a < 0x7000) s
  { s with keeper := Keeper.initial, rst := { s.rst with keeperUp := false, wdExpiries := [] } }

/-- A reset of a scope takes effect (R350, R353). -/
def takeReset (sc : Scope) (cause : Nat) (s : State) : State :=
  let soft : Bool := sc == .soft
  let s := resetLinks soft (resetCore s)
  let s := if soft then s else clearRegs (fun a => 0x1000 ≤ a && a < 0x2000 && a != Reg.RST_CAUSE) (resetKeeperIsland s)
  let s := setReg Reg.RST_CAUSE (BitVec.ofNat 64 cause) s
  let s := match sc with
    | .power =>
      { setReg Reg.FAB_INCARN 0 s with
        shadow := none, now := 0, rst := { s.rst with pllInput := some 0, hot := [], tripDue := false }, sec := { s.sec with openBit := false, opening := false, granted := false } }
    | .hard => setReg Reg.FAB_INCARN (BitVec.ofNat 64 ((fld s Reg.FAB_INCARN 0 16 + 1) % 2 ^ 16)) s
    | .soft => s
  modRst (fun r => { r with step := if soft then .pll else .held, soft := soft }) s

/-- The lowest-numbered reference input within tolerance. -/
def lowestRef (r : BitVec 9) : Option Nat := (List.range 9).find? fun g => r.getLsbD g

/-- A low or high pulse of a reset input is honoured (R351): from 40 ns up to 80 ns it is a free choice. -/
def pulse (width : Nat) (s : State) : Bool × State :=
  if width < 40 then (false, s) else if width < 80 then choose s else (true, s)

/-- The core PLL moves to the lowest-numbered input within tolerance, or free-runs (R365). -/
def moveCorePll (s : State) : State :=
  let to_ := lowestRef s.rst.refOk
  let s := modRst (fun x => { x with pllInput := to_ }) s
  if to_.isSome then postOwn 0x0804 0 0 (raise Reg.RST_STATUS 4 s) else s

/-- The core PLL leaves an input that has been lost (R365), also one lost while the power-on reset was held. -/
def leaveLostRef (s : State) : State :=
  match s.rst.pllInput with
  | some g => if s.rst.refOk.getLsbD g then s else moveCorePll s
  | none => s

/-- Every sensor reads 95 °C or less (R372). -/
def allCool (s : State) : Bool := (s.rst.sensors.tiles ++ s.rst.sensors.cores).all fun t => decide (t ≤ 380)

/-- POWER_ON (R350, R353). -/
def execPowerOn (width : Nat) (s : State) : Res :=
  let r := pulse width s
  .next (if r.1 then
      takeReset .power causePOR (modRst (fun x => { x with porLow := true, trip := false }) r.2)
    else r.2)

/-- HARD_RESET (R350, R353): the trip latch clears where every sensor is cool (R372). -/
def execHardReset (width : Nat) (s : State) : Res :=
  let r := pulse width s
  .next (if !r.1 then r.2
    else
      let s := modRst (fun x => { x with hardLow := true, trip := x.trip && !allCool s }) r.2
      if s.rst.porLow then s else takeReset .hard causeHARD s)

/-- THERMAL_TRIP (R372), once a sensor has read 115 °C or more in two samples running: `RST_TRIP_N` is low while the latch
is set. -/
def execThermalTrip (s : State) : Res :=
  .next (onlyIf (!s.rst.porLow && !s.rst.trip && s.rst.tripDue)
    (fun s => takeReset .hard causeTHERMAL (modRst (fun x => { x with trip := true, tripDue := false }) s)) s)

/-- A write of 1 to `RST_CTL.SOFT` (R358, R395). -/
def softReset (s : State) : State :=
  if s.rst.porLow then s
  else if coreUp s && quiesced s && !bit s Reg.GEN_STATUS 5 then takeReset .soft causeSOFT s
  else postOwn 0x0805 0 0 (raise Reg.RST_STATUS 3 s)

/-- SOFT_RESET. -/
def execSoftReset (s : State) : Res := .next (softReset s)

/-- RESET_BURST_TIMEOUT (R360): beats of the port's burst have not been accepted; the port drops valid, and the burst
ends. -/
def execResetBurstTimeout (port : Fin 16) (s : State) : Res :=
  .next (onlyIf (s.rst.bursts.any fun b => b.1 == port.val)
    (fun s => drive (.burstEnd port.val)
      (modRst (fun x => { x with bursts := x.bursts.filter fun b => b.1 != port.val }) s)) s)

/-! ### The release sequence (R354, R355) -/

/-- RESET_RELEASE (R351, R354): the sequence starts once both inputs are high and no trip is latched. -/
def execResetRelease (pin : ResetPin) (width : Nat) (s : State) : Res :=
  let r := pulse width s
  .next (if !r.1 then r.2
    else
      let s := match pin with
        | .por => leaveLostRef (modRst (fun x => { x with porLow := false }) r.2)
        | .hard => modRst (fun x => { x with hardLow := false }) r.2
      if !s.rst.porLow && !s.rst.hardLow && !s.rst.trip && s.rst.step == .held then
        modRst (fun x => { x with step := .fuse }) s
      else s)

/-- The fuse shadow is loaded; a blank SECRET is generated and programmed first (R353, R354, R426). -/
def loadShadow (s : State) : State :=
  match s.shadow with
  | some _ => s
  | none =>
    let s := if s.fuses.secret = 0 then
        (let r := drawBytes 64 s
         { r.2 with fuses := { r.2.fuses with secret := leNat r.1 } })
      else s
    { s with shadow := some s.fuses }

/-- FUSE_SHADOW_VALID: step 2, the keeper is released. -/
def execFuseShadowValid (s : State) : Res :=
  .next (onlyIf (s.rst.step == .fuse)
    (fun s => modRst (fun x => { x with keeperUp := true, step := .pll }) (loadShadow s)) s)

/-- A debug request that waited for step 3 goes on, unless the fuses that have been loaded since refuse it (R345,
R375). -/
def waitingDebug (s : State) : State :=
  if !s.sec.opening then s
  else if (fuseView s).dbgLock then modSec (fun x => { x with opening := false }) s
  else startOpening s

/-- CORE_PLL_LOCKED: step 3, with the device keys derived (R326), and the exclusions of a keeper that ran on in force again
(R353, R379); a debug request that waited goes on (R375). -/
def execCorePllLocked (s : State) : Res :=
  .next (onlyIf (s.rst.step == .pll)
    (fun s =>
      waitingDebug (keeperBounds (deriveKeys (modRst (fun x => { x with coreUp := true, step := .units, stale := [], bursts := [] }) s)))) s)

/-- RELEASE_GAP_EXPIRY: steps 4 and 5; a gap is counted while any reference input is within tolerance. A released link
primes where the conditions for it are met already (R274). -/
def execReleaseGapExpiry (s : State) : Res :=
  .next (onlyIf (s.rst.refOk != 0)
    (fun s => match s.rst.step with
      | .units => modRst (fun x => { x with unitsUp := true, step := .tile 0 }) s
      | .tile n =>
        tryPrime n (modRst (fun x => { x with tiles := n + 1, step := if n = 35 then .done else .tile (n + 1) }) s)
      | _ => s) s)

/-! ### Reference inputs and the core clock (R291, R363 to R365) -/

/-- Every active lane of link `k` reports LOL (R291). -/
def loseLock (k : Nat) (s : State) : State :=
  let s := each (activeLanes s k) setLol s
  if (link s k).state = .active then startRetrain k true s else s

/-- REF_INPUT_LOSS. -/
def execRefInputLoss (g : Fin 9) (s : State) : Res :=
  .next (onlyIf (s.rst.refOk.getLsbD g.val)
    (fun s =>
      let s := modRst (fun x => { x with refOk := x.refOk &&& ~~~(1#9 <<< g.val) }) s
      let s := if s.rst.pllInput = some g.val && !s.rst.porLow then moveCorePll s else s
      let ks := ((List.range 4).map (4 * g.val + ·)).filter fun k => coreUp s && tileUp s k
      if ks.isEmpty then s else settle (each ks loseLock s)) s)

/-- REF_INPUT_RETURN: a held release goes on with its next gap; a core PLL that free-ran locks again. -/
def execRefInputReturn (g : Fin 9) (s : State) : Res :=
  .next (
    let s := modRst (fun x => { x with refOk := x.refOk ||| (1#9 <<< g.val) }) s
    if s.rst.pllInput.isNone then modRst (fun x => { x with pllInput := lowestRef x.refOk }) s else s)

/-- A write of `RST_CLK_CTL` (R363): saturated, and rounded down to a step of 25 MHz. -/
def coreMhzWrite (v : Nat) (s : State) : State :=
  let w := v % 2 ^ 12
  let x := max 1200 (min w 2000) / 25 * 25
  let s := setReg Reg.RST_CLK_CTL (BitVec.ofNat 64 x) s
  if x != w && coreUp s then raise Reg.GEN_STATUS 0 s else s

/-- CORE_MHZ_WRITE. -/
def execCoreMhzWrite (v : Word) (s : State) : Res := .next (onlyIf (!s.rst.porLow) (coreMhzWrite v.toNat) s)

/-- CORE_CLOCK_STEP (R363): 25 MHz toward the setting. -/
def execCoreClockStep (s : State) : Res :=
  .next (onlyIf (!s.rst.porLow)
    (fun s =>
      let cur := fld s Reg.RST_CLK_STATUS 0 12
      let goal := fld s Reg.RST_CLK_CTL 0 12
      setFld Reg.RST_CLK_STATUS 0 12 (if cur < goal then min goal (cur + 25) else max goal (cur - 25)) s) s)

/-! ### Sensors (R364, R369, R371) -/

/-- The minimum VCORE in mV for a core clock (R364). -/
def vcoreMin (mhz : Nat) : Nat := if mhz ≤ 1400 then 700 else if mhz ≤ 1600 then 720 else if mhz ≤ 1800 then 750 else 800

/-- VCORE_SAMPLE (R364): the event names the lowest-numbered pair that reads too low, with its reading. -/
def execVcoreSample (mv : List Nat) (s : State) : Res :=
  .next (onlyIf (!s.rst.porLow)
    (fun s =>
      let v := (List.range 4).foldl (fun n j => n + mv.getD j 0 % 2 ^ 16 * 2 ^ (16 * j)) 0
      let s := setReg Reg.RST_VCORE (BitVec.ofNat 64 v) s
      match (List.range 4).find? (fun j => mv.getD j 0 < vcoreMin (fld s Reg.RST_CLK_STATUS 0 12)) with
      | some j => postOwn 0x0801 j (mv.getD j 0) s
      | none => s) s)

/-- A tile's readings against the limits of R369 (R371). -/
def checkTile (k : Nat) (s : State) : State :=
  let s := if tempPasses s k 420 120 160 then postOwn 0x0802 k (half (tileTemp s k)) s else s
  if vlinkPasses s k then postOwn 0x0803 k (s.rst.sensors.vlink.getD k 0) s else s

/-- The sensors that read 115 °C or more in a sample: tiles from 0, core sensors from 36 (R372). -/
def hotSensors (r : Sensors) : List Nat :=
  ((List.range 36).filter fun i => 460 ≤ r.tiles.getD i 0)
    ++ ((List.range 4).filter fun i => 460 ≤ r.cores.getD i 0).map (36 + ·)

/-- A sample is taken: a sensor that reads 115 °C or more for the second time running calls for the trip (R372). -/
def takeSample (r : Sensors) (s : State) : State :=
  let hot := hotSensors r
  modRst (fun x => { x with sensors := r, hot := hot, tripDue := x.tripDue || hot.any fun i => x.hot.contains i }) s

/-- SENSOR_SAMPLE (R369, R371, R372). -/
def execSensorSample (r : Sensors) (s : State) : Res :=
  .next (onlyIf (!s.rst.porLow)
    (fun s =>
      let s := each (List.range 36) checkTile (takeSample r s)
      if 420 < coreTemp s then postOwn 0x0802 36 (half (coreTemp s)) s else s) s)

/-! ### Errors in protected state (R395) -/

/-- The number of a protected array, in R395's order. -/
def ProtArray.number : ProtArray → Nat
  | .tags => 0
  | .windows => 1
  | .heldWrites => 2
  | .routeTables => 3
  | .admission => 4
  | .rangeCache => 5
  | .queues => 6

/-- ECC_ERROR (R395). -/
def execEccError (array : ProtArray) (index : Nat) (correctable : Bool) (s : State) : Res :=
  .next (onlyIf (coreUp s)
    (fun s =>
      if correctable then postOwn 0x0104 array.number index s
      else if array = .rangeCache then
        postOwn 0x0104 array.number index { s with xlt := { s.xlt with frags := s.xlt.frags.eraseIdx index } }
      else
        let s := fabCtlWrite (withField (reg s Reg.FAB_CTL) 1 1 0).toNat (masterClear s)
        postOwn 0x0105 array.number index (raise Reg.GEN_STATUS 5 s)) s)

end Sys2Proof.Machine
end

