-- ==== Sys2Proof/Machine/ConfigPort.lean ====
section
/-!
DEFINITION. Machine/ConfigPort.lean: the configuration port (R357, R419, R441 to R454), register writes by family, and the
configuration image (R122 to R125).
-/

namespace Sys2Proof.Machine

/-! ### The state of the configuration (R123 to R125) -/

/-- `GEN_CFG_STATUS.STATE`: 0 EMPTY, 1 LOADING, 2 LOADED, 3 REFUSED. -/
def cfgState (s : State) : Nat := fld s Reg.GEN_CFG_STATUS 0 2

/-- `GEN_CFG_STATUS` set. -/
def setCfg (st cause entry : Nat) (s : State) : State :=
  setReg Reg.GEN_CFG_STATUS (BitVec.ofNat 64 (st + 2 ^ 4 * cause + 2 ^ 16 * entry)) s

/-- The image is refused (R124): flag and event, with the cause in DATA. -/
def refuseImage (cause entry : Nat) (s : State) : State :=
  postOwn 0x0103 entry cause (raise Reg.GEN_STATUS 2 (setCfg 3 cause entry s))

/-- LOADED is reached: links may prime (R124, R274). -/
def cfgLoaded (s : State) : State := each (List.range 36) tryPrime (setCfg 2 0 0 s)

/-- A LOAD (R123) reads the image, its header first; one while LOADING has no row there and does nothing. -/
def cfgLoad (s : State) : State :=
  if cfgState s = 2 then setCfg 2 0xC 0 s
  else if cfgState s = 1 then s
  else if masterEn s then issueAll (askWhole (.image true) (fld s Reg.GEN_CFG_BASE 6 42 * 64) 64 (setCfg 1 0 0 s))
  else refuseImage 0xB 0 s

/-- A DIRECT (R123, R125). -/
def cfgDirect (s : State) : State :=
  if cfgState s = 2 then setCfg 2 0xC 0 s
  else if cfgState s = 1 then s
  else cfgLoaded (modSec (fun x => { x with cfgDigest := none, cfgDirect := true }) s)

/-! ### Register writes by family -/

/-- A write of `XLT_WL_CFG` of stream `i`: STRIDE is signed and saturates at ±2^28 (R448, R4). -/
def windlassWrite (i v : Nat) (s : State) : State :=
  let x := signedOf 32 (v / 2 ^ 32)
  let c := if 268435456 < x then (268435456 : Int) else if x < -268435456 then -268435456 else x
  let s := storeReg (Reg.XLT_WL_CFG i) (v % 2 ^ 32 + 2 ^ 32 * codeOf 32 c) s
  if c != x then raise Reg.GEN_STATUS 0 s else s

/-- A write of `GEN_WIN_CTL` (R37, R42). -/
def winCtlWrite (v : Nat) (s : State) : State :=
  let s := setFld Reg.GEN_WIN_CTL 0 12 (v % 2 ^ 12) s
  if v.testBit 31 then resetWindow (v % 2 ^ 12) s else s

/-- A write of a `GEN_` register. -/
def writeGen (a v : Nat) (s : State) : State :=
  if a = Reg.GEN_CTL then (if v.testBit 0 then proceedAll (masterSet s) else masterClear s)
  else if a = Reg.GEN_CFG_CTL then
    (if v % 4 = 1 then cfgLoad s else if v % 4 = 2 then cfgDirect s else s)
  else if a = Reg.GEN_WIN_CTL then winCtlWrite v s
  else if a = Reg.GEN_TQ_CTL then tqCtlWrite v s
  else if a = Reg.GEN_TQ_BIND then tqBindWrite v s
  else if a = Reg.GEN_EXP_CTL then expertLoad (BitVec.ofNat 32 v) s
  else storeReg a v s

/-- A write of an `RST_` register. -/
def writeRst (a v : Nat) (s : State) : State :=
  if a = Reg.RST_CTL then
    let s := if v.testBit 0 then softReset s else s
    if v.testBit 1 then keeperRestart s else s
  else if a = Reg.RST_CLK_CTL then coreMhzWrite v s
  else storeReg a v s

/-- A write of a `FAB_` register. -/
def writeFab (a v : Nat) (s : State) : State :=
  if a = Reg.FAB_NODE_ID then nodeIdWrite false v s
  else if a = Reg.FAB_DIM_EN then nodeIdWrite true v s
  else if a = Reg.FAB_CTL then fabCtlWrite v s
  else if a = Reg.FAB_EPOCH_CTL then epochCtlWrite v s
  else if a = Reg.FAB_PKEY_LIST then pkeyListWrite v s
  else if a = Reg.FAB_PROBE_CTL then probeCtlWrite false v s
  else if 0x2100 ≤ a && a < 0x2140 then lportCtlWrite ((a - 0x2100) / 4) v s
  else if 0x2180 ≤ a && a < 0x2200 then lportLinksWrite ((a - 0x2180) / 8) v s
  else if 0x2800 ≤ a && a < 0x2C00 then routeWrite false ((a - 0x2800) / 4) v s
  else if 0x2C00 ≤ a && a < 0x3000 then routeWrite true ((a - 0x2C00) / 4) v s
  else storeReg a v s

/-- A write of an `XLT_` register. -/
def writeXlt (a v : Nat) (s : State) : State :=
  if a = Reg.XLT_INV_CTL then
    onlyIf (unitsUp s) (fun s => proceedAll (invCommand (natField v 0 4) (natField v 8 6) s)) s
  else if 0x3200 ≤ a && a < 0x3400 then proceedAll (dirWrite ((a - 0x3200) / 8) v s)
  else if 0x3400 ≤ a && a < 0x3600 then windlassWrite ((a - 0x3400) / 8) v s
  else storeReg a v s

/-- A write of an `IMP_` register. -/
def writeImp (a v : Nat) (s : State) : State :=
  if a = Reg.IMP_CHAIN_CTL then onlyIf (unitsUp s) (chainCtlWrite v) s
  else if a = Reg.IMP_PIPE_RSV then pipeRsvWrite v s
  else storeReg a v s

/-- A write of a `SEC_` register. -/
def writeSec (a v : Nat) (s : State) : State :=
  if a = Reg.SEC_PART_CTL then partCtlWrite v s
  else if a = Reg.SEC_CMD_CTL then onlyIf (v.testBit 0) secGo s
  else if a = Reg.SEC_SCRUB_CTL then onlyIf (v.testBit 0) scrubWrite s
  else storeReg a v s

/-- A command in `MGT_CAL_CTL` (R406). -/
def calCommand (cmd : Nat) (s : State) : State :=
  if !calReady s then s
  else if cmd = 1 then captureCmd s
  else if cmd = 2 then importCmd s
  else if cmd = 3 then exportCmd s
  else s

/-- A command in `MGT_FW_CTL` (R399). -/
def fwCommand (cmd : Nat) (s : State) : State :=
  if cmd = 1 then takeFw stageStart s
  else if cmd = 2 then takeFw activateBank s
  else if cmd = 3 then confirmCmd s
  else if cmd = 4 then takeFw revertCmd s
  else s

/-- A write of an `MGT_` register; policy brings the keeper within its bounds (R379). A write of KICK from here is
ignored (R450). -/
def writeMgt (a v : Nat) (s : State) : State :=
  if a = Reg.MGT_EVT_CONS then evtConsWrite v s
  else if a = Reg.MGT_EVT_CTL then hostStep (storeReg a v s)
  else if a = Reg.MGT_FW_CTL then fwCommand (v % 8) s
  else if a = Reg.MGT_CAL_CTL then calCommand (natField v 4 3) (storeReg a v s)
  else if [Reg.MGT_SLEEP_CTL, Reg.MGT_MARGIN_CTL, Reg.MGT_STEER_CTL, Reg.MGT_THERM_CTL, Reg.MGT_WDT_CTL].contains a then
    settle (keeperBounds (storeReg a v s))
  else storeReg a v s

/-- A write of a register of queue `q`. -/
def writeQueue (q a v : Nat) (s : State) : State :=
  if a = Reg.Q_CTL q then proceedAll (qCtlWrite q v s)
  else if [Reg.Q_RING_BASE q, Reg.Q_RING_SIZE q, Reg.Q_CR_BASE q, Reg.Q_CR_SIZE q].contains a then qSetup a q v s
  else storeReg a v s

/-- A write of a register of link `k`. -/
def writeLink (k a v : Nat) (s : State) : State :=
  if a = Reg.LNK_CTL k then lnkCtlWrite k v s
  else if a = Reg.LNK_SLEEP_CFG k then sleepCfgWrite k v s
  else if a = Reg.LNK_DUTY_CTL k then dutyCtlWrite k v s
  else storeReg a v s

/-- A write of a register of lane `n`. -/
def writeLane (n a v : Nat) (s : State) : State :=
  if a = Reg.LANE_TEST n then settle (laneTestWrite n v s)
  else if a = Reg.LANE_SQ_CTL n then sqCtlWrite n v s
  else if a = Reg.LANE_PRBS_CTL n then prbsCtlWrite n v s
  else storeReg a v s

/-- A whole register at base address `a` is written with `v`, by its family; an island in reset ignores it (R357). -/
def portWrite (a v : Nat) (s : State) : State :=
  if 0x1000 ≤ a && a < 0x2000 then onlyIf (!s.rst.porLow) (writeRst a v) s
  else if !coreUp s then s
  else if a < 0x1000 then writeGen a v s
  else if a < 0x3000 then writeFab a v s
  else if a < 0x4000 then writeXlt a v s
  else if a < 0x5000 then writeImp a v s
  else if a < 0x6000 then writeSec a v s
  else if a < 0x7000 then writeMgt a v s
  else if a < 0x28000 then writeQueue ((a - 0x8000) / 0x200) a v s
  else if a < 0x64000 then
    let k := (a - 0x40000) / 0x1000
    onTile k (writeLink k a v) s
  else
    let n := (a - 0x80000) / 0x200
    onTile (n / 8) (writeLane n a v) s

/-- The link tile that answers for the register at `a`, if one does (R357). -/
def registerTile (a : Nat) : Option Nat :=
  if a < 0x40000 then none else if a < 0x64000 then some ((a - 0x40000) / 0x1000) else some ((a - 0x80000) / 0x200 / 8)

/-- Where an address is answered: an `RST_` register by the always-on island, every other by the core island. -/
def portAnswers (s : State) (a : Nat) : Bool := if 0x1000 ≤ a && a < 0x2000 then !s.rst.porLow else coreUp s

/-- The upper word of a 64-bit register is staged (R442), but for one of a link tile in reset (R357). -/
def stageUpper (a : Nat) (v : Word) (s : State) : State :=
  let f : State → State := fun s => { s with staged := s.staged.set a v }
  match registerTile a with
  | some k => onTile k f s
  | none => f s

/-- The value that a write of the lower word gives a 64-bit register: with the staged upper word, or the present one. -/
def wholeValue (s : State) (a : Nat) (v : Word) : Nat :=
  let up := match s.staged.find a with
    | some u => u.toNat
    | none => (reg s a).toNat / 2 ^ 32
  v.toNat + 2 ^ 32 * up

/-- One write request of the configuration port (R419, R442, R454); unimplemented addresses ignore it (R7). -/
def configWrite (addr : Nat) (v : Word) (s : State) : State :=
  match findReg addr with
  | none => s
  | some (d, a, w) =>
    if !portAnswers s a then s
    else if d.words = 2 then
      (if w = 1 then stageUpper a v s
      else
        let x := wholeValue s a v
        portWrite a x { s with staged := s.staged.erase a })
    else portWrite a v.toNat s

/-! ### Reads (R5, R7, R357, R442) -/

/-- The response of a read while its island runs; `GEN_ID` is answered at all times. -/
def configRead (addr : Nat) (s : State) : State :=
  match findReg addr with
  | none =>
    let s := { s with rdata := 0 }
    if coreUp s then raise Reg.GEN_STATUS 1 s else s
  | some (d, a, w) =>
    if !portAnswers s a && !(a = Reg.GEN_ID && !s.rst.porLow) then { s with rdata := 0 }
    else if d.words = 2 && w = 1 then
      { s with rdata := s.captured.get a (BitVec.ofNat 32 ((shown s a).toNat / 2 ^ 32)), captured := s.captured.erase a }
    else
      let v := (shown s a).toNat
      let s := { s with rdata := BitVec.ofNat 32 v }
      if d.words = 2 then { s with captured := s.captured.set a (BitVec.ofNat 32 (v / 2 ^ 32)) } else s

/-! ### The configuration image (R122 to R124, R444) -/

/-- Bits of a word that some field of the register covers. -/
def coveredBits (d : RegDesc) (w : Nat) : Nat :=
  d.fields.foldl (fun m f => m ||| ((2 ^ f.width - 1) * 2 ^ f.lo / 2 ^ (32 * w) % 2 ^ 32)) 0

/-- A field lets an image entry's value for word `w` pass: a range holds, and no WO or W1C bit is set. -/
def fieldPasses (f : FieldDesc) (w v : Nat) : Bool :=
  if f.acc = .ro then true
  else if f.acc = .wo || f.acc = .w1c then
    ((2 ^ f.width - 1) * 2 ^ f.lo / 2 ^ (32 * w) % 2 ^ 32) &&& v == 0
  else if 32 * w ≤ f.lo && f.lo + f.width ≤ 32 * w + 32 then
    let x := natField v (f.lo - 32 * w) f.width
    f.min ≤ x && x ≤ f.max
  else true

/-- The value of an image entry passes check 0x8. `LNK_CTL` has no WIDTH or MODE of 3 (R452), and the signed STRIDE of
`XLT_WL_CFG` has its range (R448). -/
def valuePasses (d : RegDesc) (w v : Nat) : Bool :=
  d.fields.all (fun f => fieldPasses f w v) && v &&& (2 ^ 32 - 1 - coveredBits d w) == 0
    && (d.base != Reg.LNK_CTL 0 || (natField v 2 2 != 3 && natField v 8 2 != 3))
    && (d.base != Reg.XLT_WL_CFG 0 || w != 1 || (signedOf 32 v).natAbs ≤ 268435456)

/-- The cause that one entry fails with, 0 for none. -/
def entryCause (off v : Nat) : Nat :=
  if off % 4 != 0 || 2 ^ 20 ≤ off then 7
  else match findReg off with
    | none => 7
    | some (d, _, w) => if !d.load then 7 else if valuePasses d w v then 0 else 8

/-- Entry `i` of an image. -/
def imageEntry (im : List Byte) (i : Nat) : Nat × Nat := (sliceNat im (32 + 8 * i) 4, sliceNat im (36 + 8 * i) 4)

/-- The cause of the first failing check of an image, and the entry it names (R123). -/
def imageCause (im : List Byte) : Nat × Nat :=
  let n := sliceNat im 8 4
  if sliceNat im 0 4 != 0x4B5A4349 || im.getD 7 0 != 0 || !allZero (slice im 20 12) then (1, 0)
  else if sliceNat im 4 2 != 1 then (2, 0)
  else if im.getD 6 0 != 0xB0 then (3, 0)
  else if n = 0 || 16384 < n || sliceNat im 12 4 != 48 + 8 * n then (4, 0)
  else if sliceNat im (32 + 8 * n) 4 != (crc32c (im.take (32 + 8 * n))).toNat then (5, 0)
  else if sliceNat im (36 + 8 * n) 4 != 0xA5C33C5A then (6, 0)
  else
    let causes := (List.range n).map fun i => (i, entryCause (imageEntry im i).1 (imageEntry im i).2)
    match causes.find? fun x => x.2 != 0 with
    | some (i, c) => (c, i)
    | none => (0, 0)

/-- The entries of a valid image are written in order, and LOADED is reached. -/
def applyImage (im : List Byte) (s : State) : State :=
  let n := sliceNat im 8 4
  let s := each ((List.range n).map (imageEntry im)) (fun e s => configWrite e.1 (BitVec.ofNat 32 e.2) s) s
  let s := setReg Reg.GEN_CFG_ID (BitVec.ofNat 64 (sliceNat im 16 4)) s
  cfgLoaded (modSec (fun x => { x with cfgDigest := some (Config.sha384 (im.take (32 + 8 * n))), cfgDirect := false }) s)

/-- The image has been read: it is checked whole, then applied. -/
def takeImage (image : Blob) (s : State) : State :=
  if image.bad then refuseImage 9 0 s
  else
    let r := imageCause image.data
    if r.1 != 0 then refuseImage r.1 r.2 s else applyImage image.data s

/-! ### Meanings -/

/-- CONFIG_WRITE. -/
def execConfigWrite (addr : BitVec 20) (v : Word) (s : State) : Res := .next (configWrite addr.toNat v s)

/-- REG64_UPPER_WRITE (R442). -/
def execReg64UpperWrite (addr : BitVec 20) (v : Word) (s : State) : Res :=
  .next (match findReg addr.toNat with
    | some (d, a, w) => if d.words = 2 && w = 1 && portAnswers s a then stageUpper a v s else s
    | none => s)

/-- REG64_LOWER_READ (R442): a read of the lower word of a 64-bit register. The table has no other row for a read of a
register, so the read of any of its words comes as this command too: it is answered like every request (R419; assumption
log 14). -/
def execReg64LowerRead (addr : BitVec 20) (s : State) : Res :=
  .next (if (findReg addr.toNat).isSome then configRead addr.toNat s else s)

/-- UNIMPLEMENTED_READ (R7, R357). -/
def execUnimplementedRead (addr : BitVec 20) (s : State) : Res :=
  .next (if (findReg addr.toNat).isNone then configRead addr.toNat s else s)

/-- CFG_LOAD. -/
def execCfgLoad (s : State) : Res := .next (onlyIf (coreUp s) cfgLoad s)

/-- CFG_DIRECT. -/
def execCfgDirect (s : State) : Res := .next (onlyIf (coreUp s) cfgDirect s)

/-- A read of the configuration image. -/
def Whole.isImage : Whole → Bool
  | .image _ => true
  | _ => false

/-- The image has come whole. Data dropped because master enable was cleared is counted and leaves the load to its
timeout (R119, R123; assumption log 28). -/
def imageBack (image : Blob) (s : State) : State :=
  let h := wholeBack (fun w => w == .image true) s
  let r := wholeBack Whole.isImage h.2
  if h.1.isNone && r.1.isNone then s
  else if (h.1.map (·.2)).getD false || (r.1.map (·.2)).getD false then r.2
  else takeImage image r.2

/-- CFG_IMAGE_READ_DONE: while LOADING. -/
def execCfgImageReadDone (image : Blob) (s : State) : Res :=
  .next (wholeCommand Whole.isImage (fun s => onlyIf (cfgState s == 1) (imageBack image) s) s)

/-- A read whose data one command brings whole, of a kind. -/
def RdWhat.isWhole (p : Whole → Bool) : RdWhat → Bool
  | .whole w => p w
  | _ => false

/-- CFG_IMAGE_READ_TIMEOUT (R123): what has not been read of the image is not. -/
def execCfgImageReadTimeout (s : State) : Res :=
  .next (onlyIf (coreUp s && cfgState s == 1)
    (fun s => refuseImage 0xA 0 (giveUpReads (fun _ j => j.what.isWhole Whole.isImage) (fun _ => false) s)) s)

/-- Q_SETUP_WRITE (R91): a register of the queue's page. -/
def execQSetupWrite (q : Byte) (off : BitVec 9) (v : Word) (s : State) : Res :=
  .next (configWrite (0x8000 + 0x200 * q.toNat + off.toNat) v s)

/-- XLT_DIR_BASE_WRITE (R126, R153): the lower word, with the staged upper one. -/
def execXltDirBaseWrite (part : BitVec 6) (v : Word) (s : State) : Res :=
  .next (configWrite (Reg.XLT_DIR_BASE part.toNat) v s)

/-- LPORT_WRITE (R220, R223): `FAB_LPORT_LINKS`, with its staged upper word, or `FAB_LPORT_CTL`. -/
def execLportWrite (links : Bool) (p : Fin 16) (v : Word) (s : State) : Res :=
  .next (configWrite (if links then Reg.FAB_LPORT_LINKS p.val else Reg.FAB_LPORT_CTL p.val) v s)

/-- MGT_POLICY_WRITE (R378, R379): a register of the `MGT_` family. -/
def execMgtPolicyWrite (off : BitVec 12) (v : Word) (s : State) : Res := .next (configWrite (0x6000 + off.toNat) v s)

end Sys2Proof.Machine
end

