-- ==== Sys2Proof/Machine/Dispatch.lean ====
section
/-!
DEFINITION. Machine/Dispatch.lean: the meaning of each command, one arm per constructor.
-/

namespace Sys2Proof.Machine

open Sys2Proof

-- The effect of a command on everything but the queue of waiting commands.
def exec (i : Instr) (s : State) : Host.Outcome State Fault Refusal :=
  match i with
  | .powerOn width => Sys2Proof.Machine.execPowerOn width s
  | .hardReset width => Sys2Proof.Machine.execHardReset width s
  | .resetRelease pin width => Sys2Proof.Machine.execResetRelease pin width s
  | .fuseShadowValid => Sys2Proof.Machine.execFuseShadowValid s
  | .corePllLocked => Sys2Proof.Machine.execCorePllLocked s
  | .releaseGapExpiry => Sys2Proof.Machine.execReleaseGapExpiry s
  | .resetBurstTimeout port => Sys2Proof.Machine.execResetBurstTimeout port s
  | .thermalTrip => Sys2Proof.Machine.execThermalTrip s
  | .softReset => Sys2Proof.Machine.execSoftReset s
  | .keeperRestart => Sys2Proof.Machine.execKeeperRestart s
  | .refInputLoss g => Sys2Proof.Machine.execRefInputLoss g s
  | .refInputReturn g => Sys2Proof.Machine.execRefInputReturn g s
  | .coreMhzWrite v => Sys2Proof.Machine.execCoreMhzWrite v s
  | .coreClockStep => Sys2Proof.Machine.execCoreClockStep s
  | .vcoreSample mv => Sys2Proof.Machine.execVcoreSample mv s
  | .sensorSample r => Sys2Proof.Machine.execSensorSample r s
  | .keeperThrottle tile => Sys2Proof.Machine.execKeeperThrottle tile s
  | .throttleDutyStep tile => Sys2Proof.Machine.execThrottleDutyStep tile s
  | .eccError array index correctable => Sys2Proof.Machine.execEccError array index correctable s
  | .configWrite addr v => Sys2Proof.Machine.execConfigWrite addr v s
  | .reg64UpperWrite addr v => Sys2Proof.Machine.execReg64UpperWrite addr v s
  | .reg64LowerRead addr => Sys2Proof.Machine.execReg64LowerRead addr s
  | .unimplementedRead addr => Sys2Proof.Machine.execUnimplementedRead addr s
  | .masterEnClear => Sys2Proof.Machine.execMasterEnClear s
  | .masterEnSet => Sys2Proof.Machine.execMasterEnSet s
  | .cfgLoad => Sys2Proof.Machine.execCfgLoad s
  | .cfgDirect => Sys2Proof.Machine.execCfgDirect s
  | .cfgImageReadDone image => Sys2Proof.Machine.execCfgImageReadDone image s
  | .cfgImageReadTimeout => Sys2Proof.Machine.execCfgImageReadTimeout s
  | .winReset win => Sys2Proof.Machine.execWinReset win s
  | .qEnable q v => Sys2Proof.Machine.execQEnable q v s
  | .qDisable q v => Sys2Proof.Machine.execQDisable q v s
  | .qSetupWrite q off v => Sys2Proof.Machine.execQSetupWrite q off v s
  | .sqTail q v => Sys2Proof.Machine.execSqTail q v s
  | .cqHead q v => Sys2Proof.Machine.execCqHead q v s
  | .cancel q hi mask => Sys2Proof.Machine.execCancel q hi mask s
  | .rearm q hi mask => Sys2Proof.Machine.execRearm q hi mask s
  | .descriptorFetch q beat => Sys2Proof.Machine.execDescriptorFetch q beat s
  | .descriptorStart => Sys2Proof.Machine.execDescriptorStart s
  | .writeCompletionRecord d => Sys2Proof.Machine.execWriteCompletionRecord d s
  | .tileTokenPush t token => Sys2Proof.Machine.execTileTokenPush t token s
  | .tileTokenStart t => Sys2Proof.Machine.execTileTokenStart t s
  | .tqTemplateLoad v => Sys2Proof.Machine.execTqTemplateLoad v s
  | .tqTemplateLoadDone blob => Sys2Proof.Machine.execTqTemplateLoadDone blob s
  | .memReadResponse port id beat => Sys2Proof.Machine.execMemReadResponse port id beat s
  | .memWriteResponse port id err => Sys2Proof.Machine.execMemWriteResponse port id err s
  | .atomicUnitIssue op => Sys2Proof.Machine.execAtomicUnitIssue op s
  | .rdReceive p => Sys2Proof.Machine.execRdReceive p s
  | .grdReceive p => Sys2Proof.Machine.execGrdReceive p s
  | .wrReceive p => Sys2Proof.Machine.execWrReceive p s
  | .msgReceive p => Sys2Proof.Machine.execMsgReceive p s
  | .atomReceive p => Sys2Proof.Machine.execAtomReceive p s
  | .vaccReceive p => Sys2Proof.Machine.execVaccReceive p s
  | .unknownTypeReceive p => Sys2Proof.Machine.execUnknownTypeReceive p s
  | .rdrReceive p => Sys2Proof.Machine.execRdrReceive p s
  | .atomrReceive p => Sys2Proof.Machine.execAtomrReceive p s
  | .lackReceive p => Sys2Proof.Machine.execLackReceive p s
  | .holdFullResend d => Sys2Proof.Machine.execHoldFullResend d s
  | .holdTimeout h => Sys2Proof.Machine.execHoldTimeout h s
  | .lackCoalesceTimeout node pkey vc7 => Sys2Proof.Machine.execLackCoalesceTimeout node pkey vc7 s
  | .operationTimeout tag => Sys2Proof.Machine.execOperationTimeout tag s
  | .tagQuarantineEnd tag => Sys2Proof.Machine.execTagQuarantineEnd tag s
  | .walkReadReturn port id beat => Sys2Proof.Machine.execWalkReadReturn port id beat s
  | .invRange part => Sys2Proof.Machine.execInvRange part s
  | .invPart part => Sys2Proof.Machine.execInvPart part s
  | .invAll => Sys2Proof.Machine.execInvAll s
  | .preload part => Sys2Proof.Machine.execPreload part s
  | .invDrainComplete => Sys2Proof.Machine.execInvDrainComplete s
  | .xltDirBaseWrite part v => Sys2Proof.Machine.execXltDirBaseWrite part v s
  | .chainLoad v => Sys2Proof.Machine.execChainLoad v s
  | .chainLoadDone programs => Sys2Proof.Machine.execChainLoadDone programs s
  | .pipeRsvWrite v => Sys2Proof.Machine.execPipeRsvWrite v s
  | .pipeBind => Sys2Proof.Machine.execPipeBind s
  | .cjoinReceive p => Sys2Proof.Machine.execCjoinReceive p s
  | .cdataReceive p => Sys2Proof.Machine.execCdataReceive p s
  | .cabortReceive p => Sys2Proof.Machine.execCabortReceive p s
  | .collectiveStep d => Sys2Proof.Machine.execCollectiveStep d s
  | .edspReceive p => Sys2Proof.Machine.execEdspReceive p s
  | .ecmbReceive p => Sys2Proof.Machine.execEcmbReceive p s
  | .etallyReceive p => Sys2Proof.Machine.execEtallyReceive p s
  | .prdrReceive p => Sys2Proof.Machine.execPrdrReceive p s
  | .resumeChunk d => Sys2Proof.Machine.execResumeChunk d s
  | .expertTableLoad v => Sys2Proof.Machine.execExpertTableLoad v s
  | .expertTableLoadDone blob => Sys2Proof.Machine.execExpertTableLoadDone blob s
  | .routePacket src => Sys2Proof.Machine.execRoutePacket src s
  | .escWaitExpiry src => Sys2Proof.Machine.execEscWaitExpiry src s
  | .outputStallTimeout port vc => Sys2Proof.Machine.execOutputStallTimeout port vc s
  | .sumpDstWrite n v => Sys2Proof.Machine.execSumpDstWrite n v s
  | .routeTableWrite b d v => Sys2Proof.Machine.execRouteTableWrite b d v s
  | .epochInjWrite b => Sys2Proof.Machine.execEpochInjWrite b s
  | .epochClear b => Sys2Proof.Machine.execEpochClear b s
  | .lportWrite links p v => Sys2Proof.Machine.execLportWrite links p v s
  | .pkeyListWrite v => Sys2Proof.Machine.execPkeyListWrite v s
  | .fabCtlWrite v => Sys2Proof.Machine.execFabCtlWrite v s
  | .nodeIdWrite dims v => Sys2Proof.Machine.execNodeIdWrite dims v s
  | .helloTimer k => Sys2Proof.Machine.execHelloTimer k s
  | .helloReceive k p => Sys2Proof.Machine.execHelloReceive k p s
  | .nbrLost k => Sys2Proof.Machine.execNbrLost k s
  | .drainReceive k p => Sys2Proof.Machine.execDrainReceive k p s
  | .probeGo k => Sys2Proof.Machine.execProbeGo k s
  | .probeReceive k p turnaround => Sys2Proof.Machine.execProbeReceive k p turnaround s
  | .probeReplyReceive k p count => Sys2Proof.Machine.execProbeReplyReceive k p count s
  | .probeTimeout => Sys2Proof.Machine.execProbeTimeout s
  | .keeperProbe k => Sys2Proof.Machine.execKeeperProbe k s
  | .flitReceive k f => Sys2Proof.Machine.execFlitReceive k f s
  | .ctrlFlitReceive k f => Sys2Proof.Machine.execCtrlFlitReceive k f s
  | .replayReqReceive k f => Sys2Proof.Machine.execReplayReqReceive k f s
  | .auditReceive k f => Sys2Proof.Machine.execAuditReceive k f s
  | .initFlitReceive k f => Sys2Proof.Machine.execInitFlitReceive k f s
  | .initFlitTimer k => Sys2Proof.Machine.execInitFlitTimer k s
  | .initTimeout k => Sys2Proof.Machine.execInitTimeout k s
  | .replayReqRepeat k => Sys2Proof.Machine.execReplayReqRepeat k s
  | .ackTimeout k => Sys2Proof.Machine.execAckTimeout k s
  | .creditTimeout k => Sys2Proof.Machine.execCreditTimeout k s
  | .ctrlFlitDue k => Sys2Proof.Machine.execCtrlFlitDue k s
  | .frameLockLoss k => Sys2Proof.Machine.execFrameLockLoss k s
  | .partnerRetrainDetect k => Sys2Proof.Machine.execPartnerRetrainDetect k s
  | .retrainAttemptTimeout k => Sys2Proof.Machine.execRetrainAttemptTimeout k s
  | .lnkRetrain k => Sys2Proof.Machine.execLnkRetrain k s
  | .fullLinkReset k => Sys2Proof.Machine.execFullLinkReset k s
  | .lnkModeWrite k mode => Sys2Proof.Machine.execLnkModeWrite k mode s
  | .txSleepEnter k => Sys2Proof.Machine.execTxSleepEnter k s
  | .txWake k => Sys2Proof.Machine.execTxWake k s
  | .dutyPeriodStart k => Sys2Proof.Machine.execDutyPeriodStart k s
  | .lnkSleepCfgWrite k v => Sys2Proof.Machine.execLnkSleepCfgWrite k v s
  | .lnkDutyCtlWrite k v => Sys2Proof.Machine.execLnkDutyCtlWrite k v s
  | .rxWake burst => Sys2Proof.Machine.execRxWake burst s
  | .sleepCommaRetrain k => Sys2Proof.Machine.execSleepCommaRetrain k s
  | .wakeMissingTimeout n => Sys2Proof.Machine.execWakeMissingTimeout n s
  | .losAssert n => Sys2Proof.Machine.execLosAssert n s
  | .lolAssert n => Sys2Proof.Machine.execLolAssert n s
  | .losClear n => Sys2Proof.Machine.execLosClear n s
  | .primeStart k => Sys2Proof.Machine.execPrimeStart k s
  | .pllLock k => Sys2Proof.Machine.execPllLock k s
  | .cdrLock k => Sys2Proof.Machine.execCdrLock k s
  | .laneAligned k skew => Sys2Proof.Machine.execLaneAligned k skew s
  | .train n b => Sys2Proof.Machine.execTrain n b s
  | .adaptationDone k => Sys2Proof.Machine.execAdaptationDone k s
  | .endBlock n b => Sys2Proof.Machine.execEndBlock n b s
  | .primeTimeout k => Sys2Proof.Machine.execPrimeTimeout k s
  | .loopReq n b => Sys2Proof.Machine.execLoopReq n b s
  | .loopAck n b => Sys2Proof.Machine.execLoopAck n b s
  | .farLoopTimeout n => Sys2Proof.Machine.execFarLoopTimeout n s
  | .laneTestWrite n v => Sys2Proof.Machine.execLaneTestWrite n v s
  | .laneSqCtlWrite n v => Sys2Proof.Machine.execLaneSqCtlWrite n v s
  | .prbsClr n => Sys2Proof.Machine.execPrbsClr n s
  | .prbsInj n => Sys2Proof.Machine.execPrbsInj n s
  | .calTempCheck k => Sys2Proof.Machine.execCalTempCheck k s
  | .marginUpdate n vert horz => Sys2Proof.Machine.execMarginUpdate n vert horz s
  | .enable part => Sys2Proof.Machine.execEnable part s
  | .teardown part => Sys2Proof.Machine.execTeardown part s
  | .teardownDrainEnd part => Sys2Proof.Machine.execTeardownDrainEnd part s
  | .teardownDone part => Sys2Proof.Machine.execTeardownDone part s
  | .pkeyQuarantineEnd key => Sys2Proof.Machine.execPkeyQuarantineEnd key s
  | .ephGen block => Sys2Proof.Machine.execEphGen block s
  | .chanOpen block => Sys2Proof.Machine.execChanOpen block s
  | .chanClose block => Sys2Proof.Machine.execChanClose block s
  | .wsealOpen block arg => Sys2Proof.Machine.execWsealOpen block arg s
  | .attest block => Sys2Proof.Machine.execAttest block s
  | .cert block => Sys2Proof.Machine.execCert block s
  | .mgmtKeygen block => Sys2Proof.Machine.execMgmtKeygen block s
  | .mgmtLoad block arg => Sys2Proof.Machine.execMgmtLoad block arg s
  | .chanPendingTimeout c => Sys2Proof.Machine.execChanPendingTimeout c s
  | .scrubAll => Sys2Proof.Machine.execScrubAll s
  | .scrubDone => Sys2Proof.Machine.execScrubDone s
  | .debugAccessRequest tap => Sys2Proof.Machine.execDebugAccessRequest tap s
  | .debugAccessGranted => Sys2Proof.Machine.execDebugAccessGranted s
  | .jtagIdcode tap => Sys2Proof.Machine.execJtagIdcode tap s
  | .jtagBypass tap => Sys2Proof.Machine.execJtagBypass tap s
  | .jtagSamplePreload cells => Sys2Proof.Machine.execJtagSamplePreload cells s
  | .mgmtDtlsHandshake h => Sys2Proof.Machine.execMgmtDtlsHandshake h s
  | .fuseProgram row bits => Sys2Proof.Machine.execFuseProgram row bits s
  | .fuseRead row => Sys2Proof.Machine.execFuseRead row s
  | .watchdogKick => Sys2Proof.Machine.execWatchdogKick s
  | .watchdogExpiry => Sys2Proof.Machine.execWatchdogExpiry s
  | .keeperBoot => Sys2Proof.Machine.execKeeperBoot s
  | .keeperEventCopy => Sys2Proof.Machine.execKeeperEventCopy s
  | .coalesceHolddownExpiry cause node => Sys2Proof.Machine.execCoalesceHolddownExpiry cause node s
  | .mevt p => Sys2Proof.Machine.execMevt p s
  | .evtConsWrite v => Sys2Proof.Machine.execEvtConsWrite v s
  | .mgtPolicyWrite off v => Sys2Proof.Machine.execMgtPolicyWrite off v s
  | .keeperSteer k => Sys2Proof.Machine.execKeeperSteer k s
  | .keeperMarginRetrain n => Sys2Proof.Machine.execKeeperMarginRetrain n s
  | .keeperStaleRetrain k => Sys2Proof.Machine.execKeeperStaleRetrain k s
  | .keeperCalCapture => Sys2Proof.Machine.execKeeperCalCapture s
  | .keeperSleepTune k wakesPerSecond => Sys2Proof.Machine.execKeeperSleepTune k wakesPerSecond s
  | .stage image => Sys2Proof.Machine.execStage image s
  | .activate => Sys2Proof.Machine.execActivate s
  | .confirm => Sys2Proof.Machine.execConfirm s
  | .revert => Sys2Proof.Machine.execRevert s
  | .trialTimeout => Sys2Proof.Machine.execTrialTimeout s
  | .capture => Sys2Proof.Machine.execCapture s
  | .calImport base => Sys2Proof.Machine.execCalImport base s
  | .calExport => Sys2Proof.Machine.execCalExport s
  | .calStoreDone => Sys2Proof.Machine.execCalStoreDone s
  | .frameLockGain k => Sys2Proof.Machine.execFrameLockGain k s
  | .prbsLockGain n => Sys2Proof.Machine.execPrbsLockGain n s
  | .prbsLockLoss n => Sys2Proof.Machine.execPrbsLockLoss n s
  | .holdPhaseEnd k => Sys2Proof.Machine.execHoldPhaseEnd k s

end Sys2Proof.Machine
end

