-- ==== Sys2Proof/Safety.lean ====
section
/-!
DEFINITION. Safety.lean: the terms in which the claims are made: the invariants that every step keeps, the commands
that may change the islands, and well-formed tables.
-/

namespace Sys2Proof.Machine

open Sys2Proof

/-- What runs in each step of the release (R354, R355): nothing of the core before its PLL has locked, the units only
after it, and the link tiles after them, in order. -/
def ReleaseOrder (s : State) : Prop :=
  match s.rst.step with
  | .held | .fuse | .pll => s.rst.coreUp = false ∧ s.rst.unitsUp = false ∧ s.rst.tiles = 0
  | .units => s.rst.coreUp = true ∧ s.rst.unitsUp = false ∧ s.rst.tiles = 0
  | .tile n => s.rst.coreUp = true ∧ s.rst.unitsUp = true ∧ s.rst.tiles = n ∧ n < 36
  | .done => s.rst.coreUp = true ∧ s.rst.unitsUp = true ∧ s.rst.tiles = 36

/-- What DBG_LOCK and the fuse shadow keep shut (R345, R346, R375): without a shadow nothing has been released and
debug access is shut, and with DBG_LOCK blown in the fuses in force it never opens. -/
def DebugLock (s : State) : Prop :=
  (s.shadow = none → (s.rst.step = .held ∨ s.rst.step = .fuse) ∧ s.sec.openBit = false ∧ s.sec.granted = false) ∧
  ((fuseView s).dbgLock = true → s.sec.openBit = false ∧ s.sec.granted = false ∧
    (s.sec.opening = true → s.rst.coreUp = false))

/-- The commands that may start or release an island, change a fuse or the fuse shadow, or change debug access; a
write through the configuration port, alone or in an image, may be one of RST_CTL. -/
def touchesIslands : Instr → Bool
  | .powerOn _ | .hardReset _ | .resetRelease _ _ | .fuseShadowValid | .corePllLocked | .releaseGapExpiry
  | .thermalTrip | .softReset | .configWrite _ _ | .cfgImageReadDone _ | .debugAccessRequest _ | .debugAccessGranted
  | .fuseProgram _ _ => true
  | _ => false

/-- Every partition that is not FREE holds a key of its own (R322). -/
def KeysDistinct (s : State) : Prop :=
  ∀ p q, p ≠ q → (partOf s p).state ≠ .free → (partOf s q).state ≠ .free → (partOf s p).key ≠ (partOf s q).key

/-- No partition that is not FREE holds PKEY 0x0000 (R243, R322). -/
def KeysNonzero (s : State) : Prop := ∀ e ∈ s.sec.parts.entries, e.2.state ≠ .free → e.2.key ≠ 0

/-- No record set that holds a record has reached a limit of R62. -/
def SetsOpen (s : State) : Prop := ∀ x ∈ s.txn.sets, (x.recs ≠ [] → x.landed < 64) ∧ x.recs.length < 64

end Sys2Proof.Machine
end

