-- ==== Sys2Proof/Certificates/Slice0/Obligations.lean ====
section
/-!
DEFINITION. Certificates/Slice0/Obligations.lean: the statements for the provers.
-/

open Sys2Proof Sys2Proof.Machine

/-! ### The block: its queue, its time, its islands -/

/-- A step takes the command at the front of the queue and does what that command does, with the rest waiting. -/
def Obligations.StepRunsTheFrontCommand : Prop :=
  ∀ (c : Instr) (rest : List Instr) (s : State),
    step { s with pending := c :: rest } = exec c { s with pending := rest }

/-- Model's choice (assumption log 1): a step with no command waiting is one tick of the time, in which only lanes that
count a pattern, send one or end an electrical idle, and links that hold part of a frame, do anything; it starts and ends
nothing else. -/
def Obligations.IdleStepIsOneTick : Prop :=
  ∀ s : State, s.pending = [] →
    step s = .next (tick s) ∧ (tick s).now = s.now + 1 ∧ (tick s).pending = [] ∧ (tick s).rst = s.rst ∧
    (tick s).qe = s.qe ∧ (tick s).txn = s.txn ∧ (tick s).mem = s.mem ∧ (tick s).router = s.router ∧
    ((∀ n ∈ s.lanes.keys, counting s n = false ∧ (lane s n).sends ≠ .pattern ∧ (lane s n).idleTill = none) → (∀ k ∈ s.links.keys, txReady s k = true →
        (link s k).frame = [] ∧ (link s k).toldAck = (link s k).rxSeq - 1) → tick s = { s with now := s.now + 1 })

/-- Every command answers a next state, in every state, and leaves the commands that wait behind it as they are. -/
def Obligations.CommandsLeaveTheQueue : Prop :=
  ∀ (c : Instr) (s : State), ∃ t, exec c s = .next t ∧ t.pending = s.pending

/-- The commands of the datapath, the links, the lanes, the keeper and the security unit start and release no island but
the keeper's (a watchdog expiry, a keeper restart or a restart of the firmware may hold or release that one), and change
neither the time, the DBG_LOCK fuse, its shadow nor debug access. -/
def Obligations.DatapathLeavesTheIslands : Prop :=
  ∀ (c : Instr) (s t : State), touchesIslands c = false → exec c s = .next t →
    t.rst.step = s.rst.step ∧ t.rst.soft = s.rst.soft ∧ t.rst.porLow = s.rst.porLow ∧
    t.rst.coreUp = s.rst.coreUp ∧ t.rst.unitsUp = s.rst.unitsUp ∧ t.rst.tiles = s.rst.tiles ∧ t.now = s.now ∧
    t.fuses.dbgLock = s.fuses.dbgLock ∧ t.shadow.map (·.dbgLock) = s.shadow.map (·.dbgLock) ∧
    t.sec.openBit = s.sec.openBit ∧ t.sec.opening = s.sec.opening ∧ t.sec.granted = s.sec.granted

/-- R354: every step keeps the order of the release. -/
def Obligations.ReleaseOrderKept : Prop :=
  ∀ s t : State, ReleaseOrder s → step s = .next t → ReleaseOrder t

/-- The order of the release holds at reset, and so does the lock of debug access, where the model's fuses are blank
(assumption log 3). -/
def Obligations.InvariantsAtReset : Prop :=
  ReleaseOrder State.reset ∧
  DebugLock State.reset

/-- R345, R346, R375: every step keeps debug access shut where DBG_LOCK is in force, or no shadow is. -/
def Obligations.DebugLockKept : Prop :=
  ∀ s t : State, ReleaseOrder s → DebugLock s → step s = .next t → DebugLock t

/-! ### Encodings -/

/-- R24: the header words give back every field of the packet they were made from. -/
def Obligations.HeaderRoundTrip : Prop :=
  ∀ p : Packet, parseHeader p.header = { p with payload := [], trailer := none, abt := false }

/-- R24, R25, R257, R335: the byte stream of a packet gives back the packet, payload and seal trailer included; how long
its payload is by its type and status, and its padding to 8 bytes, are R257's. -/
def Obligations.PacketStreamRoundTrip : Prop :=
  ∀ p : Packet, p.payload.length = p.payloadBytes →
    (if p.sealed then ∃ t : Trailer, p.trailer = some t ∧ t.tag.length = 16 else p.trailer = none) →
    p.stream.length = p.streamLen ∧ parsePacket (parseHeader p.stream) p.stream = { p with abt := false }

/-- R388: the eight words of an event entry give back every field of the event. -/
def Obligations.EventRoundTrip : Prop := ∀ e : Event, e.bytes.length = 32 ∧ parseEvent e.bytes = e

/-- R255, R259: the 256 bytes of a flit give back its sequence number, its ACK, its type, its flags and its payload,
and its checksum is that of the bytes before it. -/
def Obligations.FlitRoundTrip : Prop :=
  ∀ (seq ack : BitVec 12) (ftype : Nat) (abt slp rpl : Bool) (payload : List Byte) (cws : List Codeword),
    ftype < 16 →
    let f : RxFlit := ⟨flitBytes seq ack ftype abt slp rpl payload, cws⟩
    f.bytes.length = 256 ∧ f.seq = seq ∧ f.ack = ack ∧ f.ftype = ftype ∧ f.abt = abt ∧ f.slp = slp ∧
    f.word.testBit 0 = rpl ∧ f.payload = fit 248 payload ∧ sliceNat f.bytes 252 4 = (crc32c (f.bytes.take 252)).toNat

/-! ### Rules of the shared operations -/

/-- R38: the class of a write-class packet, from the window's counter, the lines it touches and EXPECT. -/
def Obligations.WindowClasses : Prop :=
  ∀ c n e : BitVec 32,
    let d := e - (c + n)
    (classify c.toNat n.toNat e.toNat = .reached ↔ d = 0 ∨ 0xC0000000#32 ≤ d) ∧
    (classify c.toNat n.toNat e.toNat = .pending ↔ 0x00000001#32 ≤ d ∧ d ≤ 0x80000000#32) ∧
    (classify c.toNat n.toNat e.toNat = .fault ↔ 0x80000001#32 ≤ d ∧ d ≤ 0xBFFFFFFF#32)

/-- R44: when the counter of a window changes, no held write of that window whose EXPECT is reached stays held, every
other held write stays, in its order, and the window holds the new count. While master enable is 0 the lines count and
every held write stays (R120). -/
def Obligations.NoReachedWriteStaysHeld : Prop :=
  ∀ (w n : Nat) (s : State),
    winCount (landLines w n s) w = (winCount s w + n) % 2 ^ 32 ∧
    (masterEn s = true → (landLines w n s).txn.held = s.txn.held.filter (fun h =>
      !(h.packet.win.toNat == w && classify ((winCount s w + n) % 2 ^ 32) 0 h.packet.expect.toNat == .reached))) ∧
    (masterEn s = false → (landLines w n s).txn.held = s.txn.held ∧ (landLines w n s).mem = s.mem)

/-- R44, R74: the held writes that a change of a window's counter releases join that window's line in ascending order of
EXPECT, counted round the counter up to its new value, and in their order of arrival where EXPECT is equal: none is lost,
none is added, and none overtakes what waits in the line. -/
def Obligations.ReleaseIsSorted : Prop :=
  ∀ (w n : Nat) (s : State), masterEn s = true →
    let c := (winCount s w + n) % 2 ^ 32
    let reached (h : Held) : Bool := h.packet.win.toNat == w && classify c 0 h.packet.expect.toNat == .reached
    let key (h : Held) : Nat := 2 ^ 32 - (c + 2 ^ 32 - h.packet.expect.toNat) % 2 ^ 32
    ∃ out : List Held, out.Perm (s.txn.held.filter reached) ∧ out.Pairwise (fun a b => key a ≤ key b) ∧
      (∀ k : Nat, out.filter (fun h => key h == k) = (s.txn.held.filter reached).filter (fun h => key h == k)) ∧
      landLines w n s = each out queueFence
        (let u := setWin w c s
         { u with txn := { u.txn with held := s.txn.held.filter fun h => !reached h } }) ∧
      (landLines w n s).txn.fenceQ.get w [] = s.txn.fenceQ.get w [] ++ out

/-- R62: records merge only when both are OK and agree in TAG and ELEM. Where no such record stands, the new one joins the
set behind the others; where one stands, the first of them takes the new one's LINES and every other record stays as it
is. So the OK lines of one TAG and ELEM grow by those of a new OK record of that TAG and ELEM, and of no other. -/
def Obligations.RecordsMerge : Prop :=
  ∀ (r : LackRec) (l : List LackRec),
    let meets (x : LackRec) : Prop := x.status = stOK ∧ r.status = stOK ∧ x.tag = r.tag ∧ x.elem = r.elem
    let okLines (t : Tag) (e : BitVec 4) (l : List LackRec) : Word :=
      (l.filter fun x => x.status == stOK && x.tag == t && x.elem == e).foldl (fun n x => n + x.lines) 0
    ((∀ x ∈ l, ¬meets x) → mergeRec r l = l ++ [r]) ∧
    (∀ (a b : List LackRec) (x : LackRec), l = a ++ x :: b → (∀ y ∈ a, ¬meets y) → meets x →
      mergeRec r l = a ++ { x with lines := x.lines + r.lines } :: b) ∧
    (∀ (t : Tag) (e : BitVec 4), okLines t e (mergeRec r l) =
      okLines t e l + (if r.status = stOK ∧ r.tag = t ∧ r.elem = e then r.lines else 0))

/-- R62: a packet that adds a record, that is answered by an ATOMR, or that lands before its answer leaves no record set
that holds a record and has reached 64 landed packets, nor one that has reached 64 records, and one that flushes leaves its
set with no record. A set that holds no record has nothing to send and goes on counting. -/
def Obligations.RecordSetsStayOpen : Prop :=
  ∀ (p : Packet) (status : Byte) (lines : Nat) (old : List Byte) (poison landed now : Bool) (s : State),
    SetsOpen s →
    SetsOpen (record p status lines landed now s) ∧ SetsOpen (answerWrite p status old poison landed now s) ∧
    SetsOpen (noteLanded p s) ∧
    (now = true → ∀ x ∈ (answerWrite p status old poison landed now s).txn.sets,
      x.node = p.src → x.pkey = p.pkey → x.vc7 = (p.vc == 7) → x.recs = [])

/-- R412: the requests of an access cover its bytes once and in order, and each stays within one aligned 256 B block,
so that a read asks for at most 4 lines. The cut at 256 B is the model's (assumption log 7). -/
def Obligations.RequestsCoverTheAccess : Prop :=
  ∀ pa len : Nat,
    (cutExtent pa len).flatMap (fun c => List.range' c.1 c.2) = List.range' pa len ∧
    ∀ c ∈ cutExtent pa len, 0 < c.2 ∧ c.1 / 256 = (c.1 + c.2 - 1) / 256 ∧ linesOf c.1 c.2 ≤ 4

/-- R270: a link sends a new sequenced flit only while it runs, has room for it in its replay buffer and, for a DATA
flit, has fewer than 1,024 flits on the way by the RELEASED last received. -/
def Obligations.CreditBoundsTheLink : Prop :=
  ∀ (k : Nat) (s t : State), sendNext k s = some t →
    tileUp s k = true ∧ (link s k).state = .active ∧ (link s k).replay.length < 1024 ∧
    ((link s k).auditDue = false → ((link s k).sent - (link s k).relIn).toNat < 1024)

/-- R300: no request of a partner takes a lane's taps out of their ranges or over the sum of magnitudes; a request
number already answered changes nothing; and a request that is refused leaves the taps as they are. -/
def Obligations.TapsStayLegal : Prop :=
  ∀ (active : Bool) (n w : Nat) (s : State),
    (tapsInRange (lane s n).taps = true → tapsSum (lane s n).taps = true →
      tapsInRange (lane (tapRequest active n w s) n).taps = true ∧
      tapsSum (lane (tapRequest active n w s) n).taps = true) ∧
    (BitVec.ofNat 4 (natField w 16 4) = (lane s n).reqIn → tapRequest active n w s = s) ∧
    (BitVec.ofNat 4 (natField w 16 4) ≠ (lane s n).reqIn →
      (lane (tapRequest active n w s) n).reqIn = BitVec.ofNat 4 (natField w 16 4) ∧
      ((lane (tapRequest active n w s) n).resp ≠ 0 → (lane (tapRequest active n w s) n).taps = (lane s n).taps)) ∧
    (∀ m, m ≠ n → lane (tapRequest active n w s) m = lane s m)

/-- R317: the values that a cold attempt loads lie in their ranges, and their taps keep the sum rule, if the factory
taps do; and where no delta moves a value and nothing is clamped, the factory values are loaded. -/
def Obligations.LoadedValuesInRange : Prop :=
  ∀ fac deltas : List Int, fac.length = 12 →
    (∀ i, i < 12 → (valRanges.getD i (0, 0)).1 ≤ fac.getD i 0 ∧ fac.getD i 0 ≤ (valRanges.getD i (0, 0)).2) →
    tapsSum (fac.take 5) = true →
    (startVals fac deltas).1.length = 12 ∧
    (∀ i, i < 12 → (valRanges.getD i (0, 0)).1 ≤ (startVals fac deltas).1.getD i 0 ∧
      (startVals fac deltas).1.getD i 0 ≤ (valRanges.getD i (0, 0)).2) ∧
    tapsSum ((startVals fac deltas).1.take 5) = true ∧
    ((∀ i, i < 12 → deltas.getD i 0 = 0) → startVals fac deltas = (fac, false))

/-- R336: the counter of a sealed packet that a channel has accepted is never accepted again: the same packet is
dropped, and the counter stays barred whatever the channel accepts after it. -/
def Obligations.NoSealCounterTwice : Prop :=
  (∀ (p q : Packet) (s t : State), openPacket p s = (some q, t) → (openPacket p t).1 = none) ∧
  (∀ (c : Chan) (n m h : Nat), c.rxHigh = some h → (c.rxSeen.contains n = true ∨ n + 4096 ≤ h) →
    ∃ h', (c.accept m).rxHigh = some h' ∧ ((c.accept m).rxSeen.contains n = true ∨ n + 4096 ≤ h'))

/-- R331: each packet that a channel seals takes the next send counter, and at 2^60 the channel is EXHAUSTED and seals
no more. -/
def Obligations.SendCounterAdvances : Prop :=
  ∀ (p q : Packet) (s t : State), sealPacket p s = (some q, t) →
    (chanOf s p.chan.toNat).state = .opened ∧
    q.trailer.map (·.ctr) = some (BitVec.ofNat 64 (chanOf s p.chan.toNat).sendCtr) ∧
    (chanOf t p.chan.toNat).sendCtr = (chanOf s p.chan.toNat).sendCtr + 1 ∧
    ((chanOf t p.chan.toNat).state = .exhausted ↔ (chanOf s p.chan.toNat).sendCtr + 1 = 2 ^ 60) ∧
    ((chanOf t p.chan.toNat).state = .exhausted → (sealPacket p t).1 = none)

/-- R322: an ENABLE that succeeds gives its partition a key that no other partition holds, and no ENABLE, successful
or not, makes two partitions share one. -/
def Obligations.EnableSharesNoKey : Prop :=
  ∀ (p : Nat) (s : State), KeysDistinct s → KeysDistinct (partEnable p s)

/-- R4, R5: what a write of a field leaves in it, for each access type: RW, and the first write of an RWO, take the value
where it lies within the field's range and else the nearer end of the range, which they report as clamped; RO and a later
write of an RWO are unchanged, W1C and W1S go bit by bit, WO reads nothing. -/
def Obligations.FieldWrites : Prop :=
  ∀ (f : FieldDesc) (old new : Nat) (first : Bool),
    let o := natField old f.lo f.width
    let x := natField new f.lo f.width
    let r := (writeField f old new first).1
    (f.acc = .rw ∨ (f.acc = .rwo ∧ first = true) → f.min ≤ f.max → f.min ≤ r ∧ r ≤ f.max ∧
      (f.min ≤ x → x ≤ f.max → writeField f old new first = (x, false)) ∧
      (x < f.min → writeField f old new first = (f.min, true)) ∧
      (f.max < x → writeField f old new first = (f.max, true))) ∧
    (f.acc = .ro → writeField f old new first = (o, false)) ∧
    (f.acc = .rwo → first = false → writeField f old new first = (o, false)) ∧
    (f.acc = .w1c → ∀ i, r.testBit i = (o.testBit i && !x.testBit i)) ∧
    (f.acc = .w1s → ∀ i, r.testBit i = (o.testBit i || x.testBit i)) ∧
    (f.acc = .wo → r = 0)

/-- R389: the last 16 entries of the event ring are kept for FATAL events: an event that finds no room is counted in
MGT_EVT_LOST and enters nothing. -/
def Obligations.RingKeepsRoomForFatal : Prop :=
  ∀ (e : Event) (s : State),
    ((writeEntry e s).1 = true ↔ ringHeld s < (if e.cls = 3 then 4096 else 4080)) ∧
    ((writeEntry e s).1 = false →
      (writeEntry e s).2.keeper.ring = s.keeper.ring ∧ (writeEntry e s).2.keeper.next = s.keeper.next ∧
      reg (writeEntry e s).2 Reg.MGT_EVT_LOST = BitVec.ofNat 64 ((fld s Reg.MGT_EVT_LOST 0 32 + 1) % 2 ^ 32) ∧
      bit (writeEntry e s).2 Reg.MGT_EVT_STATUS 1 = true)

/-- R97: a completion record goes to the slot at the completion tail as one write of 32 bytes, whose first word carries the
phase in bit 31, the tail moves on by one round the ring, and the phase turns over when it wraps. -/
def Obligations.CompletionTailAndPhase : Prop :=
  ∀ (q word0 : Nat) (rest : List Byte) (irq : Bool) (s : State), crSize s q ≤ 2 ^ 16 → 0 < crSize s q →
    let tail := fld s (Reg.Q_CR_TAIL q) 0 16
    let phase := fld s (Reg.Q_CR_TAIL q) 16 1
    let pa := fld s (Reg.Q_CR_BASE q) 12 36 * 4096 + 32 * tail
    let bytes := leBytes 4 (word0 % 2 ^ 31 + phase * 2 ^ 31) ++ fit 28 rest
    let t := pushRecord q word0 rest irq s
    fld t (Reg.Q_CR_TAIL q) 0 16 = (tail + 1) % crSize s q ∧
    fld t (Reg.Q_CR_TAIL q) 16 1 = (if (tail + 1) % crSize s q = 0 then 1 - phase else phase) ∧
    bytes.length = 32 ∧
    t.mem.queue = s.mem.queue ++ [{
      port := portOf pa, id := 0, write := true, line := pa / 64, nline := 1, mattr := 0, lock := false,
      job := s.mem.jobNo, idx := 0, walk := false,
      data := List.replicate (pa % 64) none ++ allBytes (clean bytes), drop := false }] ∧
    t.mem.wjobs.find s.mem.jobNo = some ⟨.record q, 1, 0, 0, none⟩ ∧ t.mem.out = s.mem.out

/-- R177: PERMUTE treats a window as units of 8 B and makes output unit j input unit MAP[j], or eight zero bytes where
MAP[j] lies at or beyond the end of a final window. -/
def Obligations.PermuteMovesUnits : Prop :=
  ∀ (map : List Nat) (w : List PByte) (m : Nat), w.length = 8 * m → m ≤ 64 →
    (permuteWindow map w).length = 8 * m ∧
    ∀ j, j < m → (((permuteWindow map w).drop (8 * j)).take 8).map (·.b) =
      if map.getD j 0 < m then ((w.drop (8 * map.getD j 0)).take 8).map (·.b) else List.replicate 8 0

/-- R243: PKEY 0x0000 is admitted at a logical port for fabric control and management relay packets and for no other
type, whatever the port's list holds; no partition comes to hold it, so that the ejection port admits no request
that carries it; and a write that would make it a valid entry changes no list and sets
FAB_STATUS.CFG_ERR. -/
def Obligations.KeyZeroIsReserved : Prop :=
  (∀ (s : State) (port : Nat) (ty : BitVec 6), portAdmits s port ty 0 =
    (ty == tHELLO || ty == tDRAIN || ty == tPROBE || ty == tPROBER || (0x30 ≤ ty.toNat && ty.toNat < 0x38))) ∧
  (∀ (p : Nat) (s : State), KeysNonzero s → partOfKey s 0 = none ∧ KeysNonzero (partEnable p s)) ∧
  (∀ (s : State) (v : Word), coreUp s = true → v.getLsbD 31 = true → v.toNat % 65536 = 0 →
    exec (.pkeyListWrite v) s = .next (raise Reg.FAB_STATUS 0 s))

/-! ### What each command does: resets, release, clocks -/

/-- R351, R352, R353, R358, R360, R372: an honoured pulse, or a thermal trip that the sensors call for, puts every island in
reset and records its cause: every link is DOWN, and the registers of the core, the links and the lanes hold their reset
values. A power-on clears FAB_INCARN and drops the fuse shadow, a hard reset or a trip counts FAB_INCARN up, a soft reset
leaves the keeper and FAB_INCARN; the fuses, the flash and the waiting commands stay. A pulse below 40 ns is ignored. A
soft reset that the block is not ready for, or that GEN_STATUS.FATAL forbids (R395), is refused: RST_STATUS.SOFT_REFUSED
and its event, and nothing else. The model's choices here: while the core is in reset a soft reset is refused too
(assumption log 23), and the event has INDEX and DATA 0 (log 9). -/
def Obligations.ResetsPutIslandsInReset : Prop :=
  (let down (s t : State) : Prop :=
     coreUp t = false ∧ unitsUp t = false ∧ t.rst.tiles = 0 ∧ t.flash = s.flash ∧ t.fuses = s.fuses ∧
     t.pending = s.pending ∧ t.mem = MemPorts.initial ∧ t.txn = Txn.initial ∧ t.qe = QueueEng.initial ∧
     t.lanes = Tbl.empty ∧ (∀ k, (link t k).state = .down) ∧
     ∀ a, isCoreReg a = true ∨ (0x40000 ≤ a ∧ a < 0xA4000) → a ≠ Reg.FAB_INCARN → reg t a = resetValue a
   (∀ (s : State) (w : Nat), 80 ≤ w → ∃ t, exec (.powerOn w) s = .next t ∧ down s t ∧ t.rst.step = .held ∧
     t.rst.keeperUp = false ∧ t.rst.porLow = true ∧ t.rst.trip = false ∧ t.shadow = none ∧ t.now = 0 ∧
     t.sec.openBit = false ∧ reg t Reg.RST_CAUSE = 0 ∧ reg t Reg.FAB_INCARN = 0) ∧
   (∀ (s : State) (w : Nat), 80 ≤ w → s.rst.porLow = false → ∃ t, exec (.hardReset w) s = .next t ∧ down s t ∧
     t.rst.step = .held ∧ t.rst.keeperUp = false ∧ t.rst.hardLow = true ∧ t.shadow = s.shadow ∧ t.now = s.now ∧
     t.sec.openBit = s.sec.openBit ∧ reg t Reg.RST_CAUSE = 1 ∧
     reg t Reg.FAB_INCARN = BitVec.ofNat 64 ((fld s Reg.FAB_INCARN 0 16 + 1) % 2 ^ 16)) ∧
   (∀ s : State, s.rst.porLow = false → s.rst.trip = false → s.rst.tripDue = true → ∃ t,
     exec .thermalTrip s = .next t ∧ down s t ∧ t.rst.step = .held ∧ t.rst.keeperUp = false ∧ t.rst.trip = true ∧
     t.rst.tripDue = false ∧ t.shadow = s.shadow ∧ reg t Reg.RST_CAUSE = 2 ∧
     reg t Reg.FAB_INCARN = BitVec.ofNat 64 ((fld s Reg.FAB_INCARN 0 16 + 1) % 2 ^ 16)) ∧
   (∀ s : State, s.rst.porLow = false → coreUp s = true → quiesced s = true → bit s Reg.GEN_STATUS 5 = false →
     ∃ t, exec .softReset s = .next t ∧ down s t ∧ t.rst.step = .pll ∧ t.rst.keeperUp = s.rst.keeperUp ∧
       t.shadow = s.shadow ∧ t.keeper = { s.keeper with hostBusy := false } ∧ t.out = s.out ∧ t.draws = s.draws ∧
       reg t Reg.RST_CAUSE = 3 ∧ reg t Reg.FAB_INCARN = reg s Reg.FAB_INCARN) ∧
   (∀ s : State, s.rst.tripDue = false → exec .thermalTrip s = .next s) ∧
   (∀ (s : State) (w : Nat), w < 40 → exec (.powerOn w) s = .next s ∧ exec (.hardReset w) s = .next s)) ∧
  (∀ s : State, s.rst.porLow = false → (coreUp s && quiesced s && !bit s Reg.GEN_STATUS 5) = false →
     exec .softReset s = .next (postOwn 0x0805 0 0 (raise Reg.RST_STATUS 3 s)))

/-- R327: every reset of the core island leaves no key in slots 4 to 511, every channel CLOSED, every partition FREE
and the quarantine list empty; slots 0 to 3 stay. -/
def Obligations.CoreResetZeroizes : Prop :=
  ∀ (sc : Scope) (cause : Nat) (s : State),
    let t := takeReset sc cause s
    (∀ i, 4 ≤ i → t.sec.keys.find i = none) ∧ (∀ i, i < 4 → t.sec.keys.find i = s.sec.keys.find i) ∧
    (∀ c, (chanOf t c).state = .closed) ∧ (∀ p, (partOf t p).state = .free) ∧ t.sec.quarantine = []

/-- R354, R355: the steps of the release, each started by its own event and changing nothing but what it releases. At the
release of a power-on the core PLL leaves a reference input that is out of tolerance (R365); that it does so only then, and
that a keeper which runs puts its policy's bounds on the links as the core is released, are the model's choices (assumption
logs 23 and 36). A debug request that waited for the core goes on at its release. -/
def Obligations.ReleaseSteps : Prop :=
  (∀ (s : State) (w : Nat), 80 ≤ w → s.rst.hardLow = false → s.rst.trip = false → s.rst.step = .held →
    (∀ g, s.rst.pllInput = some g → s.rst.refOk.getLsbD g = true) →
    exec (.resetRelease .por w) s = .next { s with rst := { s.rst with porLow := false, step := .fuse } }) ∧
  (∀ (s : State) (w g h : Nat), 80 ≤ w → s.rst.hardLow = false → s.rst.trip = false → s.rst.step = .held →
    coreUp s = false → s.rst.pllInput = some g → s.rst.refOk.getLsbD g = false → lowestRef s.rst.refOk = some h →
    exec (.resetRelease .por w) s = .next { (raise Reg.RST_STATUS 4 s) with
      rst := { s.rst with porLow := false, step := .fuse, pllInput := some h } }) ∧
  (∀ (s : State) (w : Nat), 80 ≤ w → s.rst.porLow = false → s.rst.trip = false → s.rst.step = .held →
    exec (.resetRelease .hard w) s = .next { s with rst := { s.rst with hardLow := false, step := .fuse } }) ∧
  (∀ (s : State) (f : Fuses), s.rst.step = .fuse → s.shadow = some f →
    exec .fuseShadowValid s = .next { s with rst := { s.rst with keeperUp := true, step := .pll } }) ∧
  (∀ s : State, s.rst.step = .fuse → s.shadow = none → s.fuses.secret ≠ 0 →
    exec .fuseShadowValid s =
      .next { s with rst := { s.rst with keeperUp := true, step := .pll }, shadow := some s.fuses }) ∧
  (∀ s : State, s.rst.step = .pll → ∃ t, exec .corePllLocked s = .next (waitingDebug (keeperBounds t)) ∧
    (keeperRuns s = false → s.sec.opening = false → waitingDebug (keeperBounds t) = t) ∧
    t.rst = { s.rst with coreUp := true, step := .units, stale := [], bursts := [] } ∧ t.regs = s.regs ∧ t.links = s.links ∧
    t.keeper = s.keeper ∧ t.fuses = s.fuses ∧ t.pending = s.pending ∧
    slotKey t 0 = Config.deviceKey (fuseView s).secret 0 ∧ slotKey t 1 = Config.deviceKey (fuseView s).secret 1) ∧
  (∀ s : State, s.rst.refOk ≠ 0 → s.rst.step = .units →
    exec .releaseGapExpiry s = .next { s with rst := { s.rst with unitsUp := true, step := .tile 0 } }) ∧
  (∀ (s : State) (n : Nat), s.rst.refOk ≠ 0 → s.rst.step = .tile n →
    exec .releaseGapExpiry s = .next (tryPrime n
      { s with rst := { s.rst with tiles := n + 1, step := if n = 35 then .done else .tile (n + 1) } }))

/-- R291, R360, R363 to R365, R369, R372: a burst that ends; a reference input that leaves or returns to tolerance: the core
PLL leaves a lost input for the lowest-numbered one left, with RST_STATUS.REF_SWITCH and its event, or free-runs where none
is left, and the links of a lost input lose lock and retrain; CORE_MHZ takes the low 12 bits of the value written, brought
into 1,200 to 2,000 and rounded down to a step of 25, with GEN_STATUS.CFG_CLAMP where that changes them, and the clock then
moves toward the setting by at most 25 at a time; a sample of the core rail is shown, and posts RST_VCORE_LOW where it lies
below the minimum of the present clock; a sample of the sensors is held, and a sensor at 115 °C or more in two samples
running makes a thermal trip due. The model's choices here: the PLL leaves any input it runs from, and takes one that
returns only while it free-runs (assumption log 23); the PLL's event has INDEX and DATA 0 (log 9). -/
def Obligations.ClocksAndReadings : Prop :=
  (∀ (s : State) (p : Fin 16), (∃ n, (p.val, n) ∈ s.rst.bursts) →
    exec (.resetBurstTimeout p) s = .next { s with
      rst := { s.rst with bursts := s.rst.bursts.filter (fun b => b.1 != p.val) }
      out := s.out ++ [.burstEnd p.val] }) ∧
  (∀ (s : State) (g : Fin 9), s.rst.refOk.getLsbD g.val = true → s.rst.pllInput ≠ some g.val → coreUp s = false →
    exec (.refInputLoss g) s = .next { s with rst := { s.rst with refOk := s.rst.refOk &&& ~~~(1#9 <<< g.val) } }) ∧
  (∀ (s : State) (g h : Fin 9), s.rst.refOk.getLsbD g.val = true → s.rst.pllInput = some g.val → coreUp s = false →
    s.rst.porLow = false → lowestRef (s.rst.refOk &&& ~~~(1#9 <<< g.val)) = some h.val →
    exec (.refInputLoss g) s = .next (raise Reg.RST_STATUS 4 { s with
      rst := { s.rst with refOk := s.rst.refOk &&& ~~~(1#9 <<< g.val), pllInput := some h.val } })) ∧
  (∀ (s : State) (g : Fin 9), s.rst.refOk.getLsbD g.val = true → coreUp s = true → s.rst.porLow = false →
    let ok := s.rst.refOk &&& ~~~(1#9 <<< g.val)
    let ks := ((List.range 4).map (4 * g.val + ·)).filter fun k => tileUp s k
    let after (u : State) : State := if ks = [] then u else settle (each ks loseLock u)
    (s.rst.pllInput ≠ some g.val →
      exec (.refInputLoss g) s = .next (after { s with rst := { s.rst with refOk := ok } })) ∧
    (∀ h, s.rst.pllInput = some g.val → lowestRef ok = some h → exec (.refInputLoss g) s =
      .next (after (postOwn 0x0804 0 0 (raise Reg.RST_STATUS 4
        { s with rst := { s.rst with refOk := ok, pllInput := some h } })))) ∧
    (s.rst.pllInput = some g.val → lowestRef ok = none → exec (.refInputLoss g) s =
      .next (after { s with rst := { s.rst with refOk := ok, pllInput := none } }))) ∧
  (∀ (s : State) (k : Nat), let u := each (activeLanes s k) setLol s
    loseLock k s = (if (link u k).state = .active then startRetrain k true u else u) ∧
    ∀ n, bit (setLol n s) (Reg.LANE_STATUS n) 3 = true ∧ (lane (setLol n s) n).lol = true) ∧
  (∀ (s : State) (g : Fin 9) (j : Nat), s.rst.pllInput = some j →
    exec (.refInputReturn g) s = .next { s with rst := { s.rst with refOk := s.rst.refOk ||| (1#9 <<< g.val) } }) ∧
  (∀ (s : State) (g : Fin 9), s.rst.pllInput = none →
    exec (.refInputReturn g) s = .next { s with rst := { s.rst with
      refOk := s.rst.refOk ||| (1#9 <<< g.val), pllInput := lowestRef (s.rst.refOk ||| (1#9 <<< g.val)) } }) ∧
  (∀ (s : State) (v : Word), s.rst.porLow = false → 1200 ≤ v.toNat → v.toNat ≤ 2000 → v.toNat % 25 = 0 →
    exec (.coreMhzWrite v) s = .next (setReg Reg.RST_CLK_CTL (BitVec.ofNat 64 v.toNat) s)) ∧
  (∀ (s : State) (v : Word), let m := v.toNat % 4096
    s.rst.porLow = false → coreUp s = true → (m < 1200 ∨ 2000 < m ∨ m % 25 ≠ 0) →
    exec (.coreMhzWrite v) s = .next (raise Reg.GEN_STATUS 0 (setReg Reg.RST_CLK_CTL
      (BitVec.ofNat 64 (if m < 1200 then 1200 else if 2000 < m then 2000 else m - m % 25)) s))) ∧
  (∀ s : State, s.rst.porLow = false → fld s Reg.RST_CLK_STATUS 0 12 + 25 ≤ fld s Reg.RST_CLK_CTL 0 12 →
    exec .coreClockStep s =
      .next (setFld Reg.RST_CLK_STATUS 0 12 (fld s Reg.RST_CLK_STATUS 0 12 + 25) s)) ∧
  (∀ s : State, s.rst.porLow = false → fld s Reg.RST_CLK_CTL 0 12 + 25 ≤ fld s Reg.RST_CLK_STATUS 0 12 →
    exec .coreClockStep s =
      .next (setFld Reg.RST_CLK_STATUS 0 12 (fld s Reg.RST_CLK_STATUS 0 12 - 25) s)) ∧
  (∀ (s : State) (a b c d : Nat), s.rst.porLow = false → a < 65536 → b < 65536 → c < 65536 → d < 65536 →
    800 ≤ a → 800 ≤ b → 800 ≤ c → 800 ≤ d →
    exec (.vcoreSample [a, b, c, d]) s =
      .next (setReg Reg.RST_VCORE (BitVec.ofNat 64 (a + 2 ^ 16 * b + 2 ^ 32 * c + 2 ^ 48 * d)) s)) ∧
  (∀ (s : State) (a : Nat), s.rst.porLow = false → coreUp s = true → a < 700 → ∃ t,
    exec (.vcoreSample [a, 900, 900, 900]) s = .next t ∧ bit t (Reg.GEN_FERR_VALID 1) 0 = true ∧
    t.links = s.links ∧ t.lanes = s.lanes ∧ t.rst = s.rst) ∧
  (∀ (s : State) (r : Sensors), s.rst.porLow = false → ∃ t, exec (.sensorSample r) s = .next t ∧
    t.rst = { s.rst with sensors := r, hot := hotSensors r,
                         tripDue := s.rst.tripDue || (hotSensors r).any fun i => s.rst.hot.contains i } ∧ t.links = s.links ∧ t.lanes = s.lanes ∧ t.keeper = s.keeper ∧
    t.pending = s.pending)

/-- R385: the 4th expiry of the watchdog within 10 minutes holds the keeper in reset and sets KEEPER_HALT, an earlier
one does not, and a hard reset, a power-on or a keeper restart ends the halt and clears the count. -/
def Obligations.WatchdogHalts : Prop :=
  (∀ s : State, s.rst.keeperUp = true → (s.keeper.running || s.keeper.recovery) = true →
    3 ≤ (s.rst.wdExpiries.filter fun t => s.now < t + 60000000000).length →
    ∃ t, exec .watchdogExpiry s = .next t ∧ t.rst.keeperUp = false ∧ bit t Reg.RST_STATUS 5 = true ∧
      t.keeper.running = false) ∧
  (∀ s : State, s.rst.keeperUp = true → (s.keeper.running || s.keeper.recovery) = true →
    (s.rst.wdExpiries.filter fun t => s.now < t + 60000000000).length < 3 →
    ∃ t, exec .watchdogExpiry s = .next t ∧ t.rst.keeperUp = true ∧ t.keeper.running = false ∧
      t.rst.wdExpiries = (s.rst.wdExpiries.filter fun t => s.now < t + 60000000000) ++ [s.now] ∧
      reg t Reg.RST_STATUS = reg s Reg.RST_STATUS ∧ t.links = s.links) ∧
  (∀ s : State, bit s Reg.RST_STATUS 5 = true → ∃ t, exec .keeperRestart s = .next t ∧ t.rst.keeperUp = true ∧
    t.rst.wdExpiries = [] ∧ bit t Reg.RST_STATUS 5 = false ∧ t.keeper.running = false) ∧
  (∀ (s : State) (w : Nat), 80 ≤ w → s.rst.porLow = false → ∃ t, exec (.hardReset w) s = .next t ∧
    t.rst.wdExpiries = [] ∧ bit t Reg.RST_STATUS 5 = false) ∧
  (∀ (s : State) (w : Nat), 80 ≤ w → ∃ t, exec (.powerOn w) s = .next t ∧
    t.rst.wdExpiries = [] ∧ bit t Reg.RST_STATUS 5 = false)

/-- R395: a corrected error in a protected array posts GEN_STATE_CORR, and so does an uncorrectable one in the range cache,
which also discards the fragment; another uncorrectable one clears MASTER_EN and FAB_CTL.READY, sets GEN_STATUS.FATAL and
posts GEN_STATE_ECC with the array in INDEX. That GEN_STATE_CORR has the array in INDEX too, and that DATA is the place in
the array, are the model's choices (assumption log 9). -/
def Obligations.ProtectedArrays : Prop :=
  (∀ (s : State) (a : ProtArray) (i : Nat), coreUp s = true →
    exec (.eccError a i true) s = .next (postOwn 0x0104 a.number i s)) ∧
  (∀ (s : State) (i : Nat), coreUp s = true →
    exec (.eccError .rangeCache i false) s = .next (postOwn 0x0104 ProtArray.rangeCache.number i
      { s with xlt := { s.xlt with frags := s.xlt.frags.eraseIdx i } })) ∧
  (∀ (s : State) (a : ProtArray) (i : Nat), coreUp s = true → a ≠ .rangeCache → ∃ u t,
    u = fabCtlWrite (withField (reg s Reg.FAB_CTL) 1 1 0).toNat (masterClear s) ∧
    t = postOwn 0x0105 a.number i (raise Reg.GEN_STATUS 5 u) ∧ exec (.eccError a i false) s = .next t ∧
    t.links = u.links ∧ t.lanes = u.lanes)

/-! ### Configuration -/

/-- R442, R7: a write of a 32-bit register, and of the lower word of a 64-bit one, which takes the staged upper word; a
write of an upper word, which is staged; a read of a 32-bit register, of a lower word, which captures the upper one, and of
an upper word, which gives the captured one; and a read of an address
that names no register, which gives 0 and sets GEN_STATUS.BAD_ADDR. A register whose island is in reset takes no write; one of
a link tile in reset sets RST_STATUS.WR_IN_RESET (R357; which ports answer then, assumption log 14). The setup, policy,
directory and logical-port writes are writes of the configuration port at the address of their register (R442, R450, R452,
R445). That one command reads every register, a word of it at a time, is the model's choice (log 14). -/
def Obligations.ConfigurationPort : Prop :=
  (∀ (s : State) (addr : BitVec 20) (v : Word) (d : RegDesc) (a : Nat),
    findReg addr.toNat = some (d, a, 0) → d.words = 1 → portAnswers s a = true →
    exec (.configWrite addr v) s = .next (portWrite a v.toNat s)) ∧
  (∀ (s : State) (addr : BitVec 20) (v u : Word) (d : RegDesc) (a : Nat),
    findReg addr.toNat = some (d, a, 0) → d.words = 2 → portAnswers s a = true → s.staged.find a = some u →
    exec (.configWrite addr v) s =
      .next (portWrite a (v.toNat + 2 ^ 32 * u.toNat) { s with staged := s.staged.erase a })) ∧
  (∀ (s : State) (addr : BitVec 20) (v : Word) (d : RegDesc) (a : Nat),
    findReg addr.toNat = some (d, a, 1) → d.words = 2 → portAnswers s a = true →
    ((∀ k, registerTile a = some k → tileUp s k = true) →
      exec (.reg64UpperWrite addr v) s = .next { s with staged := s.staged.set a v } ∧
      exec (.configWrite addr v) s = .next { s with staged := s.staged.set a v }) ∧
    (∀ k, registerTile a = some k → coreUp s = true → tileUp s k = false →
      exec (.reg64UpperWrite addr v) s = .next (raise Reg.RST_STATUS 2 s) ∧
      exec (.configWrite addr v) s = .next (raise Reg.RST_STATUS 2 s))) ∧
  (∀ (s : State) (addr : BitVec 20) (d : RegDesc) (a : Nat),
    findReg addr.toNat = some (d, a, 0) → d.words = 2 → portAnswers s a = true →
    exec (.reg64LowerRead addr) s = .next { s with
      rdata := BitVec.ofNat 32 (shown s a).toNat,
      captured := s.captured.set a (BitVec.ofNat 32 ((shown s a).toNat / 2 ^ 32)) }) ∧
  (∀ (s : State) (addr : BitVec 20) (d : RegDesc) (a : Nat),
    findReg addr.toNat = some (d, a, 0) → d.words = 1 → portAnswers s a = true →
    exec (.reg64LowerRead addr) s = .next { s with rdata := BitVec.ofNat 32 (shown s a).toNat }) ∧
  (∀ (s : State) (addr : BitVec 20) (d : RegDesc) (a : Nat) (u : Word),
    findReg addr.toNat = some (d, a, 1) → d.words = 2 → portAnswers s a = true → s.captured.find a = some u →
    exec (.reg64LowerRead addr) s = .next { s with rdata := u, captured := s.captured.erase a }) ∧
  (∀ (s : State) (addr : BitVec 20), findReg addr.toNat = none → coreUp s = true →
    exec (.unimplementedRead addr) s = .next (raise Reg.GEN_STATUS 1 { s with rdata := 0 })) ∧
  (∀ (s : State) (addr : BitVec 20) (v : Word), findReg addr.toNat = none → exec (.configWrite addr v) s = .next s) ∧
  (∀ (s : State) (q : Byte) (off : BitVec 9) (v : Word) (d : RegDesc) (a : Nat),
    findReg (0x8000 + 0x200 * q.toNat + off.toNat) = some (d, a, 0) → d.words = 1 → portAnswers s a = true →
    exec (.qSetupWrite q off v) s = .next (writeQueue ((a - 0x8000) / 0x200) a v.toNat s)) ∧
  (∀ (s : State) (off : BitVec 12) (v : Word) (d : RegDesc) (a : Nat),
    findReg (0x6000 + off.toNat) = some (d, a, 0) → d.words = 1 → coreUp s = true →
    exec (.mgtPolicyWrite off v) s = .next (writeMgt a v.toNat s)) ∧
  (∀ (s : State) (part : BitVec 6) (v u : Word), coreUp s = true → s.staged.find (Reg.XLT_DIR_BASE part.toNat) = some u →
    exec (.xltDirBaseWrite part v) s = .next (writeXlt (Reg.XLT_DIR_BASE part.toNat) (v.toNat + 2 ^ 32 * u.toNat)
      { s with staged := s.staged.erase (Reg.XLT_DIR_BASE part.toNat) })) ∧
  (∀ (s : State) (p : Fin 16) (v : Word), coreUp s = true →
    exec (.lportWrite false p v) s = .next (writeFab (Reg.FAB_LPORT_CTL p.val) v.toNat s)) ∧
  (∀ (s : State) (p : Fin 16) (v : Word), coreUp s = true →
    let a := Reg.FAB_LPORT_LINKS p.val
    let hi := ((s.staged.find a).map (·.toNat)).getD ((reg s a).toNat / 2 ^ 32)
    exec (.lportWrite true p v) s = .next (writeFab a (v.toNat + 2 ^ 32 * hi) { s with staged := s.staged.erase a }))

/-- R119, R121, R122 to R125, R42: MASTER_EN, the configuration image and a window reset. A clear of MASTER_EN marks every
descriptor in progress and puts DISABLED among its ends, leaves each read that is out to be dropped on its return and takes
back the rest, but for walks and for what one command brings whole. Setting it writes the record of a marked descriptor
whose local writes have ended, and holds back the record, and the arrivals behind it, of one whose writes have not. The
model's choices here: an image is read in two parts, its header of 64 bytes first, and a read error (cause 9) is found
before any other check (assumption log 43); the events' INDEX and DATA where their rules name none (log 9). -/
def Obligations.MasterEnableAndImage : Prop :=
  (∀ s : State, coreUp s = true → masterEn s = true → s.qe.descs = Tbl.empty → s.qe.queues = Tbl.empty →
    s.mem.rjobs = Tbl.empty → exec .masterEnClear s = .next (dropLocals (dropReads (lower Reg.GEN_CTL 0 s)))) ∧
  (∀ s : State, coreUp s = true → masterEn s = true → ∃ t, exec .masterEnClear s = .next t ∧ masterEn t = false ∧
    (∀ d v, desc s d = some v → ∃ w, desc t d = some w ∧ w.disabled = true ∧ stDISABLED ∈ w.ends ∧ w.bits = v.bits ∧
      w.buf = none ∧ w.obuf = [] ∧ w.reading = false) ∧
    (∀ r ∈ t.mem.out, r.write = true ∨ r.drop = true) ∧
    (∀ r ∈ t.mem.queue, ∀ j, r.write = false → r.walk = false → t.mem.rjobs.find r.job = some j →
      ∃ w, j.what = .whole w)) ∧
  (∀ s : State, coreUp s = true → masterEn s = false → exec .masterEnClear s = .next s) ∧
  (∀ s : State, coreUp s = true → masterEn s = true → exec .masterEnSet s = .next (proceedAll s)) ∧
  (∀ s : State, let on := raise Reg.GEN_CTL 0 s
    let released (u : State) : State := each (heldWindows u) releaseHeld u
    let told (u : State) : State := if keeperRuns u = true then hostStep u else u
    coreUp s = true → masterEn s = false →
    ((∀ e ∈ s.qe.descs.entries, e.2.disabled = false) →
      exec .masterEnSet s = .next (proceedAll (told (released (flushBacklog on))))) ∧
    (∀ d v, marked s = [(d, v)] → desc s d = some v → v.writes = 0 → collOf s d = none → exec .masterEnSet s =
      .next (proceedAll (told (released (flushBacklog (writeRecord d (quarantineTags v.tags on))))))) ∧
    (∀ d v, marked s = [(d, v)] → desc s d = some v → v.writes ≠ 0 →
      exec .masterEnSet s = .next (proceedAll (told (released on))))) ∧
  (∀ s : State, coreUp s = true → cfgState s = 0 ∨ cfgState s = 3 → masterEn s = true →
    exec .cfgLoad s = .next (issueAll (askWhole (.image true) (fld s Reg.GEN_CFG_BASE 6 42 * 64) 64
      (setReg Reg.GEN_CFG_STATUS 1 s)))) ∧
  (∀ s : State, coreUp s = true → cfgState s = 0 ∨ cfgState s = 3 → masterEn s = false →
    exec .cfgLoad s = .next (postOwn 0x0103 0 0xB (raise Reg.GEN_STATUS 2 (setReg Reg.GEN_CFG_STATUS 0xB3 s)))) ∧
  (∀ s : State, coreUp s = true → cfgState s = 0 ∨ cfgState s = 3 →
    exec .cfgDirect s = .next (each (List.range 36) tryPrime (setReg Reg.GEN_CFG_STATUS 2
      { s with sec := { s.sec with cfgDigest := none, cfgDirect := true } }))) ∧
  (∀ (s u : State) (b : Blob), coreUp s = true → cfgState s = 1 →
    wholeBack (fun w => w == .image true) s = (none, s) → wholeBack Whole.isImage s = (some (.image false, false), u) →
    (b.bad = true → exec (.cfgImageReadDone b) s = .next (refuseImage 9 0 u)) ∧
    (b.bad = false → (imageCause b.data).1 = 0 → exec (.cfgImageReadDone b) s = .next (applyImage b.data u)) ∧
    (b.bad = false → (imageCause b.data).1 ≠ 0 →
      exec (.cfgImageReadDone b) s = .next (refuseImage (imageCause b.data).1 (imageCause b.data).2 u))) ∧
  (∀ s : State, coreUp s = true → cfgState s = 1 → s.mem.rjobs = Tbl.empty → exec .cfgImageReadTimeout s =
    .next (postOwn 0x0103 0 0xA (raise Reg.GEN_STATUS 2 (setReg Reg.GEN_CFG_STATUS 0xA3 s)))) ∧
  (∀ (s : State) (w : BitVec 12), coreUp s = true → (∀ h ∈ s.txn.held, h.packet.win ≠ w) →
    exec (.winReset w) s = .next (setWin w.toNat 0 (setFld Reg.GEN_WIN_CTL 0 12 w.toNat s)))

/-! ### What each command does: queues, tile queues, descriptors -/

/-- R91, R94, R97, R111: an enable of an idle queue starts its ring afresh, a disable clears EN, a write that would move
an enabled queue to another partition is refused with Q_STATUS.CFG_ERR, a tail or head that lies in the ring is taken
and one that does not is refused with Q_STATUS.DB_ERR (that an index at or above the size of the completion ring is
refused is the model's choice, assumption log 47), and CANCEL and REARM set and clear the bits of their mask. -/
def Obligations.QueueCommands : Prop :=
  (∀ (s : State) (q : Byte) (v : Word), unitsUp s = true → queueEn s q.toNat = false → queueIdle s q.toNat = true →
    v.getLsbD 0 = true → exec (.qEnable q v) s = .next (proceedAll (modQueue q.toNat
      (fun x => { x with prod := 0, crHead := 0, reserved := 0, arrivals := 0 })
      (setReg (Reg.Q_HEAD q.toNat) 0 (setReg (Reg.Q_CR_TAIL q.toNat) (2 ^ 16)
        (modQueue q.toNat id (storeReg (Reg.Q_CTL q.toNat) v.toNat s))))))) ∧
  (∀ (s : State) (q : Byte) (v : Word), unitsUp s = true → queueEn s q.toNat = true →
    natField v.toNat 7 6 = queuePart s q.toNat → v.getLsbD 0 = false → exec (.qDisable q v) s =
      .next (proceedAll (dropFetches q.toNat (modQueue q.toNat id (storeReg (Reg.Q_CTL q.toNat) v.toNat s))))) ∧
  (∀ (s : State) (q : Byte) (v : Word), unitsUp s = true → queueEn s q.toNat = true →
    natField v.toNat 7 6 ≠ queuePart s q.toNat →
    (v.getLsbD 0 = true → exec (.qEnable q v) s = .next (proceedAll (raise (Reg.Q_STATUS q.toNat) 1 s))) ∧
    (v.getLsbD 0 = false → exec (.qDisable q v) s = .next (proceedAll (raise (Reg.Q_STATUS q.toNat) 1 s)))) ∧
  (∀ (s : State) (q : Byte) (v : Word), unitsUp s = true → queueEn s q.toNat = true → v.toNat < ringSize s q.toNat →
    exec (.sqTail q v) s = .next (proceedAll (modQueue q.toNat (fun x => { x with prod := v.toNat }) s))) ∧
  (∀ (s : State) (q : Byte) (v : Word), unitsUp s = true →
    (queueEn s q.toNat = false ∨ ringSize s q.toNat ≤ v.toNat) →
    exec (.sqTail q v) s = .next (proceedAll (raise (Reg.Q_STATUS q.toNat) 2 s))) ∧
  (∀ (s : State) (q : Byte) (v : Word), unitsUp s = true → v.toNat % 2 ^ 16 < crSize s q.toNat →
    (v.toNat % 2 ^ 16 + crSize s q.toNat - (queue s q.toNat).crHead % crSize s q.toNat) % crSize s q.toNat ≤
      crUnread s q.toNat →
    exec (.cqHead q v) s = .next (proceedAll (flushBacklog
      (modQueue q.toNat (fun x => { x with crHead := v.toNat % 2 ^ 16 }) s)))) ∧
  (∀ (s : State) (q : Byte) (v : Word), unitsUp s = true →
    (crSize s q.toNat ≤ v.toNat % 2 ^ 16 ∨ crUnread s q.toNat < (v.toNat % 2 ^ 16 + crSize s q.toNat -
      (queue s q.toNat).crHead % crSize s q.toNat) % crSize s q.toNat) →
    exec (.cqHead q v) s = .next (proceedAll (raise (Reg.Q_STATUS q.toNat) 2 s))) ∧
  (∀ (s : State) (q : Byte) (hi : Bool) (mask : Word), unitsUp s = true → exec (.cancel q hi mask) s =
    .next (proceedAll (each (maskGroups hi mask) (fun g s => cancelGroup (queuePart s q.toNat) g none s) s))) ∧
  (∀ (s : State) (q : Byte) (hi : Bool) (mask : Word), unitsUp s = true → ∃ t, exec (.rearm q hi mask) s = .next t ∧
    t = { s with qe := { s.qe with cancelled := t.qe.cancelled } } ∧
    ∀ g p, (g, p) ∈ t.qe.cancelled ↔ (g, p) ∈ s.qe.cancelled ∧ ¬(p = queuePart s q.toNat ∧ g ∈ maskGroups hi mask))

/-- R112: a CANCEL sets the cancelled bit of a group for the queue's partition and no other bit, stops every readable
descriptor of that group whose packets are not all issued, and stops and ends no descriptor of another. -/
def Obligations.CancelStopsTheGroup : Prop :=
  ∀ (part g : Nat) (s : State),
    (∀ x, x ∈ (cancelGroup part g none s).qe.cancelled ↔ x ∈ s.qe.cancelled ∨ x = (g, part)) ∧
    (∀ d v, desc s d = some v →
      (∀ e ∈ s.qe.descs.entries, e.1 = d → ¬(e.2.part = part ∧ dCgEn e.2.bits = true ∧ dGroup e.2.bits = g)) →
      ∃ w, desc (cancelGroup part g none s) d = some w ∧ w.stopped = v.stopped ∧ w.phase = v.phase ∧
        w.ends = v.ends ∧ w.bits = v.bits) ∧
    (∀ d v, desc s d = some v → v.part = part → dCgEn v.bits = true → dGroup v.bits = g → v.disabled = false →
      v.bad = false → ∃ w, desc (cancelGroup part g none s) d = some w ∧ w.bits = v.bits ∧
        (v.allIssued = true ∧ w.ends = v.ends ∨ w.stopped = true))

/-- R91, R95, R96, R98, R107, R112, R115, R117 to R119: slots that are fetched join those in progress, unless the queue was
disabled or MASTER_EN cleared since; data that returns after a clear of MASTER_EN is counted; the next descriptor in round robin starts, and one that fails a check ends with its
status and issues nothing; a record that is due is written; a token enters its tile queue while it has room and starts
at its turn with its template, or ends at once where its group is cancelled; a template load is accepted and reads its
templates, is refused or is installed. The model's choices here: each read request that was dropped counts once in
GEN_MEM_DROP (assumption log 19); a load whose data was dropped reads its templates again (log 28); a token is accepted
whatever the enables, a cancelled token needs no turn, and a load that fails installs nothing (log 30). -/
def Obligations.DescriptorCommands : Prop :=
  (∀ (s u : State) (q : Byte) (b : Beat) (e h n : Nat) (x : Bool), coreUp s = true →
    wholeBack (Whole.ofQueue q.toNat) s = (some (.slots e h n, x), u) →
    let w := modQueue q.toNat (fun v => { v with fetching := v.fetching.drop 1
                                                 fetchDrop := v.fetchDrop && 1 < v.fetching.length }) u
    ((queue u q.toNat).fetchDrop = false → exec (.descriptorFetch q b) s = .next (proceedAll ((List.range n).foldl
      (fun s i => fetchSlot q.toNat (h + i) (slice b.data (64 * i) 64) (b.err || b.poison.getLsbD i) s) w))) ∧
    ((queue u q.toNat).fetchDrop = true → exec (.descriptorFetch q b) s = .next (proceedAll w))) ∧
  (∀ (s : State) (p : Whole → Bool) (job : Nat) (w : Whole) (rs : List MemReq), findWhole p s = some (job, w, rs) →
    (∀ r ∈ s.mem.queue, r.reads job = false) → (∃ r ∈ rs, r.drop = true) →
    (wholeBack p s).1 = some (w, true) ∧ reg (wholeBack p s).2 Reg.GEN_MEM_DROP =
      BitVec.ofNat 64 ((fld s Reg.GEN_MEM_DROP 0 32 + (rs.filter fun r => r.drop).length) % 2 ^ 32)) ∧
  (∀ (s : State) (q d : Nat) (v : Desc), unitsUp s = true → masterEn s = true → nextTurn s = some q → q < 256 →
    headDesc s q = some (d, v) → exec .descriptorStart s = .next (proceedAll (startDesc d { s with qe := { s.qe with
      wrrPos := q
      wrrLeft := if 0 < s.qe.wrrLeft ∧ q = s.qe.wrrPos then s.qe.wrrLeft - 1 else weightOf s q - 1 } }))) ∧
  (∀ (s : State) (d : Nat) (v : Desc), desc s d = some v → recordDue s d v = true →
    exec (.writeCompletionRecord d) s = .next (issueAll (fetchAll (flushBacklog (writeRecord d s))))) ∧
  (∀ (s : State) (t : BitVec 3) (tok : BitVec 256), unitsUp s = true → (tileQueue s t.toNat).tokens.length < 64 →
    exec (.tileTokenPush t tok) s = .next (modTq t.toNat (fun v => { v with tokens := v.tokens ++ [tok] }) s)) ∧
  (∀ (s : State) (t : BitVec 3) (tok : BitVec 256), unitsUp s = true → 64 ≤ (tileQueue s t.toNat).tokens.length →
    exec (.tileTokenPush t tok) s = .next s) ∧
  (∀ (s : State) (t : BitVec 3) (tok : BitVec 256) (rest : List (BitVec 256)) (tmpl : BitVec 512),
    let q := boundQueue s t.toNat
    let v := Desc.new q (BitVec.ofNat 16 (natField (tokWord tok 0) 16 16)) true (tokenBits tok tmpl) false
      (queuePart s q) (partOf s (queuePart s q)).key
    unitsUp s = true → masterEn s = true → tqEn s t.toNat = true → queueEn s q = true →
    (tileQueue s t.toNat).tokens = tok :: rest → disabledLeft s = false →
    (tileQueue s t.toNat).templates.find (natField (tokWord tok 0) 0 6) = some tmpl →
    inFlight s q + (queue s q).reading < maxInflight s q → s.qe.descs.entries.length + slotsReading s < 8192 →
    0 < crFree s q →
    let taken (x : State) : State := modQueue q (fun x => { x with reserved := x.reserved + 1 })
      (addDesc v (modTq t.toNat (fun x => { x with tokens := rest }) x))
    (isCancelled s v = false → nextTurn s = some (256 + t.toNat) → exec (.tileTokenStart t) s =
      .next (proceedAll (startDesc s.qe.descNo (taken (takeTurn (256 + t.toNat) s))))) ∧
    (isCancelled s v = true → exec (.tileTokenStart t) s = .next (proceedAll (taken s)))) ∧
  (∀ (s : State) (v : Word), coreUp s = true → v.getLsbD 31 = false →
    exec (.tqTemplateLoad v) s = .next (storeReg Reg.GEN_TQ_CTL v.toNat s)) ∧
  (∀ (s : State) (v : Word), coreUp s = true → v.getLsbD 31 = true → natField v.toNat 18 7 = 0 →
    exec (.tqTemplateLoad v) s = .next (raise Reg.GEN_TQ_STATUS 0 (storeReg Reg.GEN_TQ_CTL v.toNat s))) ∧
  (∀ (s : State) (v : Word), let u := storeReg Reg.GEN_TQ_CTL v.toNat s
    coreUp s = true → v.getLsbD 31 = true → 0 < natField v.toNat 18 7 →
    natField v.toNat 12 6 + natField v.toNat 18 7 ≤ 64 → tqEn u (natField v.toNat 8 3) = false →
    (tileQueue u (natField v.toNat 8 3)).tokens = [] → (∀ x, x < 8 → (tileQueue u x).loading = none) →
    exec (.tqTemplateLoad v) s = .next (issueAll (askWhole (.templates (natField v.toNat 8 3))
      (fld u Reg.GEN_TQ_TMPL_BASE 6 42 * 64) (64 * natField v.toNat 18 7) (modTq (natField v.toNat 8 3)
        (fun x => { x with loading := some (natField v.toNat 12 6, natField v.toNat 18 7) }) u)))) ∧
  (∀ (s u : State) (b : Blob) (t i n : Nat), coreUp s = true → (tileQueue u t).loading = some (i, n) →
    (wholeBack Whole.isTemplates s = (some (.templates t, false), u) → b.bad = false →
      exec (.tqTemplateLoadDone b) s = .next (raise Reg.GEN_TQ_STATUS 2 (modTq t (fun v => { v with
        loading := none
        templates := (List.range n).foldl
          (fun x k => x.set (i + k) (BitVec.ofNat 512 (leNat (fit 64 (slice b.data (64 * k) 64))))) v.templates }) u))) ∧
    (wholeBack Whole.isTemplates s = (some (.templates t, false), u) → b.bad = true →
      exec (.tqTemplateLoadDone b) s =
        .next (raise Reg.GEN_TQ_STATUS 2 (modTq t (fun v => { v with loading := none }) u))) ∧
    (wholeBack Whole.isTemplates s = (some (.templates t, true), u) → exec (.tqTemplateLoadDone b) s =
      .next (issueAll (askWhole (.templates t) (fld u Reg.GEN_TQ_TMPL_BASE 6 42 * 64) (64 * n) u))))

/-- R65, R106: a descriptor that fails a start check issues nothing: it waits for its record, which will carry the
status of the check, and no other descriptor changes. -/
def Obligations.FailedStartIssuesNothing : Prop :=
  ∀ (s : State) (d : Nat) (v : Desc) (st : Byte), desc s d = some v →
    let n := s.qe.starts + 1
    let u : State := { s with qe := { s.qe with starts := n } }
    let w : Desc := { v with startNo := n
                             chain := if dChainEn v.bits then (slotProgram u v.bits).getD [] else []
                             pkey := (partOf u v.part).key }
    (v.bad = true ∧ st = stBADOP ∨ v.bad = false ∧ startFault u w = some st) →
    (startDesc d s).mem = s.mem ∧ (startDesc d s).router = s.router ∧ (startDesc d s).txn = s.txn ∧
    desc (startDesc d s) d = some { w with phase := .drain, stopped := true, startNo := 0, ends := v.ends ++ [st] } ∧
    ∀ e, e ≠ d → desc (startDesc d s) e = desc s e

/-! ### What each command does: memory ports, the target, the initiator -/

/-- R35, R39, R119, R360, R411 to R415, R133: a response is matched to its outstanding request, completes the job whose
last part it is, is dropped where its request was given up, and is counted in RST_MEM_DROP where a reset came between;
the lines of a posted write land with each response, an error is counted for the lines and bytes of its own write alone, and
an answer reports those lines POISONED; an operation of the atomic unit starts with its read. -/
def Obligations.MemoryResponses : Prop :=
  (∀ (s u : State) (port : Fin 16) (id : BitVec 12) (b : Beat) (r : MemReq) (j : RdJob) (data : List PByte),
    coreUp s = true → findReq s port.val id.toNat false false = some r → r.isWhole s = false → r.drop = false →
    readReturn r b s = (some (j, data), u) →
    exec (.memReadResponse port id b) s = .next (proceedAll (readDone j.what data u))) ∧
  (∀ (s u : State) (port : Fin 16) (id : BitVec 12) (b : Beat) (r : MemReq),
    coreUp s = true → findReq s port.val id.toNat false false = some r → r.isWhole s = false → r.drop = false →
    readReturn r b s = (none, u) → exec (.memReadResponse port id b) s = .next (proceedAll (reapRead r.job u))) ∧
  (∀ (s : State) (port : Fin 16) (id : BitVec 12) (b : Beat) (r : MemReq),
    coreUp s = true → findReq s port.val id.toNat false false = some r → r.isWhole s = false → r.drop = true →
    exec (.memReadResponse port id b) s =
      .next (proceedAll (reapRead r.job (bump Reg.GEN_MEM_DROP (dropReq r s))))) ∧
  (∀ (s : State) (port : Fin 16) (id : BitVec 12) (b : Beat) (err : Bool) (x : StaleReq), coreUp s = false →
    s.rst.stale.find? (fun x => x.port == port.val && x.id == id) = some x →
    let t := bump Reg.RST_MEM_DROP { s with rst := { s.rst with stale := s.rst.stale.erase x } }
    exec (.memReadResponse port id b) s = .next t ∧ exec (.memWriteResponse port id err) s = .next t ∧
    exec (.walkReadReturn port id b) s = .next t) ∧
  (∀ (s u : State) (port : Fin 16) (id : BitVec 12) (r : MemReq) (j : WrJob), coreUp s = true →
    findReq s port.val id.toNat true false = some r → writeReturn r false s = (some (j, true), u) →
    (∀ p, j.what ≠ .posted p) →
    exec (.memWriteResponse port id false) s = .next (proceedAll (flushBacklog (flushDisabled (writeDone j u))))) ∧
  (∀ (s u : State) (port : Fin 16) (id : BitVec 12) (r : MemReq) (j : WrJob) (p : Packet), coreUp s = true →
    findReq s port.val id.toNat true false = some r → writeReturn r false s = (some (j, true), u) →
    j.what = .posted p → exec (.memWriteResponse port id false) s =
      .next (proceedAll (flushBacklog (flushDisabled
        (answerApplied p (poisonedLines p false j.badLines) [] (landLines p.win.toNat r.nline u)))))) ∧
  (∀ (s u : State) (port : Fin 16) (id : BitVec 12) (r : MemReq) (j : WrJob) (p : Packet), coreUp s = true →
    findReq s port.val id.toNat true false = some r → writeReturn r false s = (some (j, false), u) →
    j.what = .posted p → exec (.memWriteResponse port id false) s =
      .next (proceedAll (flushBacklog (flushDisabled (landLines p.win.toNat r.nline u))))) ∧
  (∀ (s u : State) (port : Fin 16) (id : BitVec 12) (r : MemReq), coreUp s = true →
    findReq s port.val id.toNat true false = some r → writeReturn r true (bump Reg.GEN_MEM_WERR_CNT s) = (none, u) →
    exec (.memWriteResponse port id true) s = .next (proceedAll (flushBacklog (flushDisabled u)))) ∧
  (∀ (s : State) (r : MemReq) (j : WrJob) (err : Bool), s.mem.wjobs.find r.job = some j → 1 < j.left →
    (writeReturn r err s).1 = some ({ j with
      left := j.left - 1
      badLines := j.badLines + (if err = true then r.nline else 0)
      badBytes := j.badBytes + (if err = true then r.stored else 0) }, false)) ∧
  (∀ (s : State) (port : Fin 16) (id : BitVec 12) (b : Beat) (r : MemReq), coreUp s = true →
    findReq s port.val id.toNat false true = some r →
    exec (.walkReadReturn port id b) s = .next (proceedAll (walkReturn r b s))) ∧
  (∀ (s : State) (n : Nat) (o : AtomOp), coreUp s = true → s.txn.atoms.find n = some o → atomicReady s n o = true →
    exec (.atomicUnitIssue n) s = .next (issueAll (readMem (.atomic n) [⟨o.pa, o.width, o.mattr⟩] o.locked
      (some (o.part, o.gen)) { s with txn := { s.txn with atoms := s.txn.atoms.set n { o with stage := 1 } } })))

/-- R31, R32, R40, R49, R52, R55, R202: a request of an admitted partition whose blocks are all mapped with its
permission leaves the ejection port, and reads its bytes or lands. -/
def Obligations.RequestsComplete : Prop :=
  ∀ (s : State) (p : Packet) (part : Nat) (xs : List Extent) (fs : List Frag), coreUp s = true → unitsUp s = true →
    masterEn s = true → p.abt = false → ejectHeld s p = false → partOfKey s p.pkey = some part →
    requestFault p = none →
    lookBlocks (takeEjected p s) part (requestPerm p) (blocks4k p.addr.toNat (requestBytes p)) = .ok xs fs →
    let u := each fs touch (takeEjected p s)
    let read := issueAll (readMem (.target p) xs false (some (part, genOf u part)) u)
    (p.ptype = tRD ∨ p.ptype = tPRD → exec (.rdReceive p) s = .next read) ∧
    (p.ptype = tGRD → exec (.grdReceive p) s = .next read) ∧
    (∀ x rest, xs = x :: rest →
      let landed := issueAll (landPacket p x.pa x.mattr part (genOf u part) u)
      (p.ptype = tWR ∨ p.ptype = tPWR → exec (.wrReceive p) s = .next landed) ∧
      (p.ptype = tMSG → exec (.msgReceive p) s = .next landed) ∧
      (p.ptype = tATOM → exec (.atomReceive p) s = .next landed) ∧
      (p.ptype = tVACC → exec (.vaccReceive p) s = .next landed))

/-- R26, R28, R120, R139, R146: a request that fails a check is answered with the check's status and neither reads nor
lands; one that misses waits for a walk, and where the miss buffer is full stays at the port and stops its virtual
channel; one that was cut short (R287), or whose key no partition holds (R244), is dropped; a port that takes nothing leaves it where
it is; and a packet of no listed type is dropped and counted. -/
def Obligations.RequestsRefused : Prop :=
  ∀ (s : State) (p : Packet), coreUp s = true → unitsUp s = true →
    let u := takeEjected p s
    let all (t : State) : Prop :=
      ((p.ptype = tRD ∨ p.ptype = tPRD) → exec (.rdReceive p) s = .next t) ∧
      (p.ptype = tGRD → exec (.grdReceive p) s = .next t) ∧
      ((p.ptype = tWR ∨ p.ptype = tPWR) → exec (.wrReceive p) s = .next t) ∧
      (p.ptype = tMSG → exec (.msgReceive p) s = .next t) ∧
      (p.ptype = tATOM → exec (.atomReceive p) s = .next t) ∧
      (p.ptype = tVACC → exec (.vaccReceive p) s = .next t)
    let looked (part : Nat) := lookBlocks u part (requestPerm p) (blocks4k p.addr.toNat (requestBytes p))
    (p.abt = true → all u) ∧
    (p.abt = false → ejectHeld s p = true →
      exec (.rdReceive p) s = .next s ∧ exec (.grdReceive p) s = .next s ∧ exec (.wrReceive p) s = .next s ∧
      exec (.msgReceive p) s = .next s ∧ exec (.atomReceive p) s = .next s ∧ exec (.vaccReceive p) s = .next s) ∧
    (p.abt = false → ejectHeld s p = false → partOfKey s p.pkey = none → all (issueAll u)) ∧
    (p.abt = false → ejectHeld s p = false → partOfKey s p.pkey ≠ none → masterEn s = false →
      all (issueAll (failRequest p stDISABLED u))) ∧
    (∀ st, p.abt = false → ejectHeld s p = false → partOfKey s p.pkey ≠ none → masterEn s = true →
      requestFault p = some st → all (issueAll (failRequest p st u))) ∧
    (∀ part st va, p.abt = false → ejectHeld s p = false → partOfKey s p.pkey = some part → masterEn s = true →
      requestFault p = none → looked part = .fault st va →
      all (issueAll (failRequest p st (reportFault true part va p.ptype.toNat p.src u)))) ∧
    (∀ part va, p.abt = false → ejectHeld s p = false → partOfKey s p.pkey = some part → masterEn s = true →
      requestFault p = none → looked part = .miss va →
      (s.txn.miss.length < 64 → all (issueAll (awaitWalk .target part va (.pkt s.txn.missNo va) { u with
        txn := { u.txn with miss := u.txn.miss ++ [⟨s.txn.missNo, p⟩], missNo := s.txn.missNo + 1 } }))) ∧
      (64 ≤ s.txn.miss.length → all { s with txn := { s.txn with stopVcs := s.txn.stopVcs ++ [p.vc] } })) ∧
    (∀ st x, writeClass p.ptype = false → failRequest p st x = failLoad p st x) ∧
    (∀ st x, writeClass p.ptype = true → failRequest p st x = failWrite p st false x) ∧
    (listedType p.ptype = false → exec (.unknownTypeReceive p) s = .next (bump Reg.GEN_RX_BADTYPE u))

/-- R38, R39, R40, R45: a fence-final write whose EXPECT lies ahead counts its lines at once and is held, where there is
room; without room it counts nothing and its refusal, a HOLD_FULL record or answer, goes out; one whose EXPECT lies far
ahead counts nothing and faults its window; one whose EXPECT is reached counts its lines and joins its window's line (R74),
in order of EXPECT with the held writes that its own lines release (assumption log 47). -/
def Obligations.FenceFinalWritesAreHeld : Prop :=
  ∀ (p : Packet) (pa mattr part gen : Nat) (s : State), p.ff = true →
    let w := p.win.toNat
    let c := winCount s w
    let n := packetLines p
    let t := landPacket p pa mattr part gen s
    (classify c n p.expect.toNat = .pending → s.txn.held.length < 1024 →
      winCount t w = (c + n) % 2 ^ 32 ∧ ⟨s.txn.heldNo, p, pa, mattr, part, gen⟩ ∈ t.txn.held ∧
      (∀ x, x ≠ w → winCount t x = winCount s x)) ∧
    (classify c n p.expect.toNat = .pending → 1024 ≤ s.txn.held.length →
      t.txn.windows = s.txn.windows ∧ t.txn.held = s.txn.held ∧ t.mem = s.mem ∧
      (s.router.inject ≠ [] →
        let recs := mergeRec ⟨stHOLDFULL, p.tag, recElem p, BitVec.ofNat 32 n⟩ (findSet s p).recs
        t.router.inject.getD 0 [] = s.router.inject.getD 0 [] ++ [{ blankPacket with
          ptype := tLACK, vc := if p.vc == 7 then 7 else 3, pkey := p.pkey, src := ownId s, dst := p.src
          len := BitVec.ofNat 12 (8 * recs.length), payload := recs.flatMap LackRec.bytes }]) ∧
      reg t Reg.GEN_HOLD_FULL_CNT = BitVec.ofNat 64 ((fld s Reg.GEN_HOLD_FULL_CNT 0 32 + 1) % 2 ^ 32)) ∧
    (classify c n p.expect.toNat = .reached → masterEn s = true →
      winCount t w = (c + n) % 2 ^ 32 ∧ (∀ x ∈ t.txn.held, x ∈ s.txn.held) ∧
      ⟨s.txn.heldNo, p, pa, mattr, part, gen⟩ ∈ t.txn.fenceQ.get w []) ∧
    (classify c n p.expect.toNat = .fault →
      t.txn.windows = s.txn.windows ∧ t.txn.held = s.txn.held ∧ t.mem = s.mem ∧
      reg t Reg.GEN_WIN_FAULT = BitVec.ofNat 64 (w + 2 ^ 16 * p.src.toNat + 2 ^ 31))

/-- R31, R45, R47, R54, R57, R58, R60 to R62, R119: answers are taken under the tag they name, a stray one is counted, data
that comes while MASTER_EN is 0 is counted in GEN_MEM_DROP, and the timers of refusals, held writes, record sets and tags do
what their rules say. The model's choices here: GEN_HOLD_TMO's event carries the tag in DATA (assumption log 9), and a
timeout of a tag marks every element that still has something open under it (log 47). -/
def Obligations.AnswersAndTimers : Prop :=
  (∀ (s : State) (p : Packet) (x : TagSt) (v : Desc) (e : Expected), coreUp s = true → masterEn s = true →
    p.ptype = tRDR → p.abt = false → tagOf s p.tag.toNat = some x → x.quarantine = false → sealedOk x p = true →
    desc s x.desc = some v → opcode v.bits ≠ opRESUME →
    let g := opcode v.bits == opGATHER
    x.expects.find? (fits g p) = some e →
    (p.status = stOK → exec (.rdrReceive p) s = .next (issueAll (settleTag p.tag.toNat
      (placeData x.desc p.tag.toNat e p (setTag p.tag.toNat { x with expects := x.expects.filter (fun y => y != e) }
        (takeEjected p s)))))) ∧
    (p.status ≠ stOK → exec (.rdrReceive p) s = .next (issueAll (settleTag p.tag.toNat
      (partEnded x.desc e.elem p.status (setTag p.tag.toNat { x with
        expects := x.expects.filter (fun y => if g then !fits g p y else y != e)
        sump := x.sump || p.status == stSUMP } (takeEjected p s))))))) ∧
  (∀ (s : State) (p : Packet) (x : TagSt) (v : Desc) (e : Expected), coreUp s = true → masterEn s = true →
    p.ptype = tATOMR → p.abt = false → tagOf s p.tag.toNat = some x → x.quarantine = false → sealedOk x p = true →
    desc s x.desc = some v → x.expects.find? (fun e => e.atom && e.seq == p.seq.toNat) = some e →
    let w := atomWidth { blankPacket with subop := BitVec.ofNat 8 (dSubop v.bits) }
    let u := setTag p.tag.toNat { x with
      expects := x.expects.filter (fun y => y != e), sump := x.sump || p.status == stSUMP } (takeEjected p s)
    (p.status = stOK → exec (.atomrReceive p) s = .next (issueAll (settleTag p.tag.toNat (setDesc x.desc { v with
      resend := none, result := BitVec.ofNat 128 (sliceNat p.payload 0 w), done := v.done + w } u)))) ∧
    (p.status = stPOISONED → exec (.atomrReceive p) s = .next (issueAll (settleTag p.tag.toNat (setDesc x.desc { v with
      resend := none, result := BitVec.ofNat 128 (sliceNat p.payload 0 w), ends := v.ends ++ [p.status] } u)))) ∧
    (p.status ≠ stOK → p.status ≠ stPOISONED → exec (.atomrReceive p) s = .next (issueAll (settleTag p.tag.toNat
      (setDesc x.desc { v with resend := none, ends := v.ends ++ [p.status] } u))))) ∧
  (∀ (s : State) (p : Packet), coreUp s = true → masterEn s = true → p.abt = false → tagOf s p.tag.toNat = none →
    let t := issueAll (bump Reg.GEN_STRAY_DROP (takeEjected p s))
    (p.ptype = tRDR → exec (.rdrReceive p) s = .next t) ∧ (p.ptype = tATOMR → exec (.atomrReceive p) s = .next t)) ∧
  (∀ (s : State) (p : Packet), coreUp s = true → masterEn s = false → p.abt = false →
    let t := bump Reg.GEN_MEM_DROP (takeEjected p s)
    (p.ptype = tRDR → exec (.rdrReceive p) s = .next t) ∧ (p.ptype = tATOMR → exec (.atomrReceive p) s = .next t)) ∧
  (∀ (s : State) (p : Packet), coreUp s = true → p.ptype = tLACK → p.abt = false → exec (.lackReceive p) s =
    .next (issueAll (each (lackRecords p) (fun r s => takeRecord r.1 r.2.1 r.2.2.1 r.2.2.2 s) (takeEjected p s)))) ∧
  (∀ (s : State) (t elem n : Nat) (x : TagSt) (a : LineAcct), tagOf s t = some x → x.quarantine = false →
    x.lines.find elem = some a → n ≤ a.left → takeRecord stOK t elem n s =
      settleTag t (setTag t { x with lines := x.lines.set elem { a with left := a.left - n, ok := a.ok + n } } s)) ∧
  (∀ (s : State) (st : Byte) (t elem n : Nat) (x : TagSt) (a : LineAcct), tagOf s t = some x → x.quarantine = false →
    st ≠ stOK → st ≠ stHOLDFULL → st ≠ stSUMP → x.lines.find elem = some a → n ≤ a.left → takeRecord st t elem n s =
      settleTag t (partEnded x.desc elem st
        (setTag t { x with lines := x.lines.set elem { a with left := a.left - n } } s))) ∧
  (∀ (s : State) (d : Nat) (v : Desc) (r : Resend), desc s d = some v → v.resend = some r → r.stage = 1 →
    masterEn s = true → v.disabled = false → v.stopped = false → exec (.holdFullResend d) s =
      .next (issueAll (resume d (setDesc d { v with resend := some { r with stage := 2 } } s)))) ∧
  (∀ (s : State) (h : Nat) (x : Held), s.txn.held.find? (fun x => x.no == h) = some x → exec (.holdTimeout h) s =
    .next (bump Reg.GEN_HOLD_TMO_CNT (postEvent 0x0102 (ownId s) x.part x.packet.win.toNat x.packet.tag.toNat
      (failWrite x.packet stHOLDTMO true { s with txn := { s.txn with
        held := s.txn.held.filter fun y => y.no != x.no } })))) ∧
  (∀ (s : State) (n : NodeId) (k : PKey) (vc7 : Bool) (r : RecSet),
    s.txn.sets.find? (fun x => x.node == n && x.pkey == k && x.vc7 == vc7) = some r → r.recs ≠ [] →
    exec (.lackCoalesceTimeout n k vc7) s = .next (inject 0 { blankPacket with
      ptype := tLACK, vc := if r.vc7 then 7 else 3, pkey := r.pkey, src := ownId s, dst := r.node,
      len := BitVec.ofNat 12 (8 * r.recs.length), payload := r.recs.flatMap LackRec.bytes }
      { s with txn := { s.txn with sets := s.txn.sets.filter fun x =>
        !(x.node == r.node && x.pkey == r.pkey && x.vc7 == r.vc7) } })) ∧
  (∀ (s : State) (tag : Tag) (x : TagSt) (v : Desc),
    let own := ((desc s x.desc).bind (·.resend)).any fun r => r.packet.tag == tag
    let u := freeTag tag.toNat true (onlyIf own (withdrawReads x.desc RdWhat.ofResend) s)
    tagOf s tag.toNat = some x → x.quarantine = false → desc u x.desc = some v →
    (isCollective (opcode v.bits) = true ∨ opcode v.bits = opRESUME →
      exec (.operationTimeout tag) s = .next (stopDesc x.desc stTIMEOUT false u)) ∧
    (isCollective (opcode v.bits) = false → opcode v.bits ≠ opRESUME → isElement v.bits = false →
      exec (.operationTimeout tag) s = .next (setDesc x.desc { v with ends := v.ends ++ [stTIMEOUT] } u)) ∧
    (isCollective (opcode v.bits) = false → opcode v.bits ≠ opRESUME → isElement v.bits = true →
      exec (.operationTimeout tag) s = .next (modDesc x.desc (fun v => { v with ends := v.ends ++ [stTIMEOUT] })
        (each x.openElems (fun e s => partEnded x.desc e stTIMEOUT s) u)))) ∧
  (∀ (s : State) (tag : Tag) (x : TagSt), tagOf s tag.toNat = some x → x.quarantine = true →
    exec (.tagQuarantineEnd tag) s =
      .next { s with txn := { s.txn with tags := s.txn.tags.erase tag.toNat } })

/-! ### What each command does: translation, the impeller -/

/-- R147, R148, R150: an invalidation takes out exactly the fragments it names, a command that comes while one is in
progress is refused with XLT_INV_STATUS.OVERRUN, and the end of the drain completes the command. -/
def Obligations.TranslationCommands : Prop :=
  (∀ (s : State) (p : BitVec 6), unitsUp s = true → s.xlt.inv = none → 0 < fld s Reg.XLT_INV_LEN 0 47 →
    fld s Reg.XLT_INV_LEN 0 47 ≤ 2 ^ 46 → exec (.invRange p) s = .next (proceedAll (invalidate 1 p.toNat [p.toNat]
      (fun f => f.part == p.toNat && (f.lo < fld s Reg.XLT_INV_ADDR 0 52 + fld s Reg.XLT_INV_LEN 0 47 &&
        fld s Reg.XLT_INV_ADDR 0 52 < f.hi)) s))) ∧
  (∀ (s : State) (p : BitVec 6), unitsUp s = true → s.xlt.inv = none → fld s Reg.XLT_INV_LEN 0 47 = 0 →
    exec (.invRange p) s = .next (proceedAll (raise Reg.XLT_INV_STATUS 2 s))) ∧
  (∀ (s : State) (p : BitVec 6), unitsUp s = true → s.xlt.inv = none → exec (.invPart p) s =
    .next (proceedAll (invalidate 2 p.toNat [p.toNat] (fun f => f.part == p.toNat) s))) ∧
  (∀ s : State, unitsUp s = true → s.xlt.inv = none →
    exec .invAll s = .next (proceedAll (invalidate 3 0 (List.range 64) (fun _ => true) s))) ∧
  (∀ (s : State) (p : BitVec 6), unitsUp s = true → s.xlt.inv = none → dirEn s p.toNat = true →
    exec (.preload p) s = .next (proceedAll (grantHandlers 16 (setWalk s.xlt.walkNo
      (Walk.new .preload p.toNat (fld s Reg.XLT_INV_ADDR 0 52) 0 [])
      { s with xlt := { s.xlt with inv := some ⟨4, p.toNat, []⟩, walkNo := s.xlt.walkNo + 1 } })))) ∧
  (∀ (s : State) (p : BitVec 6), unitsUp s = true → s.xlt.inv = none → dirEn s p.toNat = false →
    exec (.preload p) s = .next (proceedAll (raise Reg.XLT_INV_STATUS 1 s))) ∧
  (∀ (s : State) (p : BitVec 6), unitsUp s = true → s.xlt.inv ≠ none →
    let t := proceedAll (raise Reg.XLT_INV_STATUS 2 s)
    exec (.invRange p) s = .next t ∧ exec (.invPart p) s = .next t ∧ exec .invAll s = .next t ∧
    exec (.preload p) s = .next t) ∧
  (∀ s : State, drainEnded s = true → exec .invDrainComplete s =
    .next (raise Reg.XLT_INV_STATUS 1 { s with xlt := { s.xlt with inv := none } }))

/-- R150: the first step of an invalidation, where no walk of a disabled directory is waited for: exactly the fragments
that it names go, the generations of its partitions advance by one and no other does, the descriptors of those
partitions keep no block that they have looked up but those of which they have read a part (R128, R152), and the command
is in progress. Which blocks those are, by the addresses that a descriptor comes to next, is the model's reading (assumption
log 24). -/
def Obligations.InvalidationTakesEffect : Prop :=
  ∀ (cmd part : Nat) (parts : List Nat) (gone : Frag → Bool) (s : State), parts.Nodup →
    (∀ e ∈ s.xlt.walks.entries, dirEn s e.2.part = true) →
    (invalidate cmd part parts gone s).qe =
      { s.qe with descs := ⟨s.qe.descs.entries.map fun e => (e.1, if parts.contains e.2.part then
          { e.2 with maps := e.2.maps.filter fun m => (midBlocks s e.1 e.2).contains m.blk } else e.2)⟩ } ∧
    (invalidate cmd part parts gone s).xlt.frags = s.xlt.frags.filter (fun f => !gone f) ∧
    (∀ p, genOf (invalidate cmd part parts gone s) p = genOf s p + (if p ∈ parts then 1 else 0)) ∧
    (invalidate cmd part parts gone s).xlt.inv = some ⟨cmd, part, parts.map fun p => (p, genOf s p + 1)⟩ ∧
    (invalidate cmd part parts gone s).txn = s.txn

/-- R156 to R158, R163, R164, R166: chain loads, chain programs and pipes. That a collective whose program is no longer one
that it may run ends with BAD_OP is the model's choice (assumption log 26), and so is that dropped data is read again
(log 28). -/
def Obligations.ImpellerCommands : Prop :=
  (∀ (s : State) (v : Word), let u := storeReg Reg.IMP_CHAIN_CTL v.toNat s
    unitsUp s = true → natField v.toNat 0 2 = 1 → s.imp.loading = none → 0 < natField v.toNat 16 7 →
    natField v.toNat 8 6 + natField v.toNat 16 7 ≤ 64 → masterEn u = true → exec (.chainLoad v) s =
      .next (issueAll (askWhole .programs (fld u Reg.IMP_CHAIN_BASE 8 40 * 256) (256 * natField v.toNat 16 7)
        { u with imp := { u.imp with loading := some (natField v.toNat 8 6, natField v.toNat 16 7) } }))) ∧
  (∀ (s : State) (v : Word), let u := storeReg Reg.IMP_CHAIN_CTL v.toNat s
    unitsUp s = true → natField v.toNat 0 2 = 1 → s.imp.loading = none → 0 < natField v.toNat 16 7 →
    natField v.toNat 8 6 + natField v.toNat 16 7 ≤ 64 → masterEn u = false → exec (.chainLoad v) s =
      .next (raise Reg.IMP_CHAIN_STATUS 1 (chainRefused (natField v.toNat 8 6) 7 u))) ∧
  (∀ (s : State) (v : Word), unitsUp s = true → natField v.toNat 0 2 = 1 → s.imp.loading ≠ none →
    exec (.chainLoad v) s = .next (raise Reg.IMP_CHAIN_STATUS 3 s)) ∧
  (∀ (s : State) (v : Word), unitsUp s = true → natField v.toNat 0 2 = 1 → s.imp.loading = none →
    (natField v.toNat 16 7 = 0 ∨ 64 < natField v.toNat 8 6 + natField v.toNat 16 7) →
    exec (.chainLoad v) s = .next (raise Reg.IMP_CHAIN_STATUS 1
      (chainRefused (natField v.toNat 8 6) 8 (storeReg Reg.IMP_CHAIN_CTL v.toNat s)))) ∧
  (∀ (s u : State) (w : Whole) (i : Nat) (b : Blob), coreUp s = true →
    wholeBack (fun w => w == .programs) s = (some (w, false), u) → u.imp.loading = some (i, 1) →
    (b.bad = false → progCause (fit 256 b.data) = 0 → exec (.chainLoadDone [b]) s = .next (raise Reg.IMP_CHAIN_STATUS 1
      { u with imp := { u.imp with loading := none, chains := u.imp.chains.set i (fit 256 b.data) } })) ∧
    (b.bad = false → progCause (fit 256 b.data) ≠ 0 → exec (.chainLoadDone [b]) s = .next (raise Reg.IMP_CHAIN_STATUS 1
      (chainRefused i (progCause (fit 256 b.data))
        { u with imp := { u.imp with loading := none, chains := u.imp.chains.erase i } }))) ∧
    (b.bad = true → exec (.chainLoadDone [b]) s = .next (raise Reg.IMP_CHAIN_STATUS 1
      (chainRefused i 6 { u with imp := { u.imp with loading := none, chains := u.imp.chains.erase i } })))) ∧
  (∀ (s u : State) (w : Whole) (bs : List Blob) (i n : Nat), coreUp s = true →
    wholeBack (fun w => w == .programs) s = (some (w, true), u) → u.imp.loading = some (i, n) →
    exec (.chainLoadDone bs) s =
      .next (issueAll (askWhole .programs (fld u Reg.IMP_CHAIN_BASE 8 40 * 256) (256 * n) u))) ∧
  (∀ (s : State) (v : Word), unitsUp s = true →
    exec (.pipeRsvWrite v) s = .next (refreshReserved (storeReg Reg.IMP_PIPE_RSV v.toNat s))) ∧
  (∀ (s : State) (d p : Nat) (v : Desc), unitsUp s = true → masterEn s = true →
    (s.qe.descs.entries.filter fun e => wantsPipe s e.1 e.2 && !slotLoading s e.2.bits) = [(d, v)] →
    isCollective (opcode v.bits) = true → choosePipe s true = some p →
    (chainBad s v.bits = false →
      exec .pipeBind s = .next (proceedAll (goOn d (setDesc d { v with
        pipe := some p, flags := 0, phase := .running, chain := (slotProgram s v.bits).getD [] }
        { s with imp := { s.imp with pipes := s.imp.pipes.set p d } })))) ∧
    (chainBad s v.bits = true → exec .pipeBind s = .next (proceedAll (endColl d stBADOP true s)))) ∧
  (∀ (s : State) (d p : Nat) (v : Desc), unitsUp s = true → masterEn s = true →
    (s.qe.descs.entries.filter fun e => wantsPipe s e.1 e.2 && !slotLoading s e.2.bits) = [(d, v)] →
    isCollective (opcode v.bits) = false → choosePipe s (collFormat (opcode v.bits)) = some p →
    let w := { v with chain := (slotProgram s v.bits).getD [] }
    let u := lookAhead w (setDesc d { w with pipe := some p, flags := 0, phase := .running }
      { s with imp := { s.imp with pipes := s.imp.pipes.set p d } })
    (∀ st, startFault s w = some st → exec .pipeBind s = .next (proceedAll (endUnstarted d st s))) ∧
    (startFault s w = none → opcode v.bits ≠ opRESUME → exec .pipeBind s = .next (proceedAll (goOn d u))) ∧
    (startFault s w = none → opcode v.bits = opRESUME → exec .pipeBind s =
      .next (proceedAll (goOn d (setColl d (Coll.start (dCid v.bits) 0 0 [] none) u)))))

/-! ### What each command does: collectives, experts, parking -/

/-- R199, R201, R203, R204, R207 to R211, R213, R216: a collective's packet is taken under the collective and the member
that it names, and a stray one is counted; a packet whose length is not its type's, or that names no place, ends the
collective with BAD_OP; a step whose lines have landed and a chunk that is whole go on; the expert table is loaded. The
model's choices here: a length ends the collective (assumption log 32); dropped data is read again (log 28); an ECMB is
looked up with the permission to write, and one that names no place ends the combine as an index at or above NTOK does
(log 29); an expert entry whose load went bad is stored as invalid, with REFUSED (log 30). -/
def Obligations.CollectiveCommands : Prop :=
  (∀ (s : State) (p : Packet), coreUp s = true → p.abt = false → memberPacket p s = none →
    let t := issueAll (stray (takeEjected p s))
    (p.ptype = tCJOIN → exec (.cjoinReceive p) s = .next t) ∧ (p.ptype = tCDATA → exec (.cdataReceive p) s = .next t) ∧
    (p.ptype = tEDSP → exec (.edspReceive p) s = .next t) ∧ (p.ptype = tECMB → exec (.ecmbReceive p) s = .next t) ∧
    (p.ptype = tETALLY → exec (.etallyReceive p) s = .next t)) ∧
  (∀ (s : State) (p : Packet) (d : Nat) (v : Desc) (c : Coll) (m : Member), coreUp s = true → p.abt = false →
    memberPacket p s = some (d, v, c, m) → v.stopped = false → m.tag = none ∨ m.tag = some p.tag →
    let u := modMember d p.src.toNat (fun x => { x with tag := some p.tag }) (takeEjected p s)
    let j := modMember d p.src.toNat (fun x => { x with joined := true }) u
    (p.ptype = tCJOIN → p.len = 8 → sliceNat p.payload 0 4 = c.sig.toNat → natField (sliceNat p.payload 4 4) 12 1 = 1 →
      exec (.cjoinReceive p) s = .next (issueAll (goOn d j))) ∧
    (p.ptype = tCJOIN → p.len = 8 → sliceNat p.payload 0 4 = c.sig.toNat → natField (sliceNat p.payload 4 4) 12 1 = 0 →
      exec (.cjoinReceive p) s = .next (issueAll (goOn d (modMember d p.src.toNat (fun x => { x with owed := true }) j)))) ∧
    (p.ptype = tCJOIN → p.len = 8 → sliceNat p.payload 0 4 ≠ c.sig.toNat →
      exec (.cjoinReceive p) s = .next (issueAll (endColl d stBADOP true u))) ∧
    (p.ptype = tCJOIN → p.len ≠ 8 →
      exec (.cjoinReceive p) s = .next (issueAll (endColl d stBADOP true (takeEjected p s)))) ∧
    (∀ st va, p.ptype = tCDATA → cdataPlace u v p = some (st, va) →
      opcode v.bits ≠ opBROADCAST ∨ natField p.subop.toNat 4 4 ≠ 0 ∨ bcastForwards u v.bits = false →
      exec (.cdataReceive p) s = .next (issueAll (collWrite d (.arrival st (touched p.addr.toNat p.len.toNat) none) va
        (poisoned p) u))) ∧
    (∀ st va, p.ptype = tCDATA → cdataPlace u v p = some (st, va) → opcode v.bits = opBROADCAST →
      natField p.subop.toNat 4 4 = 0 → bcastForwards u v.bits = true →
      exec (.cdataReceive p) s = .next (issueAll (collWrite d (.arrival st (touched p.addr.toNat p.len.toNat)
        (some { (cdataOf u v c (bcastMasks u v.bits).2 1 p.addr.toNat (poisoned p)) with mcast := true })) va
        (poisoned p) u))) ∧
    (p.ptype = tCDATA → cdataPlace u v p = none →
      exec (.cdataReceive p) s = .next (issueAll (endColl d stBADOP true u))) ∧
    (p.ptype = tEDSP → opcode v.bits = opDISPATCH → p.addr.toNat / rowBytes v.bits < dNrow v.bits → p.len ≠ 0 →
      p.len.toNat ≤ 2048 → p.addr.toNat % rowBytes v.bits + p.len.toNat ≤ rowBytes v.bits →
      let r := collWrite d (.row (touched p.addr.toNat p.len.toNat) p.len.toNat) (dYaddr v.bits + p.addr.toNat)
        (poisoned p) u
      (p.addr.toNat % rowBytes v.bits ≠ 0 → exec (.edspReceive p) s = .next (issueAll r)) ∧
      (p.addr.toNat % rowBytes v.bits = 0 → exec (.edspReceive p) s = .next (issueAll (collWrite d .entry
        (dZaddr v.bits + 4 * (p.addr.toNat / rowBytes v.bits))
        (clean (leBytes 4 (2 ^ 31 + 2 ^ 8 * p.aux.toNat + p.src.toNat))) r)))) ∧
    (p.ptype = tEDSP → opcode v.bits ≠ opDISPATCH ∨ dNrow v.bits ≤ p.addr.toNat / rowBytes v.bits ∨ p.len = 0 ∨
      2048 < p.len.toNat ∨ rowBytes v.bits < p.addr.toNat % rowBytes v.bits + p.len.toNat →
      exec (.edspReceive p) s = .next (issueAll (endColl d stBADOP true u))) ∧
    (p.ptype = tECMB → opcode v.bits = opCOMBINE → p.addr.toNat / rowBytes v.bits < dNtok v.bits →
      requestFault { p with ptype := tVACC } = none →
      let look := lookLocal s v permLW ((dYaddr v.bits + p.addr.toNat) % 2 ^ 52) p.len.toNat
      (∀ xs fs ms g c', look = .ok xs fs ms g → collOf (useLook d fs ms u) d = some c' →
        exec (.ecmbReceive p) s = .next (issueAll (enterAtomic p xs v.part g
          (setColl d { c' with writes := c'.writes + p.len.toNat / 64 } (useLook d fs ms u))))) ∧
      (∀ w, look = .miss w → exec (.ecmbReceive p) s =
        .next (issueAll (awaitWalk .initiator v.part w (.desc d w) s))) ∧
      (∀ w, look = .fault w → exec (.ecmbReceive p) s = .next (issueAll (localFault d w u)))) ∧
    (p.ptype = tECMB → opcode v.bits ≠ opCOMBINE ∨ dNtok v.bits ≤ p.addr.toNat / rowBytes v.bits ∨
      requestFault { p with ptype := tVACC } ≠ none →
      exec (.ecmbReceive p) s = .next (issueAll (endColl d stBADOP true u))) ∧
    (p.ptype = tETALLY → p.len = 8 → exec (.etallyReceive p) s = .next (issueAll (goOn d
      (modMember d p.src.toNat (fun x => { x with tally := some (sliceNat p.payload 0 4) }) u)))) ∧
    (p.ptype = tETALLY → p.len ≠ 8 → exec (.etallyReceive p) s = .next (issueAll (endColl d stBADOP true u))) ∧
    (p.ptype = tCABORT → p.len = 4 → p.payload.headD 0 ≠ stSUMP → exec (.cabortReceive p) s =
      .next (issueAll (endColl d (p.payload.headD 0) false u))) ∧
    (p.ptype = tCABORT → p.len ≠ 4 → exec (.cabortReceive p) s = .next (issueAll (endColl d stBADOP false u)))) ∧
  (∀ (s : State) (p : Packet) (d : Nat) (v : Desc) (c : Coll) (m : Member), coreUp s = true → p.abt = false →
    memberPacket p s = some (d, v, c, m) → v.stopped = false → m.tag ≠ none → m.tag ≠ some p.tag →
    (p.ptype = tCJOIN → exec (.cjoinReceive p) s = .next (issueAll (endColl d stBADOP true (takeEjected p s)))) ∧
    (p.ptype = tCDATA → exec (.cdataReceive p) s = .next (issueAll (stray (takeEjected p s)))) ∧
    (p.ptype = tEDSP → exec (.edspReceive p) s = .next (issueAll (stray (takeEjected p s)))) ∧
    (p.ptype = tECMB → exec (.ecmbReceive p) s = .next (issueAll (stray (takeEjected p s)))) ∧
    (p.ptype = tETALLY → exec (.etallyReceive p) s = .next (issueAll (stray (takeEjected p s))))) ∧
  (∀ (s : State) (p : Packet) (d : Nat) (c : Coll), coreUp s = true → p.abt = false → p.ptype = tCABORT →
    slotOf s p.win.toNat = some (d, c) → p.len = 4 → p.payload.headD 0 = stSUMP → p.tag.toNat = c.tag →
    exec (.cabortReceive p) s = .next (issueAll (endColl d stSUMP true
      (modTag c.tag (fun x => { x with sump := true }) (takeEjected p s))))) ∧
  (∀ (s : State) (p : Packet) (x : TagSt) (v : Desc) (e : Expected), coreUp s = true → masterEn s = true →
    p.ptype = tPRDR → p.abt = false → tagOf s p.tag.toNat = some x → x.quarantine = false →
    sealedOk x p = true → desc s x.desc = some v → opcode v.bits = opRESUME →
    x.expects.find? (fits false p) = some e → v.stopped = false →
    let u := setTag p.tag.toNat
      { x with expects := x.expects.filter (fun y => y != e), sump := x.sump || p.status == stSUMP } (takeEjected p s)
    (p.status = stOK → dChainEn v.bits = true → exec (.prdrReceive p) s =
      .next (issueAll (settleTag p.tag.toNat (placeStaged x.desc e p u)))) ∧
    (p.status = stOK → dChainEn v.bits = false → exec (.prdrReceive p) s =
      .next (issueAll (settleTag p.tag.toNat (placeData x.desc p.tag.toNat e p u)))) ∧
    (p.status ≠ stOK → exec (.prdrReceive p) s =
      .next (issueAll (settleTag p.tag.toNat (stopDesc x.desc p.status false u))))) ∧
  (∀ (s : State) (d : Nat) (v : Desc) (c : Coll), desc s d = some v → collOf s d = some c → mayIssue s v = true →
    v.phase = .running → c.phase = .await → opcode v.bits ≠ opBROADCAST → c.writes = 0 →
    stepLines s v.bits c.step ≤ c.landed.get c.step 0 →
    (isReduceStep v.bits c.step = true →
      exec (.collectiveStep d) s = .next (issueAll (setPhase d .reduce c.step s))) ∧
    (isReduceStep v.bits c.step = false → c.step + 1 < totalSteps v.bits →
      exec (.collectiveStep d) s = .next (issueAll (goOn d (setPhase d .send (c.step + 1) s)))) ∧
    (isReduceStep v.bits c.step = false → totalSteps v.bits ≤ c.step + 1 →
      exec (.collectiveStep d) s =
        .next (issueAll (finishColl d (modDesc d (fun v => { v with done := dLen v.bits }) s))))) ∧
  (∀ (s : State) (d : Nat) (v : Desc) (c : Coll), desc s d = some v → collOf s d = some c → mayIssue s v = true →
    v.phase = .running → c.phase = .send → opcode v.bits = opRESUME →
    chunkAt v c.chunk < chunkAt v (c.chunk + 1) →
    chunkAt v (c.chunk + 1) - chunkAt v c.chunk ≤ c.chunks.get c.chunk 0 → exec (.resumeChunk d) s =
      .next (issueAll (goOn d (setColl d { c with phase := .reduce, busy := false, a := none } (windlass v.part
        (dStream v.bits) [((dLaddr v.bits + (parseProg v.chain).outBytes (c.chunk * chunkElems (parseProg v.chain))) %
          2 ^ 52, permLW)] s))))) ∧
  (∀ (s : State) (v : Word), let u := setReg Reg.GEN_EXP_CTL (BitVec.ofNat 64 (v.toNat % 2 ^ 21)) s
    coreUp s = true → v.getLsbD 31 = true → exchangeRuns s = false → s.seq.loading = none →
    0 < natField v.toNat 10 11 → natField v.toNat 0 10 + natField v.toNat 10 11 ≤ 1024 → exec (.expertTableLoad v) s =
      .next (issueAll (askWhole .experts (fld u Reg.GEN_EXP_BASE 3 45 * 8) (8 * natField v.toNat 10 11)
        { u with seq := { u.seq with loading := some (natField v.toNat 0 10, natField v.toNat 10 11) } }))) ∧
  (∀ (s : State) (v : Word), coreUp s = true → v.getLsbD 31 = true →
    exchangeRuns s = true ∨ s.seq.loading ≠ none ∨ natField v.toNat 10 11 = 0 ∨
      1024 < natField v.toNat 0 10 + natField v.toNat 10 11 →
    exec (.expertTableLoad v) s = .next (raise Reg.GEN_EXP_STATUS 2 s)) ∧
  (∀ (s u : State) (w : Whole) (b : Blob) (i : Nat), let e := sliceNat b.data 0 8
    coreUp s = true → wholeBack (fun w => w == .experts) s = (some (w, false), u) → u.seq.loading = some (i, 1) →
    (b.bad = false → natField e 40 23 = 0 → exec (.expertTableLoadDone b) s =
      .next (issueAll (raise Reg.GEN_EXP_STATUS 1 { u with seq := { u.seq with
        loading := none, experts := u.seq.experts.set i (BitVec.ofNat 64 e) } }))) ∧
    (b.bad = true ∨ natField e 40 23 ≠ 0 →
      let x := raise Reg.GEN_EXP_STATUS 3
        { u with seq := { u.seq with experts := u.seq.experts.set i (BitVec.ofNat 64 (e % 2 ^ 63)) } }
      exec (.expertTableLoadDone b) s =
        .next (issueAll (raise Reg.GEN_EXP_STATUS 1 { x with seq := { x.seq with loading := none } })))) ∧
  (∀ (s u : State) (w : Whole) (b : Blob) (i n : Nat), coreUp s = true →
    wholeBack (fun w => w == .experts) s = (some (w, true), u) → u.seq.loading = some (i, n) →
    exec (.expertTableLoadDone b) s =
      .next (issueAll (askWhole .experts (fld u Reg.GEN_EXP_BASE 3 45 * 8) (8 * n) u)))

/-! ### What each command does: router and fabric -/

/-- R222, R231 to R233, R242, R250: where the router sends a packet over a link, the link carries packets of that type
now, it shows GO for the VC the packet leaves on, its port admits the packet's type and key, and the packet is changed
in its VC only. -/
def Obligations.RoutesAreUsable : Prop :=
  ∀ (s : State) (p q : Packet) (enter forced : Bool) (k : Nat), decide1 s p enter forced = .go k q →
    q = { p with vc := q.vc } ∧ linkUsable s k (isRelay p.ptype) = true ∧ linkGo s k q.vc = true ∧
    ∃ port, k ∈ portLinks s port ∧ portAdmits s port p.ptype p.pkey = true

/-- R225, R226, R228, R230 to R240, R242, R246, R247, R249, R253, R287: the router takes a packet to its link, its ejection
port, the sump or nowhere, and copies a multicast that its ejection port admits; the writes of the fabric's registers take
effect or are refused with FAB_STATUS.CFG_ERR; HELLO, DRAIN and probes are sent and taken, and one that was cut short is
counted and does nothing else. The model's choices here: a probe carries the time in ticks of 10 ns brought to its unit
(assumption log 1), and a FAB_DIM_EN of 0 is refused as a nonzero mask outside the rule would be (log 17). -/
def Obligations.FabricCommands : Prop :=
  (∀ (s : State) (k : Fin 36) (vc : BitVec 3) (a : Arrived), coreUp s = true →
    (link s k.val).inbuf.find? (fun a => a.packet.vc == vc && !isControl a.packet.ptype) = some a →
    mayTake s k.val a = true →
    let p := a.packet
    let u := takeFromLink k.val a s
    let src := some (k.val, vc, s.router.copyNo + 1)
    (p.mcast = true → ejectRoom s p = true →
      (p.abt = true ∨ localAdmits u p = true →
        exec (.routePacket (.link k vc)) s = .next (settle (makeCopies p src (eject (some k.val) p u)))) ∧
      (p.abt = false → localAdmits u p = false →
        exec (.routePacket (.link k vc)) s = .next (settle (eject (some k.val) p u)))) ∧
    (p.mcast = false → p.dst = ownId s → ejectRoom s p = true →
      exec (.routePacket (.link k vc)) s = .next (settle (eject (some k.val) p u))) ∧
    (∀ out q, p.mcast = false → p.dst ≠ ownId s → decide1 s p false false = .go out q →
      exec (.routePacket (.link k vc)) s = .next (settle (enqueue out q u))) ∧
    (p.mcast = false → p.dst ≠ ownId s → decide1 s p false false = .noroute →
      exec (.routePacket (.link k vc)) s = .next (settle (dropNoRoute p u))) ∧
    (∀ port, p.mcast = false → p.dst ≠ ownId s → decide1 s p false false = .barred port →
      exec (.routePacket (.link k vc)) s = .next (settle (pkeyDrop 1 port p u))) ∧
    (∀ port, p.mcast = false → p.dst ≠ ownId s → decide1 s p false false = .flush port →
      exec (.routePacket (.link k vc)) s = .next (settle (flushAtRouter port p.dst p u))) ∧
    (∀ q, p.mcast = false → p.dst ≠ ownId s → decide1 s p false false = .hold q →
      exec (.routePacket (.link k vc)) s = .next (settle (putWaiting q none src u))) ∧
    (p.mcast = false → p.dst ≠ ownId s → decide1 s p false false = .restamp →
      exec (.routePacket (.link k vc)) s = .next (settle (restampPacket p src u))) ∧
    (p.mcast = false → p.dst ≠ ownId s → decide1 s p false false = .wait →
      exec (.routePacket (.link k vc)) s = .next (settle s)) ∧
    (∀ out q, p.mcast = false → p.dst ≠ ownId s → decide1 s p false false = .wait → decide1 s p false true = .go out q →
      exec (.escWaitExpiry (.link k vc)) s = .next (settle (enqueue out q u))) ∧
    (∀ q, p.mcast = false → p.dst ≠ ownId s → decide1 s p false false = .wait → decide1 s p false true = .hold q →
      exec (.escWaitExpiry (.link k vc)) s = .next (settle (putWaiting q none src u)))) ∧
  (∀ (s : State) (u : Fin 3) (p : Packet), coreUp s = true →
    (s.router.inject.getD u.val []).find? (fun p => injectReady s p false) = some p →
    let q : Packet := { p with epoch := epochInj s }
    let w := takeFromInject u.val p s
    (p.mcast = true → exec (.routePacket (.inject u)) s = .next (settle (makeCopies q none w))) ∧
    (p.mcast = false → p.dst = ownId s →
      exec (.routePacket (.inject u)) s = .next (settle (eject none q (countInj q w)))) ∧
    (∀ out r, p.mcast = false → p.dst ≠ ownId s → decide1 w q true false = .go out r →
      exec (.routePacket (.inject u)) s = .next (settle (enqueue out r (countInj q w))))) ∧
  (∀ (s : State) (n : Nat) (w : Waiting), coreUp s = true → s.router.waiting[n]? = some w →
    let u : State := { s with router := { s.router with waiting := s.router.waiting.eraseIdx n } }
    (∀ d out q, w.dim = some d → decideCopy s w.packet d = .go out q →
      exec (.routePacket (.waiting n)) s = .next (settle (enqueue out q u))) ∧
    (∀ out q, w.dim = none → decide1 s w.packet false false = .go out q →
      exec (.routePacket (.waiting n)) s = .next (settle (enqueue out q u)))) ∧
  (∀ (s : State) (p : Fin 16) (vc : BitVec 3), coreUp s = true → waitsFor s p.val vc = true →
    exec (.outputStallTimeout p vc) s = .next (postEvent 0x0505 (portNode s p.val) 0xFF p.val vc.toNat
      (setReg Reg.FAB_STALL_INFO (BitVec.ofNat 64 (p.val + 2 ^ 8 * vc.toNat + 2 ^ 31)) s))) ∧
  (∀ (s : State) (i : Fin 8) (v : Word), coreUp s = true →
    exec (.sumpDstWrite i v) s = .next (storeReg (Reg.FAB_SUMP_DST i.val) v.toNat s)) ∧
  (∀ (s : State) (b : Bool) (d : Byte) (v : Word), coreUp s = true →
    (fabReady s = true → epochInj s = b → exec (.routeTableWrite b d v) s = .next (raise Reg.FAB_STATUS 0 s)) ∧
    (fabReady s = false ∨ epochInj s ≠ b → exec (.routeTableWrite b d v) s =
      .next (storeReg (if b then Reg.FAB_RT_B d.toNat else Reg.FAB_RT_A d.toNat) v.toNat s))) ∧
  (∀ (s : State) (b : Bool), coreUp s = true →
    (epochInj s = b → exec (.epochInjWrite b) s = .next s ∧
      exec (.epochClear b) s = .next (raise Reg.FAB_STATUS 0 s)) ∧
    (epochInj s ≠ b → exec (.epochInjWrite b) s =
      .next (settleLinks (helloAll (setFld Reg.FAB_EPOCH_CTL 0 1 (if b then 1 else 0) s))))) ∧
  (∀ s : State, coreUp s = true →
    (epochInj s = true → exec (.epochClear false) s =
      .next (setReg Reg.FAB_EPOCH_INJ_A 0 (setReg Reg.FAB_EPOCH_EJ_A 0 s))) ∧
    (epochInj s = false → exec (.epochClear true) s =
      .next (setReg Reg.FAB_EPOCH_INJ_B 0 (setReg Reg.FAB_EPOCH_EJ_B 0 s)))) ∧
  (∀ (s : State) (v : Word), coreUp s = true →
    (v.getLsbD 31 = false ∨ v.toNat % 65536 ≠ 0 → exec (.pkeyListWrite v) s =
      .next (setReg (pkeyEntry (fld s Reg.FAB_PKEY_SEL 0 4) (fld s Reg.FAB_PKEY_SEL 8 6))
        (BitVec.ofNat 64 (v.toNat % 65536 + (if v.getLsbD 31 then 2 ^ 31 else 0))) s)) ∧
    (v.getLsbD 31 = true → v.toNat % 65536 = 0 → exec (.pkeyListWrite v) s = .next (raise Reg.FAB_STATUS 0 s))) ∧
  (∀ (s : State) (v : Word), let u := storeReg Reg.FAB_CTL v.toNat s
    coreUp s = true →
    (fabReady u = fabReady s → exec (.fabCtlWrite v) s = .next u) ∧
    (fabReady s = false → fabReady u = true → exec (.fabCtlWrite v) s = .next (settle (helloAll u))) ∧
    (fabReady s = true → fabReady u = false → exec (.fabCtlWrite v) s =
      .next (settle (helloAll (each u.links.keys
        (fun k => requeueLink k (fun p => p.vc != 4 && p.vc != 6)) u))))) ∧
  (∀ (s : State) (v : Word), coreUp s = true →
    (fabEn s = true → exec (.nodeIdWrite false v) s = .next (raise Reg.FAB_STATUS 0 s) ∧
      exec (.nodeIdWrite true v) s = .next (raise Reg.FAB_STATUS 0 s)) ∧
    (v.toNat % 256 = 0 → exec (.nodeIdWrite true v) s = .next (raise Reg.FAB_STATUS 0 s)) ∧
    (fabEn s = false → exec (.nodeIdWrite false v) s =
      .next (settleLinks (helloAll (storeReg Reg.FAB_NODE_ID v.toNat s)))) ∧
    (fabEn s = false → v.toNat % 256 ≠ 0 → exec (.nodeIdWrite true v) s =
      .next (settleLinks (helloAll (storeReg Reg.FAB_DIM_EN v.toNat s))))) ∧
  (∀ (s : State) (k : Fin 36), coreUp s = true → tileUp s k.val = true → (link s k.val).state = .active →
    exec (.helloTimer k) s = .next (settleLinks (sendControl k.val tHELLO (helloPayload s k.val) s)) ∧
    exec (.nbrLost k) s = .next (settle (setOutcome k.val 3 s))) ∧
  (∀ (s : State) (k : Fin 36) (p : Packet), coreUp s = true → tileUp s k.val = true → (link s k.val).state = .active →
    let u := takeControl k.val p s
    (p.abt = true →
      let t := settle (bump (Reg.LNK_ABORT_CNT k.val) u)
      (p.ptype = tHELLO → exec (.helloReceive k p) s = .next t) ∧
      (p.ptype = tDRAIN → exec (.drainReceive k p) s = .next t) ∧
      (∀ c, p.ptype = tPROBE → exec (.probeReceive k p c) s = .next t) ∧
      (∀ c, p.ptype = tPROBER → exec (.probeReplyReceive k p c) s = .next t)) ∧
    (p.abt = false → p.ptype = tHELLO → exec (.helloReceive k p) s = .next (settle (takeHello k.val p u))) ∧
    (∀ port, p.abt = false → p.ptype = tDRAIN → verified s k.val = true → portOfLink s k.val = some port →
      exec (.drainReceive k p) s = .next (settle { u with router := { u.router with
        drained := port :: u.router.drained.filter (fun q => q != port) } })) ∧
    (∀ c, p.abt = false → p.ptype = tPROBE → exec (.probeReceive k p c) s =
      .next (settle (sendControl k.val tPROBER (fit 6 p.payload ++ leBytes 2 c.toNat) u))) ∧
    (∀ c x, p.abt = false → p.ptype = tPROBER → s.router.probe = some x → x.link = k.val →
      BitVec.ofNat 16 (sliceNat p.payload 4 2) = x.number →
      let rtt := (c - BitVec.ofNat 32 (sliceNat p.payload 0 4) - BitVec.ofNat 32 (sliceNat p.payload 6 2)).toNat
      let w := setReg Reg.FAB_PROBE_STATUS (BitVec.ofNat 64
          (rtt % 2 ^ 24 + 2 ^ 24 * k.val + 2 ^ 30 * fld s Reg.FAB_PROBE_STATUS 30 1 + 2 ^ 31))
        { u with router := { u.router with probe := none } }
      (x.keeper = false → exec (.probeReplyReceive k p c) s = .next (settle w)) ∧
      (x.keeper = true → keeperRuns s = true →
        (10 * coverNs (link w k.val) < 64 * rtt →
          exec (.probeReplyReceive k p c) s = .next (settle (postLink 0x0505 k.val rtt w))) ∧
        (64 * rtt ≤ 10 * coverNs (link w k.val) → exec (.probeReplyReceive k p c) s = .next (settle w))))) ∧
  (∀ (s : State) (k : Fin 36), let u := storeReg Reg.FAB_PROBE_CTL (k.val + 2 ^ 31) s
    coreUp s = true →
    ((link s k.val).state ≠ .active ∨ tileUp s k.val = false ∨ probeWaits s = true →
      exec (.probeGo (BitVec.ofNat 6 k.val)) s = .next (raise Reg.FAB_STATUS 0 s)) ∧
    ((link s k.val).state = .active → tileUp s k.val = true → probeWaits s = false →
      let n := (link u k.val).probeNo + 1
      let go (keeper : Bool) := settleLinks (sendControl k.val tPROBE (leBytes 4 (BitVec.ofNat 32 (u.now * 25 / 16)).toNat
          ++ leBytes 2 n.toNat ++ [0, 0])
        { (modLink k.val (fun l => { l with probeNo := n }) u) with
          router := { u.router with probe := some ⟨k.val, n, keeper, true⟩ } })
      exec (.probeGo (BitVec.ofNat 6 k.val)) s = .next (go false) ∧
      (keeperRuns s = true → verified s k.val = true → exec (.keeperProbe k) s = .next (go true)))) ∧
  (∀ (s : State) (x : Probe), coreUp s = true → s.router.probe = some x →
    (x.waiting = true → exec .probeTimeout s =
      .next (raise Reg.FAB_PROBE_STATUS 30
        { s with router := { s.router with probe := some { x with waiting := false } } })) ∧
    (x.waiting = false → exec .probeTimeout s = .next s))

/-! ### What each command does: links and lanes -/

/-- R262, R264 to R268, R270, R272 to R277: a flit with an error starts a wait for a replay, whatever it is; a valid DATA
flit in order lands and one out of order starts the wait; AUDIT, CTRL and REPLAY_REQ flits act, but for a REPLAY_REQ
that meets the replay it asks for; an INIT flit whose rate, width and code match goes on with the handshake, and one that
does not match takes the link down; one whose ACK names a flit not yet sent, in the handshake of a retrain, restarts the retrain;
a tile in reset and a receive direction that sleeps take none. The model's choices here: for how long a replay is being sent
(assumption log 1); an INIT in order changes nothing while the link is ACTIVE, and a REPLAY_REQ that meets, in the same
tick, the replay that an ACK timeout started is met by that replay (log 31). -/
def Obligations.FlitsArrive : Prop :=
  (∀ (s : State) (k : Fin 36) (f : RxFlit), coreUp s = false ∨ tileUp s k.val = false ∨ (link s k.val).rxSleep = true →
    exec (.flitReceive k f) s = .next s ∧ exec (.ctrlFlitReceive k f) s = .next s ∧
    exec (.replayReqReceive k f) s = .next s ∧ exec (.auditReceive k f) s = .next s ∧
    exec (.initFlitReceive k f) s = .next s) ∧
  (∀ (s : State) (k : Fin 36) (f : RxFlit), coreUp s = true → tileUp s k.val = true → (link s k.val).rxSleep = false →
    let u := each f.cws (countCodeword k.val) s
    ((link s k.val).state = .active → flitError (link s k.val) f = true →
      let a := modLink k.val (fun l => { l with awaiting := true }) u
      let t := settle (if (link u k.val).awaiting = true then
          (if txReady u k.val = true then sendUnseq k.val ftREPLAY false [] u else u)
        else if txReady a k.val = true then sendUnseq k.val ftREPLAY false [] a else a)
      exec (.flitReceive k f) s = .next t ∧ exec (.ctrlFlitReceive k f) s = .next t ∧
      exec (.replayReqReceive k f) s = .next t ∧ exec (.auditReceive k f) s = .next t ∧
      exec (.initFlitReceive k f) s = .next t) ∧
    (∀ w, (link s k.val).state = .active → flitError (link s k.val) f = false → takeAck k.val f.ack u = (false, w) →
      (f.ftype = ftDATA → f.seq = (link w k.val).rxSeq → f.slp = false → exec (.flitReceive k f) s =
        .next (settle (modLink k.val (fun l => { l with
          rxSeq := l.rxSeq + 1, accepted := l.accepted + 1, awaiting := false
          landing := l.landing ++ [(f.abt, fit 248 f.payload)] }) w))) ∧
      (f.ftype = ftDATA → f.seq ≠ (link w k.val).rxSeq →
        exec (.flitReceive k f) s = .next (settle (awaitReplay k.val w))) ∧
      (f.ftype = ftIDLE → f.seq = (link w k.val).rxSeq → f.slp = false →
        exec (.flitReceive k f) s = .next (settle w)) ∧
      (f.ftype = ftIDLE → f.seq = (link w k.val).rxSeq → f.slp = true → exec (.flitReceive k f) s =
        .next (settle (modLink k.val (fun l => { l with rxSleep := true }) w))) ∧
      (f.ftype = ftINIT → f.seq = (link w k.val).rxSeq → f.slp = false →
        exec (.initFlitReceive k f) s = .next (settle w)) ∧
      (f.ftype = ftINIT → f.seq ≠ (link w k.val).rxSeq → f.slp = false →
        exec (.initFlitReceive k f) s = .next (settle (awaitReplay k.val w))) ∧
      (f.ftype = ftCTRL → exec (.ctrlFlitReceive k f) s = .next (settle (takeCtrl k.val f w))) ∧
      (f.ftype = ftREPLAY → f.seq = (link w k.val).rxSeq → f.slp = false →
        (∀ r, (link w k.val).rpl = some r → w.now < r.until_ →
          r.first = f.ack + 1 ∨ (r.byTmo = true ∧ r.since = w.now) →
          exec (.replayReqReceive k f) s = .next (settle w)) ∧
        ((∀ r, (link w k.val).rpl = some r →
            r.until_ ≤ w.now ∨ (r.first ≠ f.ack + 1 ∧ (r.byTmo = false ∨ r.since ≠ w.now))) →
          exec (.replayReqReceive k f) s = .next (settle (startReplay k.val false w)))) ∧
      (f.ftype = ftAUDIT → f.slp = false → f.seq = (link w k.val).rxSeq →
        let good (n : Byte) := modLink k.val (fun l => { l with rxSeq := l.rxSeq + 1, awaiting := false, aud := n }) w
        (sliceNat f.payload 0 4 = (link w k.val).accepted.toNat →
          ((link w k.val).accepted - (link w k.val).relOut).toNat = (link w k.val).landing.length →
          exec (.auditReceive k f) s = .next (settle (good 1))) ∧
        (sliceNat f.payload 0 4 ≠ (link w k.val).accepted.toNat ∨
          ((link w k.val).accepted - (link w k.val).relOut).toNat ≠ (link w k.val).landing.length →
          exec (.auditReceive k f) s = .next (settle (startRetrain k.val true (postLink 0x0603 k.val 0
            (bump (Reg.LNK_AUDIT_ERR_CNT k.val) (good 2)))))))) ∧
    (∀ w, (link s k.val).state = .active → flitError (link s k.val) f = false →
      takeAck k.val f.ack u = (true, w) →
      let t := settle (startRetrain k.val true w)
      (f.ftype = ftDATA ∨ f.ftype = ftIDLE → exec (.flitReceive k f) s = .next t) ∧
      (f.ftype = ftCTRL → exec (.ctrlFlitReceive k f) s = .next t) ∧
      (f.ftype = ftREPLAY → exec (.replayReqReceive k f) s = .next t) ∧
      (f.ftype = ftAUDIT → exec (.auditReceive k f) s = .next t) ∧
      (f.ftype = ftINIT → exec (.initFlitReceive k f) s = .next t)) ∧
    (∀ v, v = modLink k.val (fun l => { l with
        rxOk := true, initWord := some f.payload, initSeen := l.initSeen || (f.payload.getD 1 0).getLsbD 5 }) u →
      (link s k.val).state = .retrain → (link u k.val).state = .retrain → 4 ≤ (link s k.val).rtStep →
      flitError (link s k.val) f = false → f.ftype = ftINIT → initMatches (link u k.val) f.payload = true →
      startsFresh (link v k.val) = false → (takeAck k.val f.ack v).1 = true →
      exec (.initFlitReceive k f) s = .next (settle (startRetrain k.val true (takeAck k.val f.ack v).2))) ∧
    ((link s k.val).state = .init → flitError (link s k.val) f = false →
      (f.ftype = ftINIT → initMatches (link u k.val) f.payload = true → exec (.initFlitReceive k f) s =
        .next (settle (tryActive k.val (modLink k.val (fun l => { l with
          rxOk := true, initWord := some f.payload
          initSeen := l.initSeen || (f.payload.getD 1 0).getLsbD 5 }) u)))) ∧
      (f.ftype = ftINIT → initMatches (link u k.val) f.payload = false → (link u k.val).state = .init →
        exec (.initFlitReceive k f) s =
          .next (settle (stopLink k.val .down (postLink 0x0605 k.val 0 (raise (Reg.LNK_STATUS k.val) 8 u))))) ∧
      (f.ftype = ftDATA ∨ f.ftype = ftIDLE →
        let t := tryActive k.val (modLink k.val (fun l => { l with initSeen := true }) u)
        (link t k.val).state ≠ .active → exec (.flitReceive k f) s = .next (settle t))))

/-- R224, R236, R263, R265, R266, R269, R273, R274, R276, R278 to R284, R288, R313, R314: the link's timers, causes of a
retrain, resets, modes and sleep. The model's choices here: the reason that a DRAIN gives, and that a direction which dozes
in a duty hold phase sends none (assumption log 32); an ACK timeout and a retrain act on an ACTIVE link alone (log 31). -/
def Obligations.LinkCommands : Prop :=
  (∀ (s : State) (k : Fin 36), coreUp s = true → tileUp s k.val = true →
    let l := link s k.val
    (l.state = .init → exec (.initFlitTimer k) s = .next (tryActive k.val (modLink k.val
      (fun l => { l with initsSent := if l.rxOk then l.initsSent + 1 else 0 })
      (sendUnseq k.val ftINIT false (initPayload s k.val) s))) ∧
      exec (.initTimeout k) s = .next (sendCommas k.val (beginSteps k.val 1 (modLink k.val (fun l => { l with
        state := .priming, reprime := true }) (primeFailed k.val 5 s)))) ∧
      exec (.frameLockGain k) s =
        .next (tryActive k.val (modLink k.val (fun l => { l with frameLock := true }) s))) ∧
    (l.state = .retrain → exec (.retrainAttemptTimeout k) s = .next (settle (startRetrain k.val false s)) ∧
      (4 ≤ l.rtStep → exec (.frameLockGain k) s =
        .next (tryActive k.val (modLink k.val (fun l => { l with frameLock := true, rtStep := 5 }) s)))) ∧
    (l.frameLock = true → exec (.frameLockLoss k) s =
      .next (settle (startRetrain k.val true (modLink k.val (fun l => { l with frameLock := false }) s)))) ∧
    (l.state = .active →
      (l.rxSleep = false → exec (.partnerRetrainDetect k) s = .next (settle (startRetrain k.val true s))) ∧
      (dutyOf s k.val ≠ 0 → exec (.dutyPeriodStart k) s =
        .next (modLink k.val (fun l => { l with hold := true, holdEnded := false }) s)) ∧
      (l.txSleep = .awake →
        (replayRuns l s.now = false → exec (.ackTimeout k) s = .next (settle (startReplay k.val true s))) ∧
        (replayRuns l s.now = true → exec (.ackTimeout k) s = .next s) ∧
        exec (.ctrlFlitDue k) s = .next (sendCtrl k.val s) ∧
        (l.awaiting = true → exec (.replayReqRepeat k) s = .next (sendUnseq k.val ftREPLAY false [] s)) ∧
        (hasCredit l = false → l.txq ≠ [] ∨ l.txOut ≠ [] ∨ l.txX ≠ [] → exec (.creditTimeout k) s =
          .next (settle (postLink 0x0604 k.val 0 (bump (Reg.LNK_CREDIT_STALL_CNT k.val)
            (modLink k.val (fun l => { l with auditDue := true }) s))))) ∧
        (maySleep s k.val = true → lastAwake s k.val = false ∨ l.drainTold = true ∨ holding l = true →
          exec (.txSleepEnter k) s = .next (quiet .idle k.val (drive (.sleep k.val false)
            (modLink k.val (fun l => { l with txSleep := .doze })
              (sendUnseq k.val ftIDLE true [] (padFrame k.val 4 s)))))) ∧
        (∀ p, maySleep s k.val = true → lastAwake s k.val = true → l.drainTold = false → holding l = false →
          portOfLink s k.val = some p → exec (.txSleepEnter k) s =
            .next (settleLinks (sendDrain p 3 (setLink k.val { l with drainTold := true } s)))) ∧
        (holding l = true → wakeCause s k.val = true → exec (.txWake k) s =
          .next (settle (setLink k.val { l with holdEnded := true } s)))) ∧
      (maySleep s k.val = true → l.txSleep = .doze → l.rxSleep = true → bit s (Reg.LNK_SLEEP_CFG k.val) 31 = false →
        exec (.txSleepEnter k) s = .next (drive (.sleep k.val true) (setLink k.val { l with txSleep := .drain } s))) ∧
      (l.txSleep ≠ .awake → wakeCause s k.val = true →
        let w := wakeBurst k.val (l.txSleep == .drain)
          (setLink k.val { l with txSleep := .awake, holdEnded := true, drainTold := false } s)
        (l.awaiting = true → exec (.txWake k) s = .next (settle (sendUnseq k.val ftREPLAY false [] w))) ∧
        (l.awaiting = false → exec (.txWake k) s = .next (settle w)))) ∧
    (l.hold = true → exec (.holdPhaseEnd k) s =
      .next (settle (modLink k.val (fun l => { l with hold := false, holdEnded := false }) s))) ∧
    (∀ bs, l.rxSleep = true → wakeOk s k.val bs = true → exec (.rxWake ⟨k, bs⟩) s =
      .next (each (activeLanes s k.val) (fun n s => modLane n (fun v => { v with lol := false }) s)
        (modLink k.val (fun l => { l with rxSleep := false, txSleep := if l.txSleep = .drain then .doze else l.txSleep })
          s))) ∧
    (l.rxSleep = true → exec (.sleepCommaRetrain k) s = .next (settle (startRetrain k.val true s))) ∧
    (∀ v : Word, let u := storeReg (Reg.LNK_SLEEP_CFG k.val) v.toNat s
      (sleepEn u k.val = true → exec (.lnkSleepCfgWrite k v) s = .next u) ∧
      (sleepEn u k.val = false → exec (.lnkSleepCfgWrite k v) s = .next (wakeTx k.val u))) ∧
    (∀ v : Word, dutyOf (storeReg (Reg.LNK_DUTY_CTL k.val) v.toNat s) k.val ≠ 0 →
      exec (.lnkDutyCtlWrite k v) s = .next (storeReg (Reg.LNK_DUTY_CTL k.val) v.toNat s)) ∧
    (∀ v : Word, dutyOf (storeReg (Reg.LNK_DUTY_CTL k.val) v.toNat s) k.val = 0 → exec (.lnkDutyCtlWrite k v) s =
      .next (settle (modLink k.val (fun l => { l with hold := false, holdEnded := false })
        (storeReg (Reg.LNK_DUTY_CTL k.val) v.toNat s))))) ∧
  (∀ (s : State) (k : Fin 36), coreUp s = true → tileUp s k.val = false → ∀ (v : Word) (m : BitVec 2),
    let t := raise Reg.RST_STATUS 2 s
    exec (.lnkRetrain k) s = .next t ∧ exec (.fullLinkReset k) s = .next t ∧ exec (.lnkModeWrite k m) s = .next t ∧
    exec (.lnkSleepCfgWrite k v) s = .next t ∧ exec (.lnkDutyCtlWrite k v) s = .next t) ∧
  (∀ (s : State) (k : Fin 36), coreUp s = true → tileUp s k.val = true →
    natField (lnkCtlNow s k.val) 2 2 ≠ 3 → natField (lnkCtlNow s k.val) 8 2 ≠ 3 →
    (∀ u, u = storeReg (Reg.LNK_CTL k.val) (lnkCtlNow s k.val + 2 ^ 17) s → linkMode u k.val = linkMode s k.val →
      ((link s k.val).state ≠ .active → exec (.lnkRetrain k) s = .next (settle u)) ∧
      ((link s k.val).state = .active → lastUsable u k.val = none →
        exec (.lnkRetrain k) s = .next (settle (startRetrain k.val true u))) ∧
      (∀ p, (link s k.val).state = .active → lastUsable u k.val = some p → exec (.lnkRetrain k) s =
        .next (settle (startRetrain k.val true (settleLinks (sendDrain p 1 u)))))) ∧
    (∀ u, u = storeReg (Reg.LNK_CTL k.val) (lnkCtlNow s k.val + 2 ^ 16) s → linkMode u k.val = linkMode s k.val →
      (linkMode s k.val = 1 → exec (.fullLinkReset k) s = .next (settle (raise (Reg.LNK_STATUS k.val) 5 u))) ∧
      (linkMode s k.val ≠ 1 → exec (.fullLinkReset k) s = .next (settle (fullReset k.val u))))) ∧
  (∀ (s : State) (k : Fin 36) (m : BitVec 2),
    let v := natField (lnkCtlNow s k.val) 0 8 + 2 ^ 8 * m.toNat
    coreUp s = true → tileUp s k.val = true → natField (lnkCtlNow s k.val) 2 2 ≠ 3 →
    (m ≠ 3 → exec (.lnkModeWrite k m) s =
      .next (settle (modeChanged k.val (linkMode s k.val) (storeReg (Reg.LNK_CTL k.val) v s)))) ∧
    (m = 3 → exec (.lnkModeWrite k m) s = .next (raise (Reg.LNK_STATUS k.val) 5 s)))

/-- R291, R303 to R311, R313, R315, R318, R319: the steps of priming and their failures, the detectors, the tests of a
lane, the margins and the temperature check. The model's choices here: what a lock loss has counted and the free values that
it draws, how a lane converges and adapts, and the seed of a pattern (assumption log 12); a lane that stands aligned in test
and the asking for a far-end loop, and that LOS ends a served loop (log 11); the taps a receiver asks its partner for (log
8). -/
def Obligations.LaneCommands : Prop :=
  (∀ (s : State) (k : Fin 36), coreUp s = true → tileUp s k.val = true → linkInTest s k.val = false →
    (link s k.val).state = .priming →
    let l := link s k.val
    (l.step = 7 → l.reprime = false → exec (.primeStart k) s = .next (beginCold k.val 0 s)) ∧
    (l.step = 7 → l.reprime = true → exec (.primeStart k) s = .next (sendCommas k.val (beginSteps k.val 1 s))) ∧
    (l.step = 0 → s.rst.refOk.getLsbD (k.val / 4) = true → exec (.pllLock k) s =
      .next (sendCommas k.val (modLink k.val (fun l => { l with step := 1 }) s))) ∧
    (l.step = 1 → exec (.cdrLock k) s = .next (modLink k.val (fun l => { l with step := 2 })
      (each (activeLanes s k.val) (fun n s => modLane n (fun v => { v with los := false, lol := false }) s) s))) ∧
    (∀ skew, l.step = 2 → exec (.laneAligned k skew) s = .next (laneAligned k.val skew s)) ∧
    (l.step = 4 → exec (.adaptationDone k) s = .next (sendBlocks k.val 1 (modLink k.val
      (fun l => { l with sentReady := true }) (sendBlocks k.val 1 (modLink k.val
        (fun l => { l with step := 5, rxDone := true }) (each (activeLanes s k.val) convergeLane s)))))) ∧
    (l.step ≠ 7 → exec (.primeTimeout k) s = .next (beginCold k.val 1 (primeFailed k.val 4 s))) ∧
    (∀ (n : Fin 288) (b : CtrlBlock), n.val / 8 = k.val → 3 ≤ l.step → (activeLanes s k.val).contains n.val = true →
      natField (b.getD 1 0).toNat 0 3 = n.val % 8 → natField (b.getD 2 0).toNat 0 2 = l.rate.toNat →
      (blockIs 1 b = true → exec (.train n b) s = .next (answerTrain n.val (takeTrain k.val n.val b s))) ∧
      (blockIs 2 b = true → exec (.endBlock n b) s = .next (finishPriming k.val (modLink k.val (fun l => { l with
        endSeen := if l.endSeen.contains n.val then l.endSeen else n.val :: l.endSeen })
        (takeTrain k.val n.val b s))))) ∧
    (∀ (n : Fin 288) (b : CtrlBlock), n.val / 8 = k.val → 3 ≤ l.step → (activeLanes s k.val).contains n.val = true →
      blockIs 1 b = true →
      (natField (b.getD 1 0).toNat 0 3 ≠ n.val % 8 →
        exec (.train n b) s = .next (beginCold k.val 1 (primeFailed k.val 2 s))) ∧
      (natField (b.getD 1 0).toNat 0 3 = n.val % 8 → natField (b.getD 2 0).toNat 0 2 ≠ l.rate.toNat →
        exec (.train n b) s = .next (beginCold k.val 1 (primeFailed k.val 3 s))))) ∧
  (∀ (s : State) (k : Fin 36) (skew : List Nat), coreUp s = true → tileUp s k.val = true →
    linkInTest s k.val = true → (link s k.val).state = .priming →
    exec (.laneAligned k skew) s = .next (alignedInTest k.val s) ∧
    ((link s k.val).step = 7 → exec (.primeStart k) s = .next (each
      ((activeLanes s k.val).filter fun n => bit s (Reg.LANE_TEST n) 0) applyLoop
      (sendCommas k.val (beginSteps k.val 0 s))))) ∧
  (∀ (s : State) (k : Fin 36) (n : Fin 288), coreUp s = true → tileUp s k.val = true → n.val / 8 = k.val →
    laneActive s n.val = true →
    (exec (.losAssert n) s = .next (detect n.val (endFarServe n.val (raise (Reg.LANE_STATUS n.val) 2
      (modLane n.val (fun v => { v with los := true }) s))))) ∧
    (exec (.lolAssert n) s = .next (detect n.val (setLol n.val s))) ∧
    (exec (.losClear n) s = .next (modLane n.val (fun v => { v with los := false }) s)) ∧
    ((link s k.val).rxSleep = true →
      exec (.wakeMissingTimeout n) s = .next (settle (startRetrain k.val true (setLol n.val s)))) ∧
    (∀ a b, (link s k.val).rxSleep = false → exec (.marginUpdate n a b) s = .next (setReg (Reg.LANE_MARGIN n.val)
      (BitVec.ofNat 64 (a.toNat + 2 ^ 16 * b.toNat)) (askInService n.val (adaptLane n.val s))))) ∧
  (∀ (s : State) (n : Fin 288) (v : Word), coreUp s = true → tileUp s (n.val / 8) = true →
    let k := n.val / 8
    let u := storeReg (Reg.LANE_TEST n.val) v.toNat s
    (testAllowed s k = false → v.getLsbD 0 = true ∨ natField v.toNat 1 2 ≠ fld s (Reg.LANE_TEST n.val) 1 2 →
      exec (.laneTestWrite n v) s = .next (settle (raise (Reg.LANE_STATUS n.val) 4 s))) ∧
    (testAllowed s k = true → bit s (Reg.LANE_TEST n.val) 0 = false → v.getLsbD 0 = true →
      (laneActive u n.val = true → exec (.laneTestWrite n v) s = .next (settle (applyLoop n.val
        (modLane n.val (fun x => { x with farOk := false }) (sitInPriming k u))))) ∧
      (laneActive u n.val = false → exec (.laneTestWrite n v) s = .next (settle u))) ∧
    (testAllowed s k = true → bit s (Reg.LANE_TEST n.val) 0 = true → v.getLsbD 0 = true → laneActive u n.val = true →
      (natField v.toNat 1 2 = fld s (Reg.LANE_TEST n.val) 1 2 → exec (.laneTestWrite n v) s = .next (settle u)) ∧
      (natField v.toNat 1 2 ≠ fld s (Reg.LANE_TEST n.val) 1 2 → exec (.laneTestWrite n v) s =
        .next (settle (applyLoop n.val (modLane n.val (fun x => { x with farOk := false }) u))))) ∧
    (bit s (Reg.LANE_TEST n.val) 0 = true → v.getLsbD 0 = false → laneActive u n.val = true →
      natField v.toNat 1 2 = fld s (Reg.LANE_TEST n.val) 1 2 ∨ testAllowed s k = true →
      let x := modLane n.val (fun x => { x with farOk := false }) u
      let w := if fld s (Reg.LANE_TEST n.val) 1 2 = 3 then
          drive (.idle n.val) (modLane n.val (fun x => { x with sends := .idle, idleTill := some (s.now + 200) }) x)
        else modLane n.val (fun x => { x with sends := .commas, scr := scramSeed (n.val % 8) }) x
      exec (.laneTestWrite n v) s = .next (settle (leaveTest k (monitorBack n.val w)))) ∧
    (laneInTest s n.val = false → v.getLsbD 0 = true →
      exec (.laneSqCtlWrite n v) s = .next (raise (Reg.LANE_STATUS n.val) 4 s)) ∧
    (laneInTest s n.val = true ∨ v.getLsbD 0 = false →
      exec (.laneSqCtlWrite n v) s = .next (storeReg (Reg.LANE_SQ_CTL n.val) v.toNat s)) ∧
    (let sends (u : State) : State :=
        if laneInTest u n.val = true ∧ bit u (Reg.LANE_TEST n.val) 0 = true ∧
          (fld u (Reg.LANE_TEST n.val) 1 2 = 0 ∨ (lane u n.val).farOk = true)
        then applyPattern (polyOf u n.val != polyOf s n.val) n.val u else u
      let c := sends (storeReg (Reg.LANE_PRBS_CTL n.val) (prbsCtlNow s n.val + 2 ^ 8) s)
      let j := sends (storeReg (Reg.LANE_PRBS_CTL n.val) (prbsCtlNow s n.val + 2 ^ 9) s)
      exec (.prbsClr n) s = .next (setReg (Reg.LANE_PRBS_BITS n.val) 0 (setReg (Reg.LANE_PRBS_ERR n.val) 0 c)) ∧
      exec (.prbsInj n) s = .next (drive (.invert n.val)
        (if counting j n.val = true ∧ loopedBack j n.val = true then bumpSat48 (Reg.LANE_PRBS_ERR n.val) 1 j else j))) ∧
    (laneInTest s n.val = true → bit s (Reg.LANE_SQ_CTL n.val) 0 = true →
      exec (.prbsLockGain n) s = .next (raise (Reg.LANE_PRBS_STATUS n.val) 0 s) ∧
      (bit s (Reg.LANE_PRBS_STATUS n.val) 0 = true → ∃ errs bits, exec (.prbsLockLoss n) s =
        .next (bump (Reg.LANE_PRBS_RELOCK n.val) (lower (Reg.LANE_PRBS_STATUS n.val) 0
          (bumpSat48 (Reg.LANE_PRBS_ERR n.val) (64 + errs) (bumpSat48 (Reg.LANE_PRBS_BITS n.val) (64 + errs + bits)
            { s with draws := s.draws + 2 })))))) ∧
    (∀ b, blockIs 4 b = true → testAllowed s k = true → laneActive s n.val = true →
      bit s (Reg.LANE_TEST n.val) 4 = true → exec (.loopReq n b) s =
        .next (settle (setSends .retransmit n.val (sendBlock n.val 5 (modLane n.val (fun v => { v with farServe := true })
          (sitInPriming k s)))))) ∧
    (∀ b, blockIs 5 b = true → farAsked s n.val = true →
      exec (.loopAck n b) s = .next (applyPattern false n.val (modLane n.val (fun v => { v with farOk := true }) s))) ∧
    (farAsked s n.val = true →
      exec (.farLoopTimeout n) s = .next (sendBlock n.val 1 (raise (Reg.LANE_TEST_STATUS n.val) 0 s)))) ∧
  (∀ (s : State) (k : Fin 36), coreUp s = true → tileUp s k.val = true → (link s k.val).state ≠ .down →
    (link s k.val).state ≠ .failed →
    let far (c : Int) := (tileTemp s k.val - c).natAbs
    let w := setStale k.val true s
    ((activeLanes s k.val).findSome? (fun n => (lane s n).capture) = none → exec (.calTempCheck k) s = .next s) ∧
    (∀ c, (activeLanes s k.val).findSome? (fun n => (lane s n).capture) = some c →
      (100 < far c → isStale s k.val = false → exec (.calTempCheck k) s =
        .next (postOwn 0x060A k.val (half (tileTemp w k.val))
          (modLink k.val (fun l => { l with staleAt := some w.now }) w))) ∧
      (100 < far c → isStale s k.val = true → exec (.calTempCheck k) s = .next w) ∧
      (far c ≤ 80 → exec (.calTempCheck k) s = .next (setStale k.val false s)) ∧
      (80 < far c → far c ≤ 100 → exec (.calTempCheck k) s = .next s)))

/-! ### What each command does: security -/

/-- R322, R325, R328, R330, R331, R341, R344: ENABLE and TEARDOWN take a partition from FREE to ACTIVE to TEARDOWN and back,
or are refused; a security command whose block has been read is checked, runs and is answered, WSEAL_OPEN and MGMT_LOAD
after a second read, at the address of their ARG; channels that stay PENDING close; the scrub starts and ends. The model's
choices here: a block or argument whose read was dropped is read again, and how many bytes an argument's read asks for
(assumption log 48); DEBUG_OPEN is found before STATE, and ATTEST needs its partition ACTIVE (log 38); a CHAN_OPEN that
fails leaves PENDING but loses its ephemeral key (log 39); a scrub waits for the records of the descriptors that it marked
(log 42). -/
def Obligations.SecurityCommands : Prop :=
  (∀ (s : State) (p : BitVec 6), let u := setFld Reg.SEC_PART_CTL 0 6 p.toNat s
    coreUp s = true →
    ((partOf s p.toNat).state = .free → keyFree u p.toNat (BitVec.ofNat 16 (fld u Reg.SEC_PART_KEY 0 16)) = true →
      exec (.enable p) s = .next (modPart p.toNat
        (fun _ => ⟨.active, BitVec.ofNat 16 (fld u Reg.SEC_PART_KEY 0 16), ownerDigest u, [], [], false⟩) u)) ∧
    ((partOf s p.toNat).state ≠ .free → exec (.enable p) s = .next (raise Reg.SEC_PART_STATUS 6 u)) ∧
    ((partOf s p.toNat).state = .active → exec (.teardown p) s =
      .next (tearDown false p.toNat (modPart p.toNat (fun v => { v with state := .teardown, drained := false }) u))) ∧
    ((partOf s p.toNat).state ≠ .active → exec (.teardown p) s = .next (raise Reg.SEC_PART_STATUS 6 u))) ∧
  (∀ (s : State) (p : BitVec 6), coreUp s = true → (partOf s p.toNat).state = .teardown →
    ((partOf s p.toNat).drained = false → partDrained s p.toNat = true → exec (.teardownDrainEnd p) s =
      .next (modPart p.toNat (fun v => { v with drained := true }) (scrubPart p.toNat s))) ∧
    ((partOf s p.toNat).drained = true → exec (.teardownDone p) s = .next (raise Reg.SEC_PART_STATUS 5
      (quarantineKey (partOf s p.toNat).key (modPart p.toNat (fun _ => Part.initial) s))))) ∧
  (∀ (s : State) (key : PKey), exec (.pkeyQuarantineEnd key) s =
    .next { s with sec := { s.sec with quarantine := s.sec.quarantine.erase key } }) ∧
  (∀ (s u : State) (w : Whole) (b arg : Blob), coreUp s = true →
    wholeBack (fun w => w == .command) s = (some (w, false), u) →
    (secCheck true true b u = none →
      ((b.data.getD 0 0).toNat = 1 → exec (.ephGen b) s = .next (secAnswer (ephRun b u))) ∧
      ((b.data.getD 0 0).toNat = 2 → exec (.chanOpen b) s = .next (secAnswer (openRun b u))) ∧
      ((b.data.getD 0 0).toNat = 4 → s.sec.cmdBlock = none → exec (.wsealOpen b arg) s =
        .next (issueAll (askWhole .argument (cmdArg b.data) blobBytes
          (modSec (fun x => { x with cmdBlock := some b.data }) u))))) ∧
    (secCheck true false b u = none → (b.data.getD 0 0).toNat = 5 →
      ((partOf u (cmdPart b)).state = .active → exec (.attest b) s = .next (secAnswer (resOK,
        reportBody (cmdPart b) (cmdIn b 0 48) u ++ (dikSign (reportBody (cmdPart b) (cmdIn b 0 48) u) u).1,
        { u with draws := u.draws + 1 }))) ∧
      ((partOf u (cmdPart b)).state ≠ .active → exec (.attest b) s = .next (secAnswer (resSTATE, [], u)))) ∧
    (secCheck false false b u = none →
      ((b.data.getD 0 0).toNat = 3 → exec (.chanClose b) s = .next (secAnswer (resOK, [], closeChan (cmdChan b) u))) ∧
      ((b.data.getD 0 0).toNat = 6 → exec (.cert b) s = .next (secAnswer (certRun u)))) ∧
    (secCheck false true b u = none →
      ((b.data.getD 0 0).toNat = 7 → exec (.mgmtKeygen b) s = .next (secAnswer (keygenRun b u))) ∧
      ((b.data.getD 0 0).toNat = 8 → s.sec.cmdBlock = none → exec (.mgmtLoad b arg) s =
        .next (issueAll (askWhole .argument (cmdArg b.data) bundleBytes
          (modSec (fun x => { x with cmdBlock := some b.data }) u))))) ∧
    (∀ r, (b.data.getD 0 0).toNat = 1 → secCheck true true b u = some r →
      exec (.ephGen b) s = .next (secAnswer (r, [], u))) ∧
    (∀ r, b.bad = false → (b.data.getD 0 0).toNat = 2 → secCheck true true b u = some r →
      let v := chanOf u (cmdChan b)
      (v.state = .pending → exec (.chanOpen b) s =
        .next (secAnswer (r, [], setChan (cmdChan b) { v with ephSlot := none } (zeroize v.ephSlot u)))) ∧
      (v.state ≠ .pending → exec (.chanOpen b) s = .next (secAnswer (r, [], u)))) ∧
    (b.bad = false → (b.data.getD 0 0).toNat = 1 → cmdPart b < 64 → allZero (slice b.data 5 3) = true →
      allZero (slice b.data 16 48) = true → u.sec.openBit = true →
      exec (.ephGen b) s = .next (secAnswer (resDEBUG, [], u)))) ∧
  (∀ (s u : State) (w : Whole) (b arg : Blob) (block : List Byte) (again : Bool), coreUp s = true →
    s.sec.cmdBlock = some block → wholeBack (fun w => w == .argument) s = (some (w, again), u) →
    let x := modSec (fun x => { x with cmdBlock := none }) u
    ((block.getD 0 0).toNat = 4 →
      (again = true → exec (.wsealOpen b arg) s =
        .next (issueAll (askWhole .argument (cmdArg block) blobBytes u))) ∧
      (again = false → secCheck true true ⟨block, false⟩ x = none → exec (.wsealOpen b arg) s =
        .next (secAnswer (wsealRun ⟨block, false⟩ arg x))) ∧
      (∀ r, again = false → secCheck true true ⟨block, false⟩ x = some r →
        exec (.wsealOpen b arg) s = .next (secAnswer (r, [], x)))) ∧
    ((block.getD 0 0).toNat = 8 → keeperRuns s = true →
      (again = true → exec (.mgmtLoad b arg) s =
        .next (issueAll (askWhole .argument (cmdArg block) bundleBytes u))) ∧
      (again = false → secCheck false true ⟨block, false⟩ x = none → exec (.mgmtLoad b arg) s =
        .next (secAnswer (loadRun arg x))) ∧
      (∀ r, again = false → secCheck false true ⟨block, false⟩ x = some r →
        exec (.mgmtLoad b arg) s = .next (secAnswer (r, [], x))))) ∧
  (∀ (s u : State) (w : Whole) (b : Blob), coreUp s = true → (b.data.getD 0 0).toNat = 1 →
    wholeBack (fun w => w == .command) s = (some (w, true), u) → exec (.ephGen b) s =
      .next (issueAll (askWhole .command (fld u Reg.SEC_CMD_BASE 12 36 * 4096) 2048 u))) ∧
  (∀ (s : State) (c : Byte), (chanOf s c.toNat).state = .pending →
    exec (.chanPendingTimeout c) s = .next (closeChan c.toNat s)) ∧
  (∀ s : State, coreUp s = true →
    (masterEn s = true ∨ bit s Reg.SEC_SCRUB_STATUS 0 = true →
      exec .scrubAll s = .next (raise Reg.SEC_SCRUB_STATUS 2 s)) ∧
    (masterEn s = false → bit s Reg.SEC_SCRUB_STATUS 0 = false → exec .scrubAll s = .next (startScrub false s)) ∧
    (bit s Reg.SEC_SCRUB_STATUS 0 = true → (∀ p ∈ livePart s, partDrained s p = true) →
      markedDue s = true → exec .scrubDone s = .next (endScrub s)))

/-- R331, R327: a closed channel holds no key, the slots it held are free, and every other channel and slot is as it
was. -/
def Obligations.ClosedChannelsHoldNoKey : Prop :=
  ∀ (c : Nat) (s : State),
    (chanOf (closeChan c s) c).state = .closed ∧ (chanOf (closeChan c s) c).keySlot = none ∧
    (chanOf (closeChan c s) c).ephSlot = none ∧ (∀ d, d ≠ c → chanOf (closeChan c s) d = chanOf s d) ∧
    (∀ i, (chanOf s c).keySlot = some i ∨ (chanOf s c).ephSlot = some i →
      (closeChan c s).sec.keys.find i = none) ∧
    (∀ i, (chanOf s c).keySlot ≠ some i → (chanOf s c).ephSlot ≠ some i →
      (closeChan c s).sec.keys.find i = s.sec.keys.find i)

/-- R345 to R348, R426, R428, R431: debug access is refused under DBG_LOCK, and elsewhere is opened by a scrub; the test access ports
answer; a management session needs a bundle that passes its CRC (R396), a place and a client that the bundle admits; fuses
are programmed only while RST_HARD_N is low, and read at any time. The model's choices here: IDCODE's bit 0 is 1 and BYPASS
gives 0, and a request made while the core is in reset waits for its release (assumption log 41, R375); OPENS counts in
unary, in the lowest bits not yet programmed (log 40). -/
def Obligations.DebugAndFuses : Prop :=
  (∀ (s : State) (t : TapPort),
    ((fuseView s).dbgLock = true → exec (.debugAccessRequest t) s = .next (setTap t 0 s)) ∧
    ((fuseView s).dbgLock = false → s.sec.granted = true ∨ s.sec.opening = true →
      exec (.debugAccessRequest t) s = .next (setTap t 3 s)) ∧
    ((fuseView s).dbgLock = false → s.sec.granted = false → s.sec.opening = false → coreUp s = false →
      exec (.debugAccessRequest t) s = .next (modSec (fun x => { x with opening := true }) (setTap t 3 s))) ∧
    ((fuseView s).dbgLock = false → s.sec.granted = false → s.sec.opening = false → coreUp s = true →
      let u := modSec (fun x => { x with opening := true }) (setTap t 3 s)
      exec (.debugAccessRequest t) s = .next (zeroize (some 2) (startScrub (masterEn u) (masterClear u)))) ∧
    exec (.jtagIdcode t) s =
      .next (drive (.tdo (0xB * 2 ^ 28 + 0x4B36 * 2 ^ 12 + (fuseView s).mfr.toNat * 2 + 1) 32) (setTap t 1 s)) ∧
    exec (.jtagBypass t) s = .next (drive (.tdo 0 1) (setTap t 0 s))) ∧
  (∀ s : State, coreUp s = true → s.sec.opening = true → bit s Reg.SEC_SCRUB_STATUS 0 = false → ∃ t,
    exec .debugAccessGranted s = .next t ∧ t.sec.openBit = true ∧ t.sec.opening = false ∧ t.sec.granted = true ∧
    t.fuses = { s.fuses with opens := t.fuses.opens } ∧
    popcount 32 t.fuses.opens = min (popcount 32 s.fuses.opens + 1) 32 ∧
    (∀ i, s.fuses.opens.testBit i = true → t.fuses.opens.testBit i = true) ∧ t.rst = s.rst ∧
    t.sec.keys = s.sec.keys) ∧
  (∀ (s : State) (cells : List Bool), exec (.jtagSamplePreload cells) s =
    .next (setTap .jtag 2 { s with sec := { s.sec with cells := cells } })) ∧
  (∀ (s : State) (h : Handshake),
    (keeperRuns s = true → bundleOf s ≠ [] → s.sec.openBit = false → s.keeper.sessions < 4 →
      exec (.mgmtDtlsHandshake h) s = .next (if Config.clientAccepted (bundleOf s) h.chain h.proof = true then
        { s with keeper := { s.keeper with sessions := s.keeper.sessions + 1 }, out := s.out ++ [.session true] }
        else { s with out := s.out ++ [.session false] })) ∧
    (∀ data : List Byte, s.flash.bundle = data ++ leBytes 4 (crc32c data).toNat → bundleOf s = data) ∧
    ((∀ data : List Byte, s.flash.bundle ≠ data ++ leBytes 4 (crc32c data).toNat) → bundleOf s = []) ∧
    (keeperRuns s = false ∨ bundleOf s = [] ∨ s.sec.openBit = true ∨ 4 ≤ s.keeper.sessions →
      exec (.mgmtDtlsHandshake h) s = .next { s with out := s.out ++ [.session false] })) ∧
  (∀ (s : State) (r : FuseRow) (bits : Nat), exec (.fuseRead r) s = .next (drive (.fuseBus (s.fuses.read r)) s) ∧
    (s.rst.hardLow = false → exec (.fuseProgram r bits) s = .next s) ∧
    (s.rst.hardLow = true → ∃ t, exec (.fuseProgram r bits) s = .next t ∧ t = { s with fuses := t.fuses } ∧
      t.fuses = s.fuses.program r bits ∧ ∀ x i, (s.fuses.read x).testBit i = true → (t.fuses.read x).testBit i = true))

/-! ### What each command does: the keeper -/

/-- R371, R378, R380 to R383, R385, R387, R389, R392, R393: the keeper takes events from the core's queue and from other nodes and coalesces
them, and acts on the links within its policy; a watchdog expiry and a keeper restart record their reason. The model's
choices here: a DRAIN before the keeper retrains a port's last usable link gives reason 2 (R224, R236; assumption log 32),
the times for which a condition must hold are the command's (log 36), and a watchdog that is kicked does not expire (log
1). -/
def Obligations.KeeperCommands : Prop :=
  (∀ (s : State) (e : Event) (rest : List Event), keeperRuns s = true → coreUp s = true → s.evq = e :: rest →
    exec .keeperEventCopy s = .next (settle (reportLoss (coalesce e { s with evq := rest })))) ∧
  (∀ (s : State) (cause : BitVec 16) (node : NodeId) (c : CoalSlot), keeperRuns s = true →
    slotFor s cause node = some c →
    (c.count = 0 → exec (.coalesceHolddownExpiry cause node) s = .next { s with keeper := { s.keeper with
      coal := s.keeper.coal.filter fun x => !(x.cause == cause && x.node == node) } }) ∧
    (c.count ≠ 0 → exec (.coalesceHolddownExpiry cause node) s = .next (settle (publish
      { c.last with summary := true, count := BitVec.ofNat 32 c.count } (setSlot { c with count := 0 } s))))) ∧
  (∀ (s : State) (p : Packet), coreUp s = true → keeperRuns s = true → p.ptype = tMEVT → p.abt = false →
    exec (.mevt p) s = .next (settle (coalesce { parseEvent (fit 32 p.payload) with relayed := true, reporter := p.src }
      (takeEjected p s)))) ∧
  (∀ (s : State) (v : Word), coreUp s = true → s.keeper.lostNote = false →
    exec (.evtConsWrite v) s = .next (modKeeper
      (fun k => { k with toCopy := k.toCopy.filter fun i => !serialAfter 32 v.toNat i })
      (storeReg Reg.MGT_EVT_CONS v.toNat s))) ∧
  (∀ (s : State) (k : Fin 36), coreUp s = true → tileUp s k.val = true → keeperRuns s = true →
    (bit s Reg.MGT_STEER_CTL 0 = true → exec (.keeperSteer k) s = .next (settle (steer k.val s))) ∧
    (bit s Reg.MGT_THERM_CTL 0 = true → passesLimit s k.val = true → (link s k.val).state = .active →
      s.keeper.throttle.find k.val = none → exec (.keeperThrottle k) s = .next (settle (applyExclusion (noteLimits k.val
        { s with keeper := { s.keeper with throttle := s.keeper.throttle.set k.val 0 } })))) ∧
    (∀ w, w = noteLimits k.val s →
      (∀ i, i ∈ w.keeper.limits.get k.val [] ↔ i ∈ s.keeper.limits.get k.val [] ∨ i ∈ limitsPassed s k.val) ∧
      (recovered w k.val = true ↔ ∀ i ∈ w.keeper.limits.get k.val [], holdsRow s k.val i = false) ∧
      (∀ d, s.keeper.throttle.find k.val = some d → recovered w k.val = true →
        exec (.throttleDutyStep k) s = .next (settle (unthrottle k.val w))) ∧
      (∀ d, s.keeper.throttle.find k.val = some d → recovered w k.val = false → passesLimit s k.val = true →
        bit s Reg.MGT_THERM_CTL 0 = true →
        let n := min (d + 1) (fld s Reg.MGT_THERM_CTL 4 3)
        exec (.throttleDutyStep k) s = .next (settle (dutyCtlWrite k.val n
          { w with keeper := { w.keeper with throttle := w.keeper.throttle.set k.val n } })))) ∧
    (bit s Reg.MGT_STEER_CTL 0 = false → keeperExcluded s = []) ∧
    (∀ n : Fin 288, n.val / 8 = k.val → bit s Reg.MGT_MARGIN_CTL 0 = true →
      (activeLanes s k.val).contains n.val = true → fld s (Reg.LANE_MARGIN n.val) 0 16 < marginFloor s →
      recentStarts s k.val = [] → (link s k.val).state = .active →
      (lastUsable s k.val = none →
        exec (.keeperMarginRetrain n) s = .next (settle (startRetrain k.val true s))) ∧
      (∀ p, lastUsable s k.val = some p → exec (.keeperMarginRetrain n) s =
        .next (settle (startRetrain k.val true (settleLinks (sendDrain p 2 s)))))) ∧
    (bit s Reg.MGT_CAL_CTL 0 = true → isStale s k.val = true → recentStarts s k.val = [] →
      (link s k.val).state = .active →
      (lastUsable s k.val = none → exec (.keeperStaleRetrain k) s = .next (settle (startRetrain k.val true s))) ∧
      (∀ p, lastUsable s k.val = some p → exec (.keeperStaleRetrain k) s =
        .next (settle (startRetrain k.val true (settleLinks (sendDrain p 2 s)))))) ∧
    (∀ w, exec (.keeperSleepTune k w) s = .next (sleepCfgWrite k.val (sleepCfgFor s k.val w) s))) ∧
  (∀ s : State, coreUp s = true → keeperRuns s = true → bit s Reg.MGT_CAL_CTL 0 = true → storing s = false →
    gapForbids s = false → (∃ k, k < 36 ∧ captureDue s k = true) → exec .keeperCalCapture s =
      .next (startCapture false (modKeeper (fun x => { x with
        captured := ((List.range 36).filter (captureDue s)).foldl (fun t k => t.set k ((lastStart s k).getD 0))
          x.captured }) s))) ∧
  (∀ s : State, exec .watchdogKick s = .next s) ∧
  (∀ s : State, s.rst.keeperUp = true → (s.keeper.running || s.keeper.recovery) = true →
    ∃ t, exec .watchdogExpiry s = .next t ∧ t.keeper.reason = 2) ∧
  (∀ s : State, s.rst.keeperUp = true ∨ bit s Reg.RST_STATUS 5 = true →
    ∃ t, exec .keeperRestart s = .next t ∧ t.keeper.reason = 4)

/-- R381: the keeper excludes a link whose margin is low or that has counted more uncorrectable codewords within 1 ms than
its policy allows, includes it again at 3 above the limit once it has been quiet for 100 ms, and leaves every other link's
place as it is. An uncorrectable codeword counts in the window of 1 ms that it falls in, whenever the keeper looks. The 1 ms
and the 100 ms are ticks of 10 ns (assumption log 1), and for how long a margin must hold is left to the command that looks
(log 36). -/
def Obligations.SteeringHasHysteresis : Prop :=
  ∀ (k : Nat) (s : State),
    let low := fld s Reg.MGT_STEER_CTL 8 7
    let window := (link s k).uncorrAt.filter fun t => s.now < t + 100000
    let loud : Prop := fld s Reg.MGT_STEER_CTL 16 16 < window.length
    let quiet : Prop := ¬loud ∧ ∀ t, (link s k).noisyAt = some t → t + 10000000 ≤ s.now
    (k ∉ s.keeper.steered →
      (k ∈ (steer k s).keeper.steered ↔ worstMargin s k < low ∨ loud)) ∧
    (k ∈ s.keeper.steered →
      (k ∉ (steer k s).keeper.steered ↔ low + 3 ≤ worstMargin s k ∧ quiet)) ∧
    (∀ j, j ≠ k → (j ∈ (steer k s).keeper.steered ↔ j ∈ s.keeper.steered)) ∧
    (let t := noteUncorr k s
     (link t k).uncorrAt = window ++ [s.now] ∧
     (fld s Reg.MGT_STEER_CTL 16 16 < window.length + 1 → (link t k).noisyAt = some s.now) ∧
     (window.length + 1 ≤ fld s Reg.MGT_STEER_CTL 16 16 → (link t k).noisyAt = (link s k).noisyAt))

/-- R398 to R400, R402, R404 to R406: the boot ROM runs a trial bank that has trial boots left, else the newest confirmed bank, else
RECOVERY; the firmware and calibration commands do what they say or end with their cause; whether a flash write fails is a
free value, and then they end with the cause of a flash error. The model's choices here: the order of the causes, the SEQ and
the spare bank of a stage, cause 0x8 changing nothing else, IMPORT under MIN_GAP and during another store, EXPORT of nothing
giving cause 2, and a CONFIRM that comes while the keeper restarts from a REVERT and is answered after it (assumption log
35); the calibration event has the slot in INDEX (log 9). -/
def Obligations.FirmwareAndCalibration : Prop :=
  (∀ s : State, s.rst.keeperUp = true → s.keeper.running = false →
    let u : State := { s with keeper := { s.keeper with recovery := false } }
    (∀ b, trialBank u = some b → (bankOf u b).bootsUsed < 3 →
      exec .keeperBoot s = .next (runFirmware b true (setBank b (bankOf u b).countBoot u))) ∧
    (∀ b, trialBank u = none → newest u (fun b => b.isConfirmed (rollback u)) = some b → exec .keeperBoot s =
      .next (runFirmware b false (raiseRollback (Config.manifestSvn (bankOf u b).manifest) u))) ∧
    (trialBank u = none → newest u (fun b => b.isConfirmed (rollback u)) = none →
      exec .keeperBoot s = .next { s with keeper := { s.keeper with recovery := true } })) ∧
  (∀ s : State, coreUp s = true → fwReady s = true → fwBusy s = true →
    let t := setFld Reg.MGT_FW_STATUS 8 4 8 s
    exec .activate s = .next t ∧ exec .confirm s = .next t ∧ exec .revert s = .next t) ∧
  (∀ s : State, coreUp s = true → fwReady s = true → fwBusy s = false → s.keeper.trial = true →
    exec .activate s = .next (fwEnd 6 s)) ∧
  (∀ (s : State) (image : ImageAt), coreUp s = true →
    let u := storeReg Reg.MGT_FW_LEN image.len.toNat (storeReg Reg.MGT_FW_BASE image.base.toNat s)
    let len := fld u Reg.MGT_FW_LEN 0 21
    coreUp u = true → fwReady u = true →
    (fwBusy u = true → exec (.stage image) s = .next (setFld Reg.MGT_FW_STATUS 8 4 8 u)) ∧
    (fwBusy u = false → u.keeper.trial = true → exec (.stage image) s = .next (fwEnd 6 u)) ∧
    (fwBusy u = false → u.keeper.trial = false → masterEn u = false → exec (.stage image) s = .next (fwEnd 5 u)) ∧
    (fwBusy u = false → u.keeper.trial = false → masterEn u = true → len < 4096 ∨ 4096 + 1572864 < len →
      exec (.stage image) s = .next (fwEnd 3 u)) ∧
    (fwBusy u = false → u.keeper.trial = false → masterEn u = true → 4096 ≤ len → len ≤ 4096 + 1572864 →
      exec (.stage image) s = .next (issueAll (readMem .firmware [⟨fld u Reg.MGT_FW_BASE 6 42 * 64, len, 0⟩] false none
        (setBank (spareBank u) Bank.erased u))))) ∧
  (∀ (s : State) (data : List PByte),
    let image := data.map (·.b)
    let b : Bank := { Bank.erased with
      seq := stagedSeq s, seqN := ~~~stagedSeq s, manifest := image.take 4096, image := image.drop 4096 }
    let r := flashFails (setBank (spareBank s) b s)
    let ended (cause : Nat) : State := if r.1 = true then fwEnd 4 r.2 else fwEnd cause r.2
    (data.any (·.p) = true → readDone .firmware data s = fwEnd 5 s) ∧
    (data.any (·.p) = false → Config.manifestLength b.manifest ≠ image.length - 4096 →
      readDone .firmware data s = ended 3) ∧
    (data.any (·.p) = false → Config.manifestLength b.manifest = image.length - 4096 →
      (b.sound = false → readDone .firmware data s = ended 1) ∧
      (b.sound = true → Config.manifestSvn b.manifest < rollback s → readDone .firmware data s = ended 2) ∧
      (b.sound = true → rollback s ≤ Config.manifestSvn b.manifest → readDone .firmware data s =
        if r.1 = true then fwEnd 4 r.2
        else fwEnd 0 (setBank (spareBank s) { b with verified := markVERIFIED } r.2)))) ∧
  (∀ s : State, coreUp s = true → fwReady s = true → fwBusy s = false →
    let t := spareBank s
    let b := bankOf s t
    let r := flashFails s
    (s.keeper.trial = false → b.seqOk = true → b.verified = markVERIFIED → b.retired ≠ markRETIRED →
      b.active ≠ markACTIVE → exec .activate s =
        .next (if r.1 = true then fwEnd 4 r.2
          else restartKeeper 3 (fwEnd 0 (setBank t { b with active := markACTIVE } r.2)))) ∧
    (s.keeper.trial = false → b.verified ≠ markVERIFIED → exec .activate s = .next (fwEnd 7 s)) ∧
    (s.keeper.trial = false → exec .confirm s = .next (fwEnd 7 s) ∧ exec .revert s = .next (fwEnd 7 s)) ∧
    (s.keeper.trial = true → ∃ u, exec .confirm s = .next u ∧ (r.1 = true → u = fwEnd 4 r.2) ∧
      (r.1 = false → (bankOf u s.keeper.bankB).confirmed = markCONFIRMED ∧ u.keeper.trial = false ∧
        rollback u ≥ min 64 (Config.manifestSvn (runBank s).manifest) ∧
        ∀ i, s.fuses.arb.testBit i = true → u.fuses.arb.testBit i = true)) ∧
    (s.keeper.trial = true → exec .revert s =
      .next (if r.1 = true then fwEnd 4 r.2 else revertBank (fwEnd 0 r.2)))) ∧
  (∀ s : State, coreUp s = true → fwReady s = false → s.keeper.reverted = true →
    exec .confirm s = .next { s with keeper := { s.keeper with lateConf := true } }) ∧
  (∀ s : State, keeperRuns s = true → s.keeper.trial = true → exec .trialTimeout s = .next (restartKeeper 1 (modKeeper
    (fun k => { k with reverted := true }) (setBank s.keeper.bankB { runBank s with retired := markRETIRED } s)))) ∧
  (∀ s : State, calReady s = true →
    (gapForbids s = true ∨ storing s = true → exec .capture s = .next (calEnd 1 s)) ∧
    (gapForbids s = false → storing s = false → exec .capture s = .next (startStore (captureImage s) true s)) ∧
    (masterEn s = false → exec .calExport s = .next (calEnd 4 s)) ∧
    (∀ data : List PByte, data.any (·.p) = true → readDone .calImage data s = calEnd 4 s) ∧
    (∀ data : List PByte, data.any (·.p) = false → calBodyOk s (data.map (·.b)) = false →
      readDone .calImage data s = calEnd 2 s) ∧
    (∀ data : List PByte, data.any (·.p) = false → calBodyOk s (data.map (·.b)) = true →
      readDone .calImage data s = startStore (data.map (·.b)) true s) ∧
    (masterEn s = true → presentedCal s = none → exec .calExport s = .next (calEnd 2 s)) ∧
    (∀ x, masterEn s = true → presentedCal s = some x → exec .calExport s = .next (issueAll (writeMem .calExport
      [⟨fld s Reg.MGT_CAL_BASE 6 42 * 64, 0, allBytes (clean (fit 4744 x))⟩] false none s)))) ∧
  (∀ (s : State) (base : BitVec 64), coreUp s = true →
    let u := storeReg Reg.MGT_CAL_BASE base.toNat s
    calReady u = true →
    (masterEn u = false → exec (.calImport base) s = .next (calEnd 4 u)) ∧
    (masterEn u = true → gapForbids u = true ∨ storing u = true → exec (.calImport base) s = .next (calEnd 1 u)) ∧
    (masterEn u = true → gapForbids u = false → storing u = false → exec (.calImport base) s = .next (issueAll (readMem .calImage
      [⟨fld u Reg.MGT_CAL_BASE 6 42 * 64, 4736, 0⟩] false none u)))) ∧
  (∀ (s : State) (c : CalStore), keeperRuns s = true → s.keeper.store = some c →
    let r := flashFails s
    let u := modKeeper (fun k => { k with store := none }) r.2
    let t := if r.1 = true then u else postOwn 0x0904 (if c.slotB = true then 1 else 0) 0 (modKeeper (fun k => { k with
      presented := some c.slotB, lastStore := some s.now }) (setCal c.slotB c.image u))
    exec .calStoreDone s =
      .next (if c.byCmd = true then calEnd (if r.1 = true then 3 else 0) t else t))
end

