-- ==== Sys2Proof/Laws/Base.lean ====
section
/-!
SUPPORT. Laws/Base.lean: the part of the state that only resets, releases, fuses and debug access change, and the
means of showing that an operation leaves it alone.
-/

namespace Sys2Proof.Laws

open Sys2Proof Sys2Proof.Machine

set_option Elab.async false

/-- What the datapath, the links, the keeper and register writes leave alone: the queue of commands, the time, the
islands in reset, the DBG_LOCK fuse and its shadow, and debug access. -/
structure Base where
  pending : List Instr
  now     : Nat
  step    : RelStep
  soft    : Bool
  porLow  : Bool
  coreUp  : Bool
  unitsUp : Bool
  tiles   : Nat
  lock    : Bool
  shadow  : Option Bool
  openBit : Bool
  opening : Bool
  granted : Bool

/-- That part of a state. -/
def base (s : State) : Base :=
  { pending := s.pending, now := s.now, step := s.rst.step, soft := s.rst.soft, porLow := s.rst.porLow,
    coreUp := s.rst.coreUp, unitsUp := s.rst.unitsUp, tiles := s.rst.tiles, lock := s.fuses.dbgLock,
    shadow := s.shadow.map (·.dbgLock), openBit := s.sec.openBit, opening := s.sec.opening, granted := s.sec.granted }

/-- An update of any other field. -/
@[simp] theorem base_mk (p n d o rg st cp rd ev rst fu sh fl kp sec tx mem xl im qe sq ro li la) :
    base (State.mk p n d o rg st cp rd ev rst fu sh fl kp sec tx mem xl im qe sq ro li la)
      = ⟨p, n, rst.step, rst.soft, rst.porLow, rst.coreUp, rst.unitsUp, rst.tiles, fu.dbgLock, sh.map (·.dbgLock),
          sec.openBit, sec.opening, sec.granted⟩ := by rw [base]

@[simp] theorem base_eta (s : State) :
    Base.mk s.pending s.now s.rst.step s.rst.soft s.rst.porLow s.rst.coreUp s.rst.unitsUp s.rst.tiles s.fuses.dbgLock
      (s.shadow.map (·.dbgLock)) s.sec.openBit s.sec.opening s.sec.granted = base s := by rw [base]

@[simp] theorem base_onlyIf (c : Bool) (f : State → State) (s : State) (h : base (f s) = base s) :
    base (onlyIf c f s) = base s := by
  unfold onlyIf; split <;> simp [h]

@[simp] theorem base_each {α : Type} (l : List α) (f : α → State → State) (s : State)
    (h : ∀ a s, base (f a s) = base s) : base (each l f s) = base s := by
  unfold each
  induction l generalizing s with
  | nil => rfl
  | cons a l ih => simp [List.foldl, ih, h]

@[simp] theorem base_foldl {α : Type} (l : List α) (f : State → α → State) (s : State)
    (h : ∀ s a, base (f s a) = base s) : base (l.foldl f s) = base s := by
  induction l generalizing s with
  | nil => rfl
  | cons a l ih => simp [List.foldl, ih, h]

@[simp] theorem base_foldl2 {α β : Type} (l : List α) (f : β × State → α → β × State) (x : β × State)
    (h : ∀ x a, base (f x a).2 = base x.2) : base (l.foldl f x).2 = base x.2 := by
  induction l generalizing x with
  | nil => rfl
  | cons a l ih => simp [List.foldl, ih, h]

@[simp] theorem base_onLink (k : Nat) (c : Bool) (f : State → State) (s : State) (h : base (f s) = base s) :
    base (onLink k c f s) = base s := by
  unfold onLink; split <;> simp [h]

theorem base_onControl (k : Nat) (ty : BitVec 6) (p : Packet) (f : State → State) (s : State) :
    onControl k ty p f s = if coreUp s && tileUp s k && (link s k).state == .active && p.ptype == ty then
      (let s := takeControl k p s
       settle (if p.abt then bump (Reg.LNK_ABORT_CNT k) s else f s)) else s := rfl

@[simp] theorem base_modSec (f : Security → Security) (s : State) (h1 : (f s.sec).openBit = s.sec.openBit)
    (h2 : (f s.sec).opening = s.sec.opening) (h3 : (f s.sec).granted = s.sec.granted) :
    base (modSec f s) = base s := by
  simp [modSec, h1, h2, h3]

end Sys2Proof.Laws
end

