-- ==== Sys2Proof/Laws/BaseOps1.lean ====
section
/-!
SUPPORT. Laws/BaseOps1.lean: one lemma for each operation of the files of Machine/ named here, saying that it leaves
    the base of the state alone (Ops, Operands, MemPort, Translate, CollBase, Ring, Target, Initiator).
-/

namespace Sys2Proof.Laws

open Sys2Proof Sys2Proof.Machine

set_option Elab.async false
set_option linter.unnecessarySeqFocus false
set_option linter.unreachableTactic false
set_option linter.unusedTactic false
set_option linter.unusedSimpArgs false
set_option linter.unusedVariables false

@[simp] theorem base_freeMiss (no) (s) : base (freeMiss no s) = base s := by
  simp [freeMiss, apply_ite base, apply_ite Prod.snd]

@[simp] theorem base_putEjected (p) (s) : base (putEjected p s) = base s := by
  simp [putEjected, apply_ite base, apply_ite Prod.snd]

@[simp] theorem base_withdrawWrites (p) (s) : base (withdrawWrites p s).2 = base s := by
  simp [withdrawWrites, apply_ite base, apply_ite Prod.snd]

theorem base_withdrawWrites' {p} {s} {r} {t : State} (h : withdrawWrites p s = (r, t)) : base t = base s := by
  simpa [h] using base_withdrawWrites p s

@[simp] theorem base_reapRead (job) (s) : base (reapRead job s) = base s := by
  unfold reapRead
  (repeat' split) <;> simp [apply_ite base, apply_ite Prod.snd, *]

@[simp] theorem base_dropOnReturn (p) (s) : base (dropOnReturn p s) = base s := by
  simp [dropOnReturn, apply_ite base, apply_ite Prod.snd]

@[simp] theorem base_setReg (a) (v) (s) : base (setReg a v s) = base s := by
  simp [setReg, apply_ite base, apply_ite Prod.snd]

@[simp] theorem base_setFld (a) (lo) (w) (x) (s) : base (setFld a lo w x s) = base s := by
  simp [setFld, apply_ite base, apply_ite Prod.snd]

@[simp] theorem base_raise (a) (i) (s) : base (raise a i s) = base s := by
  simp [raise, apply_ite base, apply_ite Prod.snd]

@[simp] theorem base_lower (a) (i) (s) : base (lower a i s) = base s := by
  simp [lower, apply_ite base, apply_ite Prod.snd]

@[simp] theorem base_bumpBy (a) (n) (s) : base (bumpBy a n s) = base s := by
  simp [bumpBy, apply_ite base, apply_ite Prod.snd]

@[simp] theorem base_wholeBack (p) (s) : base (wholeBack p s).2 = base s := by
  unfold wholeBack
  (repeat' split) <;> simp [apply_ite base, apply_ite Prod.snd, *]

theorem base_wholeBack' {p} {s} {r} {t : State} (h : wholeBack p s = (r, t)) : base t = base s := by
  simpa [h] using base_wholeBack p s

@[simp] theorem base_staleWhole (p) (s) : base (staleWhole p s) = base s := by
  unfold staleWhole
  (repeat' split) <;> simp [apply_ite base, apply_ite Prod.snd, *]

@[simp] theorem base_wholeCommand (p) (f : State → State) (s) (h : base (f s) = base s) :
    base (wholeCommand p f s) = base s := by
  unfold wholeCommand
  split <;> simp [h]

@[simp] theorem base_bump (a) (s) : base (bump a s) = base s := by
  simp [bump, apply_ite base, apply_ite Prod.snd]

@[simp] theorem base_staleReturn (port) (id) (s) : base (staleReturn port id s) = base s := by
  unfold staleReturn
  (repeat' split) <;> simp [apply_ite base, apply_ite Prod.snd, *]

@[simp] theorem base_bump48 (a) (n) (s) : base (bump48 a n s) = base s := by
  simp [bump48, apply_ite base, apply_ite Prod.snd]

@[simp] theorem base_bumpSat48 (a) (n) (s) : base (bumpSat48 a n s) = base s := by
  simp [bumpSat48, apply_ite base, apply_ite Prod.snd]

@[simp] theorem base_clearRegs (p) (s) : base (clearRegs p s) = base s := by
  simp [clearRegs, apply_ite base, apply_ite Prod.snd]

@[simp] theorem base_draw (s) : base (draw s).2 = base s := by
  simp [draw, apply_ite base, apply_ite Prod.snd]

@[simp] theorem base_choose (s) : base (choose s).2 = base s := by
  simp [choose, apply_ite base, apply_ite Prod.snd]

@[simp] theorem base_drawBytes (n) (s) : base (drawBytes n s).2 = base s := by
  simp [drawBytes, apply_ite base, apply_ite Prod.snd]

@[simp] theorem base_drive (o) (s) : base (drive o s) = base s := by
  simp [drive, apply_ite base, apply_ite Prod.snd]

@[simp] theorem base_captureEvent (e) (s) : base (captureEvent e s) = base s := by
  simp [captureEvent, apply_ite base, apply_ite Prod.snd]

@[simp] theorem base_postEvent (cause) (node) (part) (index) (data) (s) : base (postEvent cause node part index data
    s) = base s := by
  simp [postEvent, apply_ite base, apply_ite Prod.snd]

@[simp] theorem base_postOwn (cause) (index) (data) (s) : base (postOwn cause index data s) = base s := by
  simp [postOwn, apply_ite base, apply_ite Prod.snd]

@[simp] theorem base_setLink (k) (l) (s) : base (setLink k l s) = base s := by
  simp [setLink, apply_ite base, apply_ite Prod.snd]

@[simp] theorem base_modLink (k) (f) (s) : base (modLink k f s) = base s := by
  simp [modLink, apply_ite base, apply_ite Prod.snd]

@[simp] theorem base_setLane (n) (l) (s) : base (setLane n l s) = base s := by
  simp [setLane, apply_ite base, apply_ite Prod.snd]

@[simp] theorem base_modLane (n) (f) (s) : base (modLane n f s) = base s := by
  simp [modLane, apply_ite base, apply_ite Prod.snd]

@[simp] theorem base_postLink (cause) (k) (data) (s) : base (postLink cause k data s) = base s := by
  simp [postLink, apply_ite base, apply_ite Prod.snd]

@[simp] theorem base_modPart (p) (f) (s) : base (modPart p f s) = base s := by
  simp [modPart, apply_ite base, apply_ite Prod.snd]

@[simp] theorem base_setQueue (q) (v) (s) : base (setQueue q v s) = base s := by
  simp [setQueue, apply_ite base, apply_ite Prod.snd]

@[simp] theorem base_modQueue (q) (f) (s) : base (modQueue q f s) = base s := by
  simp [modQueue, apply_ite base, apply_ite Prod.snd]

@[simp] theorem base_modTq (t) (f) (s) : base (modTq t f s) = base s := by
  simp [modTq, apply_ite base, apply_ite Prod.snd]

@[simp] theorem base_setDesc (d) (v) (s) : base (setDesc d v s) = base s := by
  simp [setDesc, apply_ite base, apply_ite Prod.snd]

@[simp] theorem base_modDesc (d) (f) (s) : base (modDesc d f s) = base s := by
  unfold modDesc
  (repeat' split) <;> simp [apply_ite base, apply_ite Prod.snd, *]

@[simp] theorem base_setTag (t) (v) (s) : base (setTag t v s) = base s := by
  simp [setTag, apply_ite base, apply_ite Prod.snd]

@[simp] theorem base_modTag (t) (f) (s) : base (modTag t f s) = base s := by
  unfold modTag
  (repeat' split) <;> simp [apply_ite base, apply_ite Prod.snd, *]

@[simp] theorem base_unexpect (p) (s) : base (unexpect p s) = base s := by
  simp [unexpect, apply_ite base, apply_ite Prod.snd]

@[simp] theorem base_inject (unit p s) : base (inject unit p s) = base s := by unfold inject; simp

@[simp] theorem base_injectColl (d) (p) (s) : base (injectColl d p s) = base s := by
  unfold injectColl
  (repeat' split) <;> simp [apply_ite base, apply_ite Prod.snd, *]

@[simp] theorem base_sendRdr (p) (status) (seq) (aux) (len) (data) (s) : base (sendRdr p status seq aux len data s) =
    base s := by
  simp [sendRdr, apply_ite base, apply_ite Prod.snd]

@[simp] theorem base_failLoad (p) (status) (s) : base (failLoad p status s) = base s := by
  simp [failLoad, apply_ite base, apply_ite Prod.snd]

@[simp] theorem base_sendAtomr (p) (status) (old) (poison) (s) : base (sendAtomr p status old poison s) = base s := by
  simp [sendAtomr, apply_ite base, apply_ite Prod.snd]

@[simp] theorem base_readOrdered (order) (what) (xs) (lock) (user) (s) : base (readOrdered order what xs lock user s) = base s := by
  simp [readOrdered, apply_ite base, apply_ite Prod.snd]

@[simp] theorem base_readMem (what) (xs) (lock) (user) (s) : base (readMem what xs lock user s) = base s := by
  simp [readMem, apply_ite base, apply_ite Prod.snd]

@[simp] theorem base_askWhole (w) (pa) (len) (s) : base (askWhole w pa len s) = base s := by
  simp [askWhole, apply_ite base, apply_ite Prod.snd]

@[simp] theorem base_writeMem (what) (xs) (lock) (user) (s) : base (writeMem what xs lock user s) = base s := by
  simp [writeMem, apply_ite base, apply_ite Prod.snd]

@[simp] theorem base_readWalk (w) (pa) (len) (s) : base (readWalk w pa len s) = base s := by
  simp [readWalk, apply_ite base, apply_ite Prod.snd]

@[simp] theorem base_issueOne (s) (r) : base (issueOne s r) = base s := by
  simp [issueOne, apply_ite base, apply_ite Prod.snd]

@[simp] theorem base_issueAll (s) : base (issueAll s) = base s := by
  simp [issueAll, apply_ite base, apply_ite Prod.snd]

@[simp] theorem base_dropReq (r) (s) : base (dropReq r s) = base s := by
  simp [dropReq, apply_ite base, apply_ite Prod.snd]

@[simp] theorem base_readReturn (r) (b) (s) : base (readReturn r b s).2 = base s := by
  simp only [readReturn]
  (repeat' split) <;> simp [apply_ite base, apply_ite Prod.snd, *]

theorem base_readReturn' {r} {b} {s} {r0} {t : State} (h : readReturn r b s = (r0, t)) : base t = base s := by
  have := base_readReturn r b s
  rw [h] at this
  exact this

@[simp] theorem base_writeReturn (r) (err) (s) : base (writeReturn r err s).2 = base s := by
  simp only [writeReturn]
  (repeat' split) <;> simp [apply_ite base, apply_ite Prod.snd, *]

theorem base_writeReturn' {r} {err} {s} {r0} {t : State} (h : writeReturn r err s = (r0, t)) : base t = base s := by
  have := base_writeReturn r err s
  rw [h] at this
  exact this

@[simp] theorem base_giveUpReads (p) (keepUser) (s) : base (giveUpReads p keepUser s) = base s := by
  simp [giveUpReads, apply_ite base, apply_ite Prod.snd]

@[simp] theorem base_install (f) (s) : base (install f s) = base s := by
  simp [install, apply_ite base, apply_ite Prod.snd]

@[simp] theorem base_touch (f) (s) : base (touch f s) = base s := by
  simp [touch, apply_ite base, apply_ite Prod.snd]

@[simp] theorem base_useLook (d) (fs) (ms) (s) : base (useLook d fs ms s) = base s := by
  simp [useLook, apply_ite base, apply_ite Prod.snd]

@[simp] theorem base_readSource (pg) (what) (xs) (user) (s) : base (readSource pg what xs user s) = base s := by
  unfold readSource
  (repeat' split) <;> simp [apply_ite base, apply_ite Prod.snd, *]

@[simp] theorem base_readChain (d) (what) (v) (r1) (r2) (s) : base (readChain d what v r1 r2 s) = base s := by
  unfold readChain
  (repeat' split) <;> simp [apply_ite base, apply_ite Prod.snd, *]

@[simp] theorem base_reportFault (target) (part) (va) (op) (src) (s) : base (reportFault target part va op src s) =
    base s := by
  simp [reportFault, apply_ite base, apply_ite Prod.snd]

@[simp] theorem base_setWalk (w) (v) (s) : base (setWalk w v s) = base s := by
  simp [setWalk, apply_ite base, apply_ite Prod.snd]

@[simp] theorem base_beginWalk (w) (v) (s) : base (beginWalk w v s) = base s := by
  simp [beginWalk, apply_ite base, apply_ite Prod.snd]

@[simp] theorem base_grantHandlers (a0) (s) : base (grantHandlers a0 s) = base s := by
  fun_induction grantHandlers a0 s <;> simp_all [apply_ite base, apply_ite Prod.snd]

@[simp] theorem base_awaitWalk (kind) (part) (va) (wt) (s) : base (awaitWalk kind part va wt s) = base s := by
  simp only [awaitWalk]
  split <;> simp

@[simp] theorem base_prefetch (part) (va) (perm) (s) : base (prefetch part va perm s) = base s := by
  simp [prefetch, apply_ite base, apply_ite Prod.snd]

@[simp] theorem base_windlass (part) (stream) (ps) (s) : base (windlass part stream ps s) = base s := by
  simp [windlass, apply_ite base, apply_ite Prod.snd]

@[simp] theorem base_refreshReserved (s) : base (refreshReserved s) = base s := by
  simp [refreshReserved, apply_ite base, apply_ite Prod.snd]

@[simp] theorem base_raiseFlags (d) (fl) (s) : base (raiseFlags d fl s) = base s := by
  unfold raiseFlags
  (repeat' split) <;> simp [apply_ite base, apply_ite Prod.snd, *]

@[simp] theorem base_releasePipe (d) (s) : base (releasePipe d s) = base s := by
  unfold releasePipe
  (repeat' split) <;> simp [apply_ite base, apply_ite Prod.snd, *]

@[simp] theorem base_freePipe (d) (s) : base (freePipe d s) = base s := by
  unfold freePipe
  (repeat' split) <;> simp [apply_ite base, apply_ite Prod.snd, *]

@[simp] theorem base_freeTag (t) (quarantine) (s) : base (freeTag t quarantine s) = base s := by
  simp only [freeTag]
  (repeat' split) <;> simp [apply_ite base, apply_ite Prod.snd, *]

@[simp] theorem base_endTag (t) (s) : base (endTag t s) = base s := by
  unfold endTag
  (repeat' split) <;> simp [apply_ite base, apply_ite Prod.snd, *]

@[simp] theorem base_settleTag (t) (s) : base (settleTag t s) = base s := by
  unfold settleTag
  (repeat' split) <;> simp [apply_ite base, apply_ite Prod.snd, *]

@[simp] theorem base_neverSealed (p) (s) : base (neverSealed p s) = base s := by
  unfold neverSealed
  (repeat' split) <;> simp [apply_ite base, apply_ite Prod.snd, *]

@[simp] theorem base_authFail (cause) (chan) (src) (ty) (s) : base (authFail cause chan src ty s) = base s := by
  simp [authFail, apply_ite base, apply_ite Prod.snd]

@[simp] theorem base_setColl (d) (c) (s) : base (setColl d c s) = base s := by
  simp [setColl, apply_ite base, apply_ite Prod.snd]

@[simp] theorem base_withdrawReads (d) (p) (s) : base (withdrawReads d p s) = base s := by
  simp only [withdrawReads]
  (repeat' split) <;> simp [apply_ite base, apply_ite Prod.snd, *]

@[simp] theorem base_sendAborts (d) (s) : base (sendAborts d s) = base s := by
  unfold sendAborts
  (repeat' split) <;> simp [apply_ite base, apply_ite Prod.snd, *]

@[simp] theorem base_stopDesc (d) (st) (tell) (s) : base (stopDesc d st tell s) = base s := by
  unfold stopDesc
  split
  · rfl
  · dsimp only
    rw [base_releasePipe]
    repeat' split
    all_goals simp

@[simp] theorem base_pushRecord (q) (word0) (rest) (irq) (s) : base (pushRecord q word0 rest irq s) = base s := by
  simp [pushRecord, apply_ite base, apply_ite Prod.snd]

@[simp] theorem base_writeArrival (a) (s) : base (writeArrival a s) = base s := by
  simp [writeArrival, apply_ite base, apply_ite Prod.snd]

@[simp] theorem base_loseArrival (a) (s) : base (loseArrival a s) = base s := by
  simp [loseArrival, apply_ite base, apply_ite Prod.snd]

@[simp] theorem base_arrive (a) (s) : base (arrive a s) = base s := by
  simp [arrive, apply_ite base, apply_ite Prod.snd]

@[simp] theorem base_flushBacklog (s) : base (flushBacklog s) = base s := by
  simp [flushBacklog, apply_ite base, apply_ite Prod.snd]

@[simp] theorem base_tryFetch (q) (s) : base (tryFetch q s) = base s := by
  simp [tryFetch, apply_ite base, apply_ite Prod.snd]

@[simp] theorem base_fetchAll (s) : base (fetchAll s) = base s := by
  simp [fetchAll, apply_ite base, apply_ite Prod.snd]

@[simp] theorem base_dropSet (r) (s) : base (dropSet r s) = base s := by
  simp [dropSet, apply_ite base, apply_ite Prod.snd]

@[simp] theorem base_putSet (r) (s) : base (putSet r s) = base s := by
  simp [putSet, apply_ite base, apply_ite Prod.snd]

@[simp] theorem base_sendSet (r) (s) : base (sendSet r s) = base s := by
  simp [sendSet, apply_ite base, apply_ite Prod.snd]

@[simp] theorem base_updateSet (p) (recs) (landed) (now) (s) : base (updateSet p recs landed now s) = base s := by
  simp [updateSet, apply_ite base, apply_ite Prod.snd]

@[simp] theorem base_record (p) (status) (lines) (landed) (now) (s) : base (record p status lines landed now s) =
    base s := by
  simp [record, apply_ite base, apply_ite Prod.snd]

@[simp] theorem base_answerWrite (p) (status) (old) (poison) (landed) (now) (s) : base (answerWrite p status old poison landed now s) = base s := by
  simp [answerWrite, apply_ite base, apply_ite Prod.snd]

@[simp] theorem base_failWrite (p) (status) (now) (s) : base (failWrite p status now s) = base s := by
  simp [failWrite, apply_ite base, apply_ite Prod.snd]

@[simp] theorem base_failRequest (p) (status) (s) : base (failRequest p status s) = base s := by
  simp [failRequest, apply_ite base, apply_ite Prod.snd]

@[simp] theorem base_setWin (w) (c) (s) : base (setWin w c s) = base s := by
  simp [setWin, apply_ite base, apply_ite Prod.snd]

@[simp] theorem base_markWindow (part) (w) (s) : base (markWindow part w s) = base s := by
  simp [markWindow, apply_ite base, apply_ite Prod.snd]

@[simp] theorem base_winFault (p) (part) (s) : base (winFault p part s) = base s := by
  simp [winFault, apply_ite base, apply_ite Prod.snd]

@[simp] theorem base_noteLanded (p) (s) : base (noteLanded p s) = base s := by
  simp [noteLanded, apply_ite base, apply_ite Prod.snd]

@[simp] theorem base_enterAtomic (p) (xs) (part) (gen) (s) : base (enterAtomic p xs part gen s) = base s := by
  simp [enterAtomic, apply_ite base, apply_ite Prod.snd]

@[simp] theorem base_applyFence (h) (s) : base (applyFence h s) = base s := by
  simp [applyFence, apply_ite base, apply_ite Prod.snd]

@[simp] theorem base_queueFence (h) (s) : base (queueFence h s) = base s := by
  simp [queueFence, apply_ite base, apply_ite Prod.snd]

@[simp] theorem base_releaseHeld (w) (s) : base (releaseHeld w s) = base s := by
  simp [releaseHeld, apply_ite base, apply_ite Prod.snd]

@[simp] theorem base_landLines (w) (n) (s) : base (landLines w n s) = base s := by
  simp [landLines, apply_ite base, apply_ite Prod.snd]

@[simp] theorem base_answerApplied (p) (bad) (old) (s) : base (answerApplied p bad old s) = base s := by
  simp [answerApplied, apply_ite base, apply_ite Prod.snd]

@[simp] theorem base_fenceDone (p) (bad) (old) (s) : base (fenceDone p bad old s) = base s := by
  simp only [fenceDone]
  (repeat' split) <;> simp [apply_ite base, apply_ite Prod.snd, *]

@[simp] theorem base_landPacket (p) (pa) (mattr) (part) (gen) (s) : base (landPacket p pa mattr part gen s) = base s := by
  simp [landPacket, apply_ite base, apply_ite Prod.snd]

@[simp] theorem base_takeTranslated (p) (part) (pas) (s) : base (takeTranslated p part pas s) = base s := by
  unfold takeTranslated
  (repeat' split) <;> simp [apply_ite base, apply_ite Prod.snd, *]

@[simp] theorem base_xltFault (p) (part) (st) (va) (s) : base (xltFault p part st va s) = base s := by
  simp [xltFault, apply_ite base, apply_ite Prod.snd]

theorem base_processTarget {p} {s} {t : State} (h : processTarget p s = some t) : base t = base s := by
  unfold processTarget at h
  (repeat' split at h) <;> (first | (cases h; done) | (injection h with h; subst h) <;>
      simp [apply_ite base, apply_ite Prod.snd, *])

@[simp] theorem base_takeEjected (p) (s) : base (takeEjected p s) = base s := by
  simp [takeEjected, apply_ite base, apply_ite Prod.snd]

@[simp] theorem base_receiveRequest (p) (s) : base (receiveRequest p s) = base s := by
  unfold receiveRequest
  (repeat' split) <;> (try have := base_processTarget (by assumption)) <;>
      simp [apply_ite base, apply_ite Prod.snd, *]

@[simp] theorem base_receiveTyped (types) (p) (s) : base (receiveTyped types p s) = base s := by
  simp [receiveTyped, apply_ite base, apply_ite Prod.snd]

@[simp] theorem base_answerLoad (p) (data) (s) : base (answerLoad p data s) = base s := by
  simp [answerLoad, apply_ite base, apply_ite Prod.snd]

@[simp] theorem base_atomicRead (n) (data) (s) : base (atomicRead n data s) = base s := by
  unfold atomicRead
  (repeat' split) <;> simp [apply_ite base, apply_ite Prod.snd, *]

@[simp] theorem base_atomicWritten (n) (bad) (s) : base (atomicWritten n bad s) = base s := by
  simp only [atomicWritten]
  (repeat' split) <;> simp [apply_ite base, apply_ite Prod.snd, *]

@[simp] theorem base_startAtomic (n) (s) : base (startAtomic n s) = base s := by
  unfold startAtomic
  (repeat' split) <;> simp [apply_ite base, apply_ite Prod.snd, *]

@[simp] theorem base_discardHeld (h) (st) (s) : base (discardHeld h st s) = base s := by
  simp [discardHeld, apply_ite base, apply_ite Prod.snd]

@[simp] theorem base_resetWindow (w) (s) : base (resetWindow w s) = base s := by
  simp [resetWindow, apply_ite base, apply_ite Prod.snd]

@[simp] theorem base_localFault (d) (va) (s) : base (localFault d va s) = base s := by
  unfold localFault
  (repeat' split) <;> simp [apply_ite base, apply_ite Prod.snd, *]

@[simp] theorem base_translate (d perm va len s) : base (Machine.translate d perm va len s).2 = base s := by
  unfold Machine.translate
  split
  · rfl
  · split <;> simp [base_each]

theorem base_translate' {d perm va len s r t} (h : Machine.translate d perm va len s = (r, t)) : base t = base s := by
  rw [← base_translate d perm va len s, h]

@[simp] theorem base_closeTag (d) (s) : base (closeTag d s) = base s := by
  unfold closeTag
  (repeat' split) <;> simp [apply_ite base, apply_ite Prod.snd, *]

theorem base_newTag {d v s r t} (h : newTag d v s = some (r, t)) : base t = base s := by
  unfold newTag at h
  split at h
  · cases h
  · injection h with h; injection h with h1 h2; subst h2; simp

theorem base_nextSeq {d s r q t} (h : nextSeq d s = some (r, q, t)) : base t = base s := by
  have key : ∀ (o : Option (Nat × State)) (s0 : State), (∀ x, o = some x → base x.2 = base s0) →
      o.map (fun x => (x.1, 0, modDesc d (fun v => { v with nseq := 1 }) x.2)) = some (r, q, t) → base t = base s0 :=
          by
    intro o s0 ho hm
    cases o with
    | none => cases hm
    | some x =>
      simp only [Option.map_some, Option.some.injEq, Prod.mk.injEq] at hm
      obtain ⟨-, -, rfl⟩ := hm
      simp [ho x rfl]
  unfold nextSeq at h
  split at h
  · cases h
  · split at h
    · split at h
      · injection h with h; injection h with h1 h2; injection h2 with h2 h3; subst h3; simp
      · dsimp only at h
        split at h
        · cases h
        · exact (key _ _ (fun x hx => base_newTag hx) h).trans (by simp)
    · exact key _ _ (fun x hx => base_newTag hx) h

@[simp] theorem base_sendWrite (d) (elem) (p) (resendFrom) (skip) (s) : base (sendWrite d elem p resendFrom skip s) =
    base s := by
  unfold sendWrite
  (repeat' split) <;> simp [apply_ite base, apply_ite Prod.snd, *]

@[simp] theorem base_countPoison (v) (poison) (s) : base (countPoison v poison s) = base s := by
  simp [countPoison, apply_ite base, apply_ite Prod.snd]

@[simp] theorem base_endIssue (d) (s) : base (endIssue d s) = base s := by
  simp only [endIssue]
  (repeat' split) <;> simp [apply_ite base, apply_ite Prod.snd, *]

theorem base_endChain {d} {e} {s} {t : State} (h : endChain d e s = some t) : base t = base s := by
  unfold endChain at h
  (repeat' split at h) <;> (first | (cases h; done) | (injection h with h; subst h) | skip) <;> simp [apply_ite base, apply_ite Prod.snd, *]

theorem base_sendUnit {d} {u} {data} {s} {t : State} (h : sendUnit d u data s = some t) : base t = base s := by
  unfold sendUnit at h
  (repeat' split at h) <;> (first | (cases h; done) | (injection h with h; subst h) <;>
      (try have := base_nextSeq (by assumption)) <;> simp [apply_ite base, apply_ite Prod.snd, *])

theorem base_stepData {d v s t} (h : stepData d v s = some t) : base t = base s := by
  unfold stepData at h
  dsimp only at h
  repeat' split at h
  all_goals first | (cases h; done) | exact base_sendUnit h | skip
  all_goals (rename_i hx; have := base_translate' hx; injection h with h; subst h; simp_all)

@[simp] theorem base_expect (t) (e) (s) : base (expect t e s) = base s := by
  simp [expect, apply_ite base, apply_ite Prod.snd]

theorem base_stepRead {d v s t} (h : stepRead d v s = some t) : base t = base s := by
  simp only [stepRead] at h
  (repeat' split at h) <;> (first | (cases h; done) | (injection h with h; subst h)) <;>
    (try have := base_translate' (by assumption)) <;> (try have := base_nextSeq (by assumption)) <;>
    (try split) <;> simp_all

theorem base_stepGather {d v s t} (h : stepGather d v s = some t) : base t = base s := by
  simp only [stepGather] at h
  (repeat' split at h) <;> (first | (cases h; done) | (injection h with h; subst h)) <;>
    (try have := base_translate' (by assumption)) <;> (try have := base_nextSeq (by assumption)) <;>
    (try split) <;> simp_all

theorem base_stepAtomic {d} {s} {t : State} (h : stepAtomic d s = some t) : base t = base s := by
  unfold stepAtomic at h
  (repeat' split at h) <;> (first | (cases h; done) | (injection h with h; subst h) <;>
      (try have := base_nextSeq (by assumption)) <;> simp [apply_ite base, apply_ite Prod.snd, *])

@[simp] theorem base_cancelGroup (part) (g) (spare) (s) : base (cancelGroup part g spare s) = base s := by
  simp [cancelGroup, apply_ite base, apply_ite Prod.snd]

@[simp] theorem base_exitFired (d) (window) (s) : base (exitFired d window s) = base s := by
  unfold exitFired
  (repeat' split) <;> simp [apply_ite base, apply_ite Prod.snd, *]

theorem base_sendOutput {d} {n} {s} {t : State} (h : sendOutput d n s = some t) : base t = base s := by
  unfold sendOutput at h
  (repeat' split at h) <;> (first | (cases h; done) | (injection h with h; subst h) | skip) <;>
      (try have := base_nextSeq (by assumption)) <;> simp [apply_ite base, apply_ite Prod.snd, *]

@[simp] theorem base_runChunk (d) (v) (a) (b) (s) : base (runChunk d v a b s) = base s := by
  simp only [runChunk]
  (repeat' split) <;> simp [apply_ite base, apply_ite Prod.snd, *]

@[simp] theorem base_chainPartial (d) (v) (w) (s) : base (chainPartial d v w s) = base s := by
  simp only [chainPartial]
  (repeat' split) <;> simp [apply_ite base, apply_ite Prod.snd, *]

theorem base_stepChain {d} {v} {s} {t : State} (h : stepChain d v s = some t) : base t = base s := by
  simp only [stepChain] at h
  (repeat' split at h) <;> (first | (cases h; done) | (injection h with h; subst h) | skip) <;>
      (try have := base_sendOutput (by assumption)) <;>
      (try have := base_endChain (by assumption)) <;> simp [apply_ite base, apply_ite Prod.snd, *]

@[simp] theorem base_resendPacket (d) (data) (s) : base (resendPacket d data s) = base s := by
  unfold resendPacket
  (repeat' split) <;> simp [apply_ite base, apply_ite Prod.snd, *]

@[simp] theorem base_partEnded (d) (elem) (st) (s) : base (partEnded d elem st s) = base s := by
  simp [partEnded, apply_ite base, apply_ite Prod.snd]

@[simp] theorem base_endResend (d) (r) (st) (s) : base (endResend d r st s) = base s := by
  simp [endResend]

@[simp] theorem base_resendFault (d) (v) (r) (w) (s) : base (resendFault d v r w s) = base s := by
  simp [resendFault, apply_ite base, apply_ite Prod.snd]

theorem base_stepResend {d v r s t} (h : stepResend d v r s = some t) : base t = base s := by
  unfold stepResend at h
  dsimp only at h
  (repeat' split at h) <;>
      first | (cases h; done) | (injection h with h; subst h; simp [base_each]; try (split <;> simp [base_each]))

theorem base_stepRunning {d} {v} {s} {t : State} (h : stepRunning d v s = some t) : base t = base s := by
  simp only [stepRunning] at h
  (repeat' split at h) <;> (first | (cases h; done) | (injection h with h; subst h) | skip) <;>
      (try have := base_stepData (by assumption)) <;>
      (try have := base_stepRead (by assumption)) <;>
      (try have := base_stepGather (by assumption)) <;>
      (try have := base_stepAtomic (by assumption)) <;>
      (try have := base_stepChain (by assumption)) <;> simp [apply_ite base, apply_ite Prod.snd, *]

@[simp] theorem base_closeSealed (d) (v) (s) : base (closeSealed d v s) = base s := by
  unfold closeSealed
  (repeat' split) <;> simp [apply_ite base, apply_ite Prod.snd, *]

theorem base_stepDesc {d s t} (h : stepDesc d s = some t) : base t = base s := by
  unfold stepDesc at h
  (repeat' split at h) <;> first
    | (cases h; done)
    | exact base_stepRunning h
    | exact base_stepResend h
    | (injection h with h; subst h; simp)
    | (obtain ⟨x, -, rfl⟩ := Option.map_eq_some_iff.mp h; simp)

@[simp] theorem base_advance (a0) (a1) (s) : base (advance a0 a1 s) = base s := by
  fun_induction advance a0 a1 s <;> (try have := base_stepDesc (by assumption)) <;>
      simp_all [apply_ite base, apply_ite Prod.snd]

@[simp] theorem base_resume (d) (s) : base (resume d s) = base s := by
  simp [resume, apply_ite base, apply_ite Prod.snd]

@[simp] theorem base_resumeAll (s) : base (resumeAll s) = base s := by
  simp [resumeAll, apply_ite base, apply_ite Prod.snd]

@[simp] theorem base_timedOut (x) (s) : base (timedOut x s) = base s := by
  unfold timedOut
  (repeat' split) <;> simp [apply_ite base, apply_ite Prod.snd, *]

@[simp] theorem base_stray (s) : base (stray s) = base s := by
  simp [stray, apply_ite base, apply_ite Prod.snd]

@[simp] theorem base_refused (d) (t) (elem) (n) (s) : base (refused d t elem n s) = base s := by
  unfold refused
  (repeat' split) <;> simp [apply_ite base, apply_ite Prod.snd, *]

@[simp] theorem base_takeRecord (st) (t) (elem) (n) (s) : base (takeRecord st t elem n s) = base s := by
  simp only [takeRecord]
  (repeat' split) <;> simp [apply_ite base, apply_ite Prod.snd, *]

@[simp] theorem base_placeData (d) (t) (e) (p) (s) : base (placeData d t e p s) = base s := by
  simp only [placeData]
  (repeat' split) <;> simp [apply_ite base, apply_ite Prod.snd, *]

@[simp] theorem base_takeRdr (p) (s) : base (takeRdr p s) = base s := by
  simp only [takeRdr]
  (repeat' split) <;> simp [apply_ite base, apply_ite Prod.snd, *]

@[simp] theorem base_takeAtomr (p) (s) : base (takeAtomr p s) = base s := by
  simp only [takeAtomr]
  (repeat' split) <;> simp [apply_ite base, apply_ite Prod.snd, *]

@[simp] theorem base_dropData (s) : base (dropData s) = base s := by
  simp [dropData, apply_ite base, apply_ite Prod.snd]

@[simp] theorem base_writeRecord (d) (s) : base (writeRecord d s) = base s := by
  unfold writeRecord
  (repeat' split) <;> simp [apply_ite base, apply_ite Prod.snd, *]

end Sys2Proof.Laws
end

