-- ==== Sys2Proof/Laws/BaseOps2.lean ====
section
/-!
SUPPORT. Laws/BaseOps2.lean: one lemma for each operation of the files of Machine/ named here, saying that it leaves
    the base of the state alone (Collective).
-/

namespace Sys2Proof.Laws

open Sys2Proof Sys2Proof.Machine

set_option Elab.async false
set_option linter.unnecessarySeqFocus false
set_option linter.unreachableTactic false
set_option linter.unusedTactic false
set_option linter.unusedSimpArgs false
set_option linter.unusedVariables false

theorem base_collPacketIn (ty p) (f : Packet → State → State) (s) (h : ∀ s, base (f p s) = base s) :
    base (collPacketIn ty p f s) = base s := by
  unfold collPacketIn
  refine base_onlyIf _ _ _ ?_
  split <;> simp [h]

@[simp] theorem base_askExperts (s) : base (askExperts s) = base s := by
  unfold askExperts
  (repeat' split) <;> simp [apply_ite base, apply_ite Prod.snd, *]

@[simp] theorem base_translateAll (d perm l s) : base (translateAll d perm l s).2 = base s := by
  fun_induction translateAll d perm l s <;> (try have := base_translate' (by assumption)) <;>
      simp_all [apply_ite base, apply_ite Prod.snd]

theorem base_translateAll' {d perm l s r t} (h : translateAll d perm l s = (r, t)) : base t = base s := by
  simpa [h] using base_translateAll d perm l s

@[simp] theorem base_collSend (d) (p) (s) : base (collSend d p s) = base s := by
  unfold collSend
  (repeat' split) <;> simp [apply_ite base, apply_ite Prod.snd, *]

@[simp] theorem base_modMember (d) (m) (f) (s) : base (modMember d m f s) = base s := by
  unfold modMember
  (repeat' split) <;> simp [apply_ite base, apply_ite Prod.snd, *]

@[simp] theorem base_endColl (d) (st) (tell) (s) : base (endColl d st tell s) = base s := by
  unfold endColl
  (repeat' split) <;> simp [apply_ite base, apply_ite Prod.snd, *]

@[simp] theorem base_issueOp (o) (s) : base (issueOp o s) = base s := by
  unfold issueOp
  (repeat' split) <;> simp [apply_ite base, apply_ite Prod.snd, *]

@[simp] theorem base_collWrite (d) (what) (va) (data) (s) : base (collWrite d what va data s) = base s := by
  unfold collWrite
  (repeat' split) <;> simp [apply_ite base, apply_ite Prod.snd, *]

@[simp] theorem base_emitReduce (d) (v) (c) (x) (s) : base (emitReduce d v c x s) = base s := by
  unfold emitReduce
  (repeat' split) <;> simp [apply_ite base, apply_ite Prod.snd, *]

@[simp] theorem base_collRead (d) (what) (xs) (part) (s) : base (collRead d what xs part s) = base s := by
  unfold collRead
  split
  · rfl
  · dsimp only
    split <;> simp

@[simp] theorem base_readReduce (d v c s) : base (readReduce d v c s) = base s := by
  unfold readReduce
  dsimp only
  split <;> rename_i h <;> have h1 := base_translateAll' h
  · exact h1
  · split <;> rename_i h' <;> have h2 := base_translateAll' h' <;> simp [*]

@[simp] theorem base_finishColl (d) (s) : base (finishColl d s) = base s := by
  simp [finishColl, apply_ite base, apply_ite Prod.snd]

@[simp] theorem base_pastPiece (d) (n) (s) : base (pastPiece d n s) = base s := by
  unfold pastPiece
  (repeat' split) <;> simp [apply_ite base, apply_ite Prod.snd, *]

@[simp] theorem base_runReduce (d) (v) (c) (a) (b) (s) : base (runReduce d v c a b s) = base s := by
  simp [runReduce, apply_ite base, apply_ite Prod.snd]

@[simp] theorem base_setPhase (d) (ph) (st) (s) : base (setPhase d ph st s) = base s := by
  simp only [setPhase]
  (repeat' split) <;> simp [apply_ite base, apply_ite Prod.snd, *]

theorem base_stepSend {d} {v} {c} {s} {t : State} (h : stepSend d v c s = some t) : base t = base s := by
  simp only [stepSend] at h
  (repeat' split at h) <;> (first | (cases h; done) | (injection h with h; subst h) | skip) <;>
      (try have := base_translate' (by assumption)) <;> (try have := base_nextSeq (by assumption)) <;>
      (try split) <;> simp_all [apply_ite base, apply_ite Prod.snd]

theorem base_stepReduce {d v c s t} (h : stepReduce d v c s = some t) : base t = base s := by
  simp only [stepReduce] at h
  (repeat' split at h) <;> (first | (cases h; done) | (injection h with h; subst h)) <;>
    (try simp only [Prod.ext_iff] at *) <;> (try casesm* _ ∧ _) <;> (try subst_vars) <;> (try split) <;> simp_all

theorem base_stepRoot {d} {v} {c} {s} {t : State} (h : stepRoot d v c s = some t) : base t = base s := by
  simp only [stepRoot] at h
  (repeat' split at h) <;> (first | (cases h; done) | (injection h with h; subst h) | skip) <;>
      (try have := base_translate' (by assumption)) <;> (try have := base_nextSeq (by assumption)) <;>
      (try split) <;> simp_all [apply_ite base, apply_ite Prod.snd]

theorem base_stepLeaf {d} {v} {c} {s} {t : State} (h : stepLeaf d v c s = some t) : base t = base s := by
  unfold stepLeaf at h
  (repeat' split at h) <;> (first | (cases h; done) | (injection h with h; subst h) <;>
      simp [apply_ite base, apply_ite Prod.snd, *])

@[simp] theorem base_sendTally (d) (v) (m) (s) : base (sendTally d v m s) = base s := by
  unfold sendTally
  (repeat' split) <;> simp [apply_ite base, apply_ite Prod.snd, *]

@[simp] theorem base_nextEntry (d) (s) : base (nextEntry d s) = base s := by
  unfold nextEntry
  (repeat' split) <;> simp [apply_ite base, apply_ite Prod.snd, *]

theorem base_stepRows {d v c s t} (h : stepRows d v c s = some t) : base t = base s := by
  unfold stepRows at h
  dsimp only at h
  split at h
  · split at h
    · split at h
      · injection h with h; subst h; simp
      · cases h
    · injection h with h; subst h; exact (base_each _ _ _ fun a s => by simp).trans (by simp)
  · split at h
    · split at h
      · cases h
      · split at h
        · rename_i hx; injection h with h; subst h; exact base_translate' hx
        · rename_i hx
          have := base_translate' hx
          split at h
          · cases h
          · injection h with h; subst h; simp_all
    · split at h
      · injection h with h; subst h; simp
      · split at h
        · injection h with h; subst h; simp
        · injection h with h; subst h; simp
        · split at h
          · cases h
          · split at h
            · split at h
              · cases h
              · injection h with h; subst h
                split <;> simp [base_inject]
            · split at h
              · cases h
              · split at h
                · rename_i hx; injection h with h; subst h; exact base_translate' hx
                · rename_i hx
                  have := base_translate' hx
                  injection h with h; subst h; simp_all

@[simp] theorem base_translateStaging (a0) (a1) (a2) (a3) (s) : base (translateStaging a0 a1 a2 a3 s).2 = base s := by
  fun_induction translateStaging a0 a1 a2 a3 s <;> (try have := base_translate' (by assumption)) <;>
      simp_all [apply_ite base, apply_ite Prod.snd]

theorem base_translateStaging' {a0} {a1} {a2} {a3} {s} {r0} {t : State} (h : translateStaging a0 a1 a2 a3 s = (r0,
    t)) : base t = base s := by
  have := base_translateStaging a0 a1 a2 a3 s
  rw [h] at this
  exact this

@[simp] theorem base_convertChunk (d) (v) (c) (data) (s) : base (convertChunk d v c data s) = base s := by
  simp only [convertChunk]
  (repeat' split) <;> simp [apply_ite base, apply_ite Prod.snd, *]

theorem base_stepStaged {d} {v} {c} {s} {t : State} (h : stepStaged d v c s = some t) : base t = base s := by
  simp only [stepStaged] at h
  (repeat' split at h) <;> (first | (cases h; done) | (injection h with h; subst h) | skip) <;>
      (try have := base_translate' (by assumption)) <;> (try have := base_nextSeq (by assumption)) <;>
      (try have := base_translateStaging (by assumption)) <;>
      (try have := base_translateStaging' (by assumption)) <;> (try split) <;>
      simp_all [apply_ite base, apply_ite Prod.snd]

theorem base_stepDirect {d} {v} {s} {t : State} (h : stepDirect d v s = some t) : base t = base s := by
  simp only [stepDirect] at h
  (repeat' split at h) <;> (first | (cases h; done) | (injection h with h; subst h) | skip) <;>
      (try have := base_translate' (by assumption)) <;> (try have := base_nextSeq (by assumption)) <;>
      (try split) <;> simp_all [apply_ite base, apply_ite Prod.snd]

theorem base_stepOwed {d v c s t} (h : stepOwed d v c s = some t) : base t = base s := by
  unfold stepOwed at h
  split at h <;> first | (cases h; done) | (injection h with h; subst h; simp)

theorem base_stepWork {d v c s t} (h : stepWork d v c s = some t) : base t = base s := by
  unfold stepWork at h
  dsimp only at h
  (repeat' split at h) <;> first
    | (cases h; done)
    | exact base_stepStaged h
    | exact base_stepRows h
    | exact base_stepRoot h
    | exact base_stepLeaf h
    | exact base_stepSend h
    | exact base_stepReduce h

theorem base_stepColl {d s t} (h : stepColl d s = some t) : base t = base s := by
  unfold stepColl at h
  (repeat' split at h) <;> first
    | (cases h; done)
    | exact base_stepDirect h
    | exact base_stepWork h
    | (injection h with h; subst h; exact base_stepOwed (by assumption))

@[simp] theorem base_advanceColl (a0) (a1) (s) : base (advanceColl a0 a1 s) = base s := by
  fun_induction advanceColl a0 a1 s <;> (try have := base_stepColl (by assumption)) <;>
      simp_all [apply_ite base, apply_ite Prod.snd]

@[simp] theorem base_goOn (d) (s) : base (goOn d s) = base s := by
  unfold goOn
  (repeat' split) <;> simp [apply_ite base, apply_ite Prod.snd, *]

@[simp] theorem base_goAll (s) : base (goAll s) = base s := by
  simp [goAll, apply_ite base, apply_ite Prod.snd]

theorem base_startColl {d} {s} {t : State} (h : startColl d s = some t) : base t = base s := by
  simp only [startColl] at h
  (repeat' split at h) <;> (first | (cases h; done) | (injection h with h; subst h) | skip) <;>
      (try have := base_translate' (by assumption)) <;> (try have := base_nextSeq (by assumption)) <;>
      (try have := base_newTag (by assumption)) <;> (try split) <;> simp_all [apply_ite base, apply_ite Prod.snd]

theorem base_withMember (p : Packet) (f : Nat → Desc → Coll → State → State) (s) (hf : ∀ d v c s, base (f d v c s) =
    base s) : base (withMember p f s) = base s := by
  unfold withMember
  (repeat' split) <;> simp [hf]

@[simp] theorem base_takeCjoin (p) (s) : base (takeCjoin p s) = base s := by
  unfold takeCjoin
  (repeat' split) <;> simp [apply_ite base, apply_ite Prod.snd, *]

@[simp] theorem base_takeCdata (p s) : base (takeCdata p s) = base s := by
  unfold takeCdata; refine base_withMember _ _ _ fun d v c s => ?_
  dsimp only
  split <;> simp

@[simp] theorem base_takeEdsp (p s) : base (takeEdsp p s) = base s := by
  unfold takeEdsp; refine base_withMember _ _ _ fun d v c s => ?_
  dsimp only
  (repeat' split) <;> simp

@[simp] theorem base_takeEcmb (p) (s) : base (takeEcmb p s) = base s := by
  simp only [takeEcmb]
  (repeat' split) <;> simp [apply_ite base, apply_ite Prod.snd, *]

@[simp] theorem base_takeEtally (p s) : base (takeEtally p s) = base s := by
  unfold takeEtally; exact base_withMember _ _ _ fun d v c s => by split <;> simp

@[simp] theorem base_takeCabort (p) (s) : base (takeCabort p s) = base s := by
  unfold takeCabort
  (repeat' split) <;> simp [apply_ite base, apply_ite Prod.snd, *]

@[simp] theorem base_rowsLanded (d) (lines) (bytes) (s) : base (rowsLanded d lines bytes s) = base s := by
  unfold rowsLanded
  (repeat' split) <;> simp [apply_ite base, apply_ite Prod.snd, *]

@[simp] theorem base_collWritten (d) (what) (s) : base (collWritten d what s) = base s := by
  unfold collWritten
  (repeat' split) <;> simp [apply_ite base, apply_ite Prod.snd, *]

@[simp] theorem base_collReturned (d) (what) (data) (s) : base (collReturned d what data s) = base s := by
  unfold collReturned
  (repeat' split) <;> simp [apply_ite base, apply_ite Prod.snd, *]

@[simp] theorem base_nextStep (d) (s) : base (nextStep d s) = base s := by
  unfold nextStep
  (repeat' split) <;> simp [apply_ite base, apply_ite Prod.snd, *]

@[simp] theorem base_beginChunk (d) (s) : base (beginChunk d s) = base s := by
  unfold beginChunk
  (repeat' split) <;> simp [apply_ite base, apply_ite Prod.snd, *]

@[simp] theorem base_placeStaged (d e p s) : base (placeStaged d e p s) = base s := by
  unfold placeStaged
  split
  · rfl
  · rw [apply_ite base, base_partEnded, ite_self]
    exact base_foldl2 _ _ _ fun x a => by dsimp only; split <;> simp

@[simp] theorem base_takePrdr (p) (s) : base (takePrdr p s) = base s := by
  simp only [takePrdr]
  (repeat' split) <;> simp [apply_ite base, apply_ite Prod.snd, *]

@[simp] theorem base_expertLoad (v) (s) : base (expertLoad v s) = base s := by
  simp [expertLoad, apply_ite base, apply_ite Prod.snd]

@[simp] theorem base_expertStore (blob) (s) : base (expertStore blob s) = base s := by
  unfold expertStore
  (repeat' split) <;> simp [apply_ite base, apply_ite Prod.snd, *]

end Sys2Proof.Laws
end

