-- ==== Sys2Proof/Laws/BaseOps3.lean ====
section
/-!
SUPPORT. Laws/BaseOps3.lean: one lemma for each operation of the files of Machine/ named here, saying that it leaves
    the base of the state alone (Fabric, LinkCore, RegWrite, Start, Router).
-/

namespace Sys2Proof.Laws

open Sys2Proof Sys2Proof.Machine

set_option Elab.async false
set_option linter.unnecessarySeqFocus false
set_option linter.unreachableTactic false
set_option linter.unusedTactic false
set_option linter.unusedSimpArgs false
set_option linter.unusedVariables false

@[simp] theorem base_putWaiting (p) (dim) (src) (s) : base (putWaiting p dim src s) = base s := by
  simp [putWaiting, apply_ite base, apply_ite Prod.snd]

@[simp] theorem base_turnCut (k) (m) (s) : base (turnCut k m s) = base s := by
  simp [turnCut, apply_ite base, apply_ite Prod.snd]

@[simp] theorem base_forward (out) (bs) (whole) (s) : base (forward out bs whole s) = base s := by
  simp [forward, apply_ite base, apply_ite Prod.snd]

@[simp] theorem base_sendCommas (k) (s) : base (sendCommas k s) = base s := by
  simp [sendCommas, apply_ite base, apply_ite Prod.snd]

@[simp] theorem base_sendGroup (n) (ctype) (rest) (s) : base (sendGroup n ctype rest s) = base s := by
  simp [sendGroup, apply_ite base, apply_ite Prod.snd]

@[simp] theorem base_setSends (x) (n) (s) : base (setSends x n s) = base s := by
  simp [setSends, apply_ite base, apply_ite Prod.snd]

@[simp] theorem base_quiet (x) (k) (s) : base (quiet x k s) = base s := by
  simp [quiet, apply_ite base, apply_ite Prod.snd]

@[simp] theorem base_startFlits (k) (ctype) (s) : base (startFlits k ctype s) = base s := by
  simp [startFlits, apply_ite base, apply_ite Prod.snd]

@[simp] theorem base_sendBlock (n) (ctype) (s) : base (sendBlock n ctype s) = base s := by
  simp [sendBlock, apply_ite base, apply_ite Prod.snd]

@[simp] theorem base_sendBlocks (k) (ctype) (s) : base (sendBlocks k ctype s) = base s := by
  simp [sendBlocks, apply_ite base, apply_ite Prod.snd]

@[simp] theorem base_putScramblers (es) (s) : base (putScramblers es s) = base s := by
  simp [putScramblers, apply_ite base, apply_ite Prod.snd]

@[simp] theorem base_sendFrame (k) (flits) (s) : base (sendFrame k flits s) = base s := by
  simp [sendFrame, apply_ite base, apply_ite Prod.snd]

@[simp] theorem base_sendFlit (k) (bytes) (s) : base (sendFlit k bytes s) = base s := by
  simp [sendFlit, apply_ite base, apply_ite Prod.snd]

@[simp] theorem base_takeTurn (t) (s) : base (takeTurn t s) = base s := by
  simp [takeTurn, apply_ite base, apply_ite Prod.snd]

@[simp] theorem base_addDesc (v) (s) : base (addDesc v s) = base s := by
  simp [addDesc, apply_ite base, apply_ite Prod.snd]

@[simp] theorem base_takeToken (t) (v) (s) : base (takeToken t v s) = base s := by
  simp [takeToken, apply_ite base, apply_ite Prod.snd]

@[simp] theorem base_countInj (p) (s) : base (countInj p s) = base s := by
  simp [countInj, apply_ite base, apply_ite Prod.snd]

@[simp] theorem base_countEj (p) (s) : base (countEj p s) = base s := by
  simp [countEj, apply_ite base, apply_ite Prod.snd]

@[simp] theorem base_pkeyNote (dir) (port) (p) (s) : base (pkeyNote dir port p s) = base s := by
  simp [pkeyNote, apply_ite base, apply_ite Prod.snd]

@[simp] theorem base_pkeyDrop (dir) (port) (p) (s) : base (pkeyDrop dir port p s) = base s := by
  simp [pkeyDrop, apply_ite base, apply_ite Prod.snd]

@[simp] theorem base_setChan (c) (v) (s) : base (setChan c v s) = base s := by
  simp [setChan, apply_ite base, apply_ite Prod.snd]

@[simp] theorem base_sealPacket (p) (s) : base (sealPacket p s).2 = base s := by
  simp [sealPacket, apply_ite base, apply_ite Prod.snd]

theorem base_sealPacket' {p} {s} {r0} {t : State} (h : sealPacket p s = (r0, t)) : base t = base s := by
  have := base_sealPacket p s
  rw [h] at this
  exact this

@[simp] theorem base_openPacket (p) (s) : base (openPacket p s).2 = base s := by
  unfold openPacket
  (repeat' split) <;> simp [apply_ite base, apply_ite Prod.snd, *]

theorem base_openPacket' {p} {s} {r0} {t : State} (h : openPacket p s = (r0, t)) : base t = base s := by
  have := base_openPacket p s
  rw [h] at this
  exact this

@[simp] theorem base_takeWhole (k p s) : base (takeWhole k p s) = base s := by
  unfold takeWhole
  dsimp only
  split
  · split
    · simp
    · split
      · split <;> rename_i h <;> have := base_openPacket' h <;> simp_all
      · simp
  · simp

@[simp] theorem base_sumpEnd (p) (s) : base (sumpEnd p s) = base s := by
  simp only [sumpEnd]
  (repeat' split) <;> simp [apply_ite base, apply_ite Prod.snd, *]

@[simp] theorem base_flushAtRouter (port) (node) (p) (s) : base (flushAtRouter port node p s) = base s := by
  simp [flushAtRouter, apply_ite base, apply_ite Prod.snd]

@[simp] theorem base_flushFromLink (k) (p) (s) : base (flushFromLink k p s) = base s := by
  simp [flushFromLink, apply_ite base, apply_ite Prod.snd]

@[simp] theorem base_noteUncorr (k) (s) : base (noteUncorr k s) = base s := by
  simp [noteUncorr, apply_ite base, apply_ite Prod.snd]

@[simp] theorem base_countCodeword (k) (c) (s) : base (countCodeword k c s) = base s := by
  simp [countCodeword, apply_ite base, apply_ite Prod.snd]

@[simp] theorem base_sendUnseq (k) (ftype) (slp) (payload) (s) : base (sendUnseq k ftype slp payload s) = base s := by
  simp [sendUnseq, apply_ite base, apply_ite Prod.snd]

@[simp] theorem base_sendCtrl (k) (s) : base (sendCtrl k s) = base s := by
  simp [sendCtrl, apply_ite base, apply_ite Prod.snd]

@[simp] theorem base_sendReplayReq (k) (s) : base (sendReplayReq k s) = base s := by
  simp [sendReplayReq, apply_ite base, apply_ite Prod.snd]

@[simp] theorem base_startPacket (k s) : base (startPacket k s).2 = base s := by
  unfold startPacket
  dsimp only
  split
  · rfl
  · split
    · rfl
    · split
      · rfl
      · split
        · split <;> rename_i h <;> have := base_sealPacket' h <;> simp_all
        · simp

theorem base_startPacket' {k s r0} {t : State} (h : startPacket k s = (r0, t)) : base t = base s := by
  rw [← base_startPacket k s, h]

@[simp] theorem base_feedN (a0) (a1) (s) : base (feedN a0 a1 s) = base s := by
  fun_induction feedN a0 a1 s <;> (try have := base_startPacket' (by assumption)) <;>
      simp_all [apply_ite base, apply_ite Prod.snd]

@[simp] theorem base_feed (k) (s) : base (feed k s) = base s := by
  simp [feed, apply_ite base, apply_ite Prod.snd]

@[simp] theorem base_sendSeq (k) (ftype) (abt) (traffic) (payload) (s) : base (sendSeq k ftype abt traffic payload s)
    = base s := by
  simp [sendSeq, apply_ite base, apply_ite Prod.snd]

theorem base_sendNext {k} {s} {t : State} (h : sendNext k s = some t) : base t = base s := by
  simp only [sendNext] at h
  (repeat' split at h) <;> (first | (cases h; done) | (injection h with h; subst h) | skip) <;>
      (try have := base_translate' (by assumption)) <;> (try have := base_nextSeq (by assumption)) <;>
      (try have := base_fillFlit' (by assumption)) <;> (try split) <;> simp_all [apply_ite base, apply_ite Prod.snd]

@[simp] theorem base_pumpN (a0) (a1) (s) : base (pumpN a0 a1 s) = base s := by
  induction a0 generalizing s with
  | zero => rfl
  | succ n ih =>
    unfold pumpN
    dsimp only
    split
    · rename_i h; rw [ih, base_sendNext h, base_feed]
    · simp

@[simp] theorem base_pump (k) (s) : base (pump k s) = base s := by
  simp [pump, apply_ite base, apply_ite Prod.snd]

@[simp] theorem base_takeIn (k) (x) (bs) (abt) (s) : base (takeIn k x bs abt s) = base s := by
  unfold takeIn
  (repeat' split) <;> simp [apply_ite base, apply_ite Prod.snd, *]

theorem base_readCrossing {k} {force} {s} {t : State} (h : readCrossing k force s = some t) : base t = base s := by
  simp only [readCrossing] at h
  (repeat' split at h) <;> (first | (cases h; done) | (injection h with h; subst h) | skip) <;> simp [apply_ite base, apply_ite Prod.snd, *]

@[simp] theorem base_absorbN (a0) (a1) (a2) (s) : base (absorbN a0 a1 a2 s) = base s := by
  fun_induction absorbN a0 a1 a2 s <;> (try have := base_readCrossing (by assumption)) <;>
      simp_all [apply_ite base, apply_ite Prod.snd]

@[simp] theorem base_absorb (k) (s) : base (absorb k s) = base s := by
  simp [absorb, apply_ite base, apply_ite Prod.snd]

@[simp] theorem base_ctrlIfDue (k) (s) : base (ctrlIfDue k s) = base s := by
  simp [ctrlIfDue, apply_ite base, apply_ite Prod.snd]

@[simp] theorem base_settleLinks (s) : base (settleLinks s) = base s := by
  simp [settleLinks, apply_ite base, apply_ite Prod.snd]

@[simp] theorem base_requeue (k) (p) (s) : base (requeue k p s) = base s := by
  simp [requeue, apply_ite base, apply_ite Prod.snd]

@[simp] theorem base_requeueUnstarted (k) (s) : base (requeueUnstarted k s) = base s := by
  simp [requeueUnstarted, apply_ite base, apply_ite Prod.snd]

@[simp] theorem base_requeueLink (k) (goes) (s) : base (requeueLink k goes s) = base s := by
  simp [requeueLink, apply_ite base, apply_ite Prod.snd]

@[simp] theorem base_readyFell (k) (s) : base (readyFell k s) = base s := by
  simp [readyFell, apply_ite base, apply_ite Prod.snd]

@[simp] theorem base_rechoose (p) (s) : base (rechoose p s) = base s := by
  simp [rechoose, apply_ite base, apply_ite Prod.snd]

@[simp] theorem base_exclPort (p) (s) : base (exclPort p s) = base s := by
  simp [exclPort, apply_ite base, apply_ite Prod.snd]

@[simp] theorem base_abortCut (k) (s) : base (abortCut k s) = base s := by
  simp only [abortCut]
  (repeat' split) <;> simp [apply_ite base, apply_ite Prod.snd, *]

@[simp] theorem base_flushReplay (k) (s) : base (flushReplay k s) = base s := by
  simp only [flushReplay]
  (repeat' split) <;> simp [apply_ite base, apply_ite Prod.snd, *]

@[simp] theorem base_leaveActive (k) (st) (s) : base (leaveActive k st s) = base s := by
  simp [leaveActive, apply_ite base, apply_ite Prod.snd]

@[simp] theorem base_resetLanes (k) (s) : base (resetLanes k s) = base s := by
  simp [resetLanes, apply_ite base, apply_ite Prod.snd]

@[simp] theorem base_stopLink (k) (st) (s) : base (stopLink k st s) = base s := by
  simp [stopLink, apply_ite base, apply_ite Prod.snd]

@[simp] theorem base_tryPrime (k) (s) : base (tryPrime k s) = base s := by
  simp [tryPrime, apply_ite base, apply_ite Prod.snd]

@[simp] theorem base_beginSteps (k) (step) (s) : base (beginSteps k step s) = base s := by
  simp [beginSteps, apply_ite base, apply_ite Prod.snd]

@[simp] theorem base_startRetrain (k) (cause) (s) : base (startRetrain k cause s) = base s := by
  simp [startRetrain, apply_ite base, apply_ite Prod.snd]

@[simp] theorem base_sendControl (k) (ty) (payload) (s) : base (sendControl k ty payload s) = base s := by
  simp [sendControl, apply_ite base, apply_ite Prod.snd]

@[simp] theorem base_sendHello (k) (s) : base (sendHello k s) = base s := by
  simp [sendHello, apply_ite base, apply_ite Prod.snd]

@[simp] theorem base_helloAll (s) : base (helloAll s) = base s := by
  simp [helloAll, apply_ite base, apply_ite Prod.snd]

@[simp] theorem base_resendFlits (k) (s) : base (resendFlits k s) = base s := by
  simp [resendFlits, apply_ite base, apply_ite Prod.snd]

@[simp] theorem base_sendReplay (k) (tmo) (s) : base (sendReplay k tmo s) = base s := by
  simp only [sendReplay]
  (repeat' split) <;> simp [apply_ite base, apply_ite Prod.snd, *]

@[simp] theorem base_abortPart (k) (s) : base (abortPart k s) = base s := by
  simp only [abortPart]
  (repeat' split) <;> simp [apply_ite base, apply_ite Prod.snd, *]

@[simp] theorem base_freshStart (k) (s) : base (freshStart k s) = base s := by
  simp [freshStart, apply_ite base, apply_ite Prod.snd]

@[simp] theorem base_resumeStart (k) (next) (relIn) (accepted) (s) : base (resumeStart k next relIn accepted s) =
    base s := by
  simp [resumeStart, apply_ite base, apply_ite Prod.snd]

@[simp] theorem base_resumeSend (k) (s) : base (resumeSend k s) = base s := by
  simp [resumeSend, apply_ite base, apply_ite Prod.snd]

@[simp] theorem base_tryActive (k) (s) : base (tryActive k s) = base s := by
  simp only [tryActive]
  (repeat' split) <;> simp [apply_ite base, apply_ite Prod.snd, *]

@[simp] theorem base_takeAck (k) (a) (s) : base (takeAck k a s).2 = base s := by
  simp [takeAck, apply_ite base, apply_ite Prod.snd]

@[simp] theorem base_startReplay (k) (tmo) (s) : base (startReplay k tmo s) = base s := by
  simp only [startReplay]
  (repeat' split) <;> simp [apply_ite base, apply_ite Prod.snd, *]

@[simp] theorem base_replayAsked (k) (a) (s) : base (replayAsked k a s) = base s := by
  unfold replayAsked
  (repeat' split) <;> simp [apply_ite base, apply_ite Prod.snd, *]

@[simp] theorem base_awaitReplay (k) (s) : base (awaitReplay k s) = base s := by
  simp [awaitReplay, apply_ite base, apply_ite Prod.snd]

@[simp] theorem base_flitFailed (k) (s) : base (flitFailed k s) = base s := by
  simp [flitFailed, apply_ite base, apply_ite Prod.snd]

@[simp] theorem base_storeFields (d) (a) (v) (s) : base (storeFields d a v s) = base s := by
  simp [storeFields, apply_ite base, apply_ite Prod.snd]

@[simp] theorem base_storeReg (a) (v) (s) : base (storeReg a v s) = base s := by
  unfold storeReg
  (repeat' split) <;> simp [apply_ite base, apply_ite Prod.snd, *]

@[simp] theorem base_exclWrite (p) (v) (s) : base (exclWrite p v s) = base s := by
  simp [exclWrite, apply_ite base, apply_ite Prod.snd]

@[simp] theorem base_endUnstarted (d) (st) (s) : base (endUnstarted d st s) = base s := by
  simp [endUnstarted, apply_ite base, apply_ite Prod.snd]

@[simp] theorem base_lookStart (a0) (a1) (a2) (s) : base (lookStart a0 a1 a2 s).2 = base s := by
  fun_induction lookStart a0 a1 a2 s <;> simp_all [apply_ite base, apply_ite Prod.snd]

theorem base_lookStart' {a0} {a1} {a2} {s} {r0} {t : State} (h : lookStart a0 a1 a2 s = (r0, t)) : base t = base s :=
    by
  have := base_lookStart a0 a1 a2 s
  rw [h] at this
  exact this

@[simp] theorem base_markStream (part) (stream) (s) : base (markStream part stream s) = base s := by
  simp [markStream, apply_ite base, apply_ite Prod.snd]

@[simp] theorem base_lookAhead (v) (s) : base (lookAhead v s) = base s := by
  simp [lookAhead, apply_ite base, apply_ite Prod.snd]

theorem base_beginRun {d} {v} {s} {t : State} (h : beginRun d v s = some t) : base t = base s := by
  simp only [beginRun] at h
  (repeat' split at h) <;> (first | (cases h; done) | (injection h with h; subst h) | skip) <;>
      (try have := base_startColl (by assumption)) <;> simp [apply_ite base, apply_ite Prod.snd, *]

theorem base_stepStart {d v s t} (h : stepStart d v s = some t) : base t = base s := by
  simp only [stepStart] at h
  split at h
  · rename_i h1
    injection h with h; subst h; exact base_lookStart' h1
  · rename_i h1
    have e1 := base_lookStart' h1
    rw [← e1]; clear e1 h1
    (repeat' split at h) <;>
        (first | (cases h; done) | exact base_beginRun h | (injection h with h; subst h) | skip) <;>
      (try have := base_translate' (by assumption)) <;> (try have := base_lookStart' (by assumption)) <;>
      (try have := base_beginRun (by assumption)) <;> simp_all

@[simp] theorem base_advanceStart (a0) (a1) (s) : base (advanceStart a0 a1 s) = base s := by
  fun_induction advanceStart a0 a1 s <;> (try have := base_stepStart (by assumption)) <;>
      simp_all [apply_ite base, apply_ite Prod.snd]

@[simp] theorem base_proceed (d) (s) : base (proceed d s) = base s := by
  unfold proceed
  (repeat' split) <;> simp [apply_ite base, apply_ite Prod.snd, *]

@[simp] theorem base_proceedAll (s) : base (proceedAll s) = base s := by
  simp [proceedAll, apply_ite base, apply_ite Prod.snd]

@[simp] theorem base_startWith (d) (v) (s) : base (startWith d v s) = base s := by
  unfold startWith
  (repeat' split) <;> simp [apply_ite base, apply_ite Prod.snd, *]

@[simp] theorem base_startDesc (d) (s) : base (startDesc d s) = base s := by
  unfold startDesc
  (repeat' split) <;> simp [apply_ite base, apply_ite Prod.snd, *]

@[simp] theorem base_startToken (t) (s) : base (startToken t s) = base s := by
  unfold startToken
  (repeat' split) <;> simp [apply_ite base, apply_ite Prod.snd, *]

@[simp] theorem base_startNext (s) : base (startNext s) = base s := by
  simp only [startNext]
  (repeat' split) <;> simp [apply_ite base, apply_ite Prod.snd, *]

@[simp] theorem base_bindPipe (d) (p) (v) (s) : base (bindPipe d p v s) = base s := by
  simp only [bindPipe]
  (repeat' split) <;> simp [apply_ite base, apply_ite Prod.snd, *]

@[simp] theorem base_bindNext (s) : base (bindNext s) = base s := by
  simp only [bindNext]
  (repeat' split) <;> simp [apply_ite base, apply_ite Prod.snd, *]

@[simp] theorem base_enqueue (k) (p) (s) : base (enqueue k p s) = base s := by
  simp [enqueue, apply_ite base, apply_ite Prod.snd]

@[simp] theorem base_dropNoRoute (p) (s) : base (dropNoRoute p s) = base s := by
  simp [dropNoRoute, apply_ite base, apply_ite Prod.snd]

@[simp] theorem base_carryOut (d) (p) (node) (dim) (src) (s) : base (carryOut d p node dim src s) = base s := by
  unfold carryOut
  (repeat' split) <;> simp [apply_ite base, apply_ite Prod.snd, *]

@[simp] theorem base_restampPacket (p) (src) (s) : base (restampPacket p src s) = base s := by
  simp [restampPacket, apply_ite base, apply_ite Prod.snd]

@[simp] theorem base_sendOn (d) (p) (src) (s) : base (sendOn d p src s) = base s := by
  simp [sendOn, apply_ite base, apply_ite Prod.snd]

@[simp] theorem base_eject (from_) (p) (s) : base (eject from_ p s) = base s := by
  unfold eject
  (repeat' split) <;> simp [apply_ite base, apply_ite Prod.snd, *]

@[simp] theorem base_makeCopies (p) (src) (s) : base (makeCopies p src s) = base s := by
  simp [makeCopies, apply_ite base, apply_ite Prod.snd]

@[simp] theorem base_takeMulticast (k) (p) (src) (s) : base (takeMulticast k p src s) = base s := by
  simp [takeMulticast, apply_ite base, apply_ite Prod.snd]

@[simp] theorem base_takeFromLink (k) (p) (s) : base (takeFromLink k p s) = base s := by
  simp [takeFromLink, apply_ite base, apply_ite Prod.snd]

@[simp] theorem base_takeFromInject (u) (p) (s) : base (takeFromInject u p s) = base s := by
  simp [takeFromInject, apply_ite base, apply_ite Prod.snd]

@[simp] theorem base_routeLink (k) (vc) (forced) (s) : base (routeLink k vc forced s) = base s := by
  simp only [routeLink]
  (repeat' split) <;> simp [apply_ite base, apply_ite Prod.snd, *]

@[simp] theorem base_routeInject (u) (forced) (s) : base (routeInject u forced s) = base s := by
  unfold routeInject
  (repeat' split) <;> simp [apply_ite base, apply_ite Prod.snd, *]

@[simp] theorem base_routeWaiting (n) (forced) (s) : base (routeWaiting n forced s) = base s := by
  unfold routeWaiting
  (repeat' split) <;> simp [apply_ite base, apply_ite Prod.snd, *]

@[simp] theorem base_cutThrough (k) (s) : base (cutThrough k s) = base s := by
  simp only [cutThrough]
  (repeat' split) <;> simp [apply_ite base, apply_ite Prod.snd, *]

@[simp] theorem base_settle (s) : base (settle s) = base s := by
  simp [settle, apply_ite base, apply_ite Prod.snd]

@[simp] theorem base_routeFrom (src) (forced) (s) : base (routeFrom src forced s) = base s := by
  unfold routeFrom
  (repeat' split) <;> simp [apply_ite base, apply_ite Prod.snd, *]

@[simp] theorem base_fabRefuse (s) : base (fabRefuse s) = base s := by
  simp [fabRefuse, apply_ite base, apply_ite Prod.snd]

@[simp] theorem base_routeWrite (b) (d) (v) (s) : base (routeWrite b d v s) = base s := by
  simp [routeWrite, apply_ite base, apply_ite Prod.snd]

@[simp] theorem base_injWrite (b) (s) : base (injWrite b s) = base s := by
  simp [injWrite, apply_ite base, apply_ite Prod.snd]

@[simp] theorem base_epochClear (b) (s) : base (epochClear b s) = base s := by
  simp [epochClear, apply_ite base, apply_ite Prod.snd]

@[simp] theorem base_epochCtlWrite (v) (s) : base (epochCtlWrite v s) = base s := by
  simp [epochCtlWrite, apply_ite base, apply_ite Prod.snd]

@[simp] theorem base_placeLink (k) (s) : base (placeLink k s) = base s := by
  simp [placeLink, apply_ite base, apply_ite Prod.snd]

@[simp] theorem base_lportLinksWrite (p) (v) (s) : base (lportLinksWrite p v s) = base s := by
  simp [lportLinksWrite, apply_ite base, apply_ite Prod.snd]

@[simp] theorem base_lportCtlWrite (p) (v) (s) : base (lportCtlWrite p v s) = base s := by
  simp [lportCtlWrite, apply_ite base, apply_ite Prod.snd]

@[simp] theorem base_pkeyListWrite (v) (s) : base (pkeyListWrite v s) = base s := by
  simp [pkeyListWrite, apply_ite base, apply_ite Prod.snd]

@[simp] theorem base_fabCtlWrite (v) (s) : base (fabCtlWrite v s) = base s := by
  simp [fabCtlWrite, apply_ite base, apply_ite Prod.snd]

@[simp] theorem base_nodeIdWrite (dims) (v) (s) : base (nodeIdWrite dims v s) = base s := by
  simp [nodeIdWrite, apply_ite base, apply_ite Prod.snd]

@[simp] theorem base_takeControl (k) (p) (s) : base (takeControl k p s) = base s := by
  simp [takeControl, apply_ite base, apply_ite Prod.snd]

@[simp] theorem base_setOutcome (k) (o) (s) : base (setOutcome k o s) = base s := by
  simp [setOutcome, apply_ite base, apply_ite Prod.snd]

@[simp] theorem base_takeHello (k) (p) (s) : base (takeHello k p s) = base s := by
  simp [takeHello, apply_ite base, apply_ite Prod.snd]

@[simp] theorem base_sendProbe (k) (keeper) (s) : base (sendProbe k keeper s) = base s := by
  simp [sendProbe, apply_ite base, apply_ite Prod.snd]

@[simp] theorem base_probeCtlWrite (keeper) (v) (s) : base (probeCtlWrite keeper v s) = base s := by
  simp [probeCtlWrite, apply_ite base, apply_ite Prod.snd]

@[simp] theorem base_takeProbeReply (k) (p) (count) (s) : base (takeProbeReply k p count s) = base s := by
  unfold takeProbeReply
  (repeat' split) <;> simp [apply_ite base, apply_ite Prod.snd, *]

end Sys2Proof.Laws
end

