-- ==== Sys2Proof/Laws/BaseOps4.lean ====
section
/-!
SUPPORT. Laws/BaseOps4.lean: one lemma for each operation of the files of Machine/ named here, saying that it leaves
    the base of the state alone (LinkLayer, Lane, Events, Keeper, Firmware).
-/

namespace Sys2Proof.Laws

open Sys2Proof Sys2Proof.Machine

set_option Elab.async false
set_option linter.unnecessarySeqFocus false
set_option linter.unreachableTactic false
set_option linter.unusedTactic false
set_option linter.unusedSimpArgs false
set_option linter.unusedVariables false

@[simp] theorem base_takeFw (f : State → State) (s) (h : base (f s) = base s) : base (takeFw f s) = base s := by
  unfold takeFw
  (repeat' split) <;> simp [h]

@[simp] theorem base_countBits (n) (s) : base (countBits n s) = base s := by
  simp [countBits, apply_ite base, apply_ite Prod.snd]

@[simp] theorem base_seedPattern (n) (s) : base (seedPattern n s) = base s := by
  simp [seedPattern, apply_ite base, apply_ite Prod.snd]

@[simp] theorem base_applyPattern (anew) (n) (s) : base (applyPattern anew n s) = base s := by
  simp [applyPattern, apply_ite base, apply_ite Prod.snd]

@[simp] theorem base_applyLoop (n) (s) : base (applyLoop n s) = base s := by
  unfold applyLoop
  (repeat' split) <;> simp [apply_ite base, apply_ite Prod.snd, *]

@[simp] theorem base_standInTest (k) (s) : base (standInTest k s) = base s := by simp [standInTest]

@[simp] theorem base_monitorBack (n) (s) : base (monitorBack n s) = base s := by
  simp [monitorBack, apply_ite base, apply_ite Prod.snd]

@[simp] theorem base_wakeRx (k) (s) : base (wakeRx k s) = base s := by
  simp [wakeRx, apply_ite base, apply_ite Prod.snd]

@[simp] theorem base_alignedInTest (k) (s) : base (alignedInTest k s) = base s := by
  simp [alignedInTest, apply_ite base, apply_ite Prod.snd]

@[simp] theorem base_wakeBurst (k) (drain) (s) : base (wakeBurst k drain s) = base s := by
  simp [wakeBurst, apply_ite base, apply_ite Prod.snd]

@[simp] theorem base_padFrame (k) (n) (s) : base (padFrame k n s) = base s := by
  simp [padFrame, apply_ite base, apply_ite Prod.snd]

@[simp] theorem base_dozeTx (k) (s) : base (dozeTx k s) = base s := by
  simp [dozeTx, apply_ite base, apply_ite Prod.snd]

@[simp] theorem base_completeFrame (k) (s) : base (completeFrame k s) = base s := by
  simp [completeFrame, apply_ite base, apply_ite Prod.snd]

@[simp] theorem base_backToCommas (n) (s) : base (backToCommas n s) = base s := by
  simp [backToCommas]

@[simp] theorem base_endIdle (n) (s) : base (endIdle n s) = base s := by
  unfold endIdle
  dsimp only
  (repeat' split) <;> simp

@[simp] theorem base_sendPattern (n) (s) : base (sendPattern n s) = base s := by
  unfold sendPattern
  split <;> simp

@[simp] theorem base_tickLane (n) (s) : base (tickLane n s) = base s := by simp [tickLane]

/-- A tick changes the time alone. -/
theorem base_tick (s) : base (tick s) = { base s with now := s.now + 1 } := by
  unfold tick
  dsimp only
  rw [base_each _ _ _ (fun _ _ => base_completeFrame _ _), base_each _ _ _ (fun _ _ => base_tickLane _ _), base_mk]
  rfl

theorem base_onTile (k) (f : State → State) (s) (h : base (f s) = base s) : base (onTile k f s) = base s := by
  unfold onTile
  (repeat' split) <;> simp [h]

@[simp] theorem base_askTaps (active) (n) (s) : base (askTaps active n s) = base s := by
  simp [askTaps, apply_ite base, apply_ite Prod.snd]

@[simp] theorem base_askInService (n) (s) : base (askInService n s) = base s := by
  simp [askInService, apply_ite base, apply_ite Prod.snd]

@[simp] theorem base_answerTrain (n) (s) : base (answerTrain n s) = base s := by
  simp only [answerTrain]
  (repeat' split) <;> simp [apply_ite base, apply_ite Prod.snd, *]

@[simp] theorem base_tapRequest (active) (n) (w) (s) : base (tapRequest active n w s) = base s := by
  simp [tapRequest, apply_ite base, apply_ite Prod.snd]

@[simp] theorem base_tapWord (active) (n) (w) (s) : base (tapWord active n w s) = base s := by
  simp [tapWord, apply_ite base, apply_ite Prod.snd]

@[simp] theorem base_checkSeq (k) (f) (s) : base (checkSeq k f s) = base s := by
  simp [checkSeq, apply_ite base, apply_ite Prod.snd]

@[simp] theorem base_takeSlp (k) (f) (s) : base (takeSlp k f s) = base s := by
  simp [takeSlp, apply_ite base, apply_ite Prod.snd]

@[simp] theorem base_takeData (k) (f) (s) : base (takeData k f s) = base s := by
  simp [takeData, apply_ite base, apply_ite Prod.snd]

@[simp] theorem base_takeAudit (k) (f) (s) : base (takeAudit k f s) = base s := by
  simp [takeAudit, apply_ite base, apply_ite Prod.snd]

@[simp] theorem base_takeCtrl (k) (f) (s) : base (takeCtrl k f s) = base s := by
  simp [takeCtrl, apply_ite base, apply_ite Prod.snd]

@[simp] theorem base_takeActive (k) (f) (s) : base (takeActive k f s) = base s := by
  simp [takeActive, apply_ite base, apply_ite Prod.snd]

@[simp] theorem base_takeInit (k) (f) (s) : base (takeInit k f s) = base s := by
  simp [takeInit, apply_ite base, apply_ite Prod.snd]

@[simp] theorem base_takeFlit (ts) (k) (f) (s) : base (takeFlit ts k f s) = base s := by
  simp [takeFlit, apply_ite base, apply_ite Prod.snd]

@[simp] theorem base_primeFailed (k) (cause) (s) : base (primeFailed k cause s) = base s := by
  simp [primeFailed, apply_ite base, apply_ite Prod.snd]

@[simp] theorem base_sendDrain (port) (reason) (s) : base (sendDrain port reason s) = base s := by
  simp [sendDrain, apply_ite base, apply_ite Prod.snd]

@[simp] theorem base_retrainWrite (reason) (k) (s) : base (retrainWrite reason k s) = base s := by
  unfold retrainWrite
  (repeat' split) <;> simp [apply_ite base, apply_ite Prod.snd, *]

@[simp] theorem base_linkRefuse (k) (s) : base (linkRefuse k s) = base s := by
  simp [linkRefuse, apply_ite base, apply_ite Prod.snd]

@[simp] theorem base_fullReset (k) (s) : base (fullReset k s) = base s := by
  simp [fullReset, apply_ite base, apply_ite Prod.snd]

@[simp] theorem base_modeChanged (k) (old) (s) : base (modeChanged k old s) = base s := by
  simp only [modeChanged]
  (repeat' split) <;> simp [apply_ite base, apply_ite Prod.snd, *]

@[simp] theorem base_lnkCtlWrite (k) (v) (s) : base (lnkCtlWrite k v s) = base s := by
  simp [lnkCtlWrite, apply_ite base, apply_ite Prod.snd]

@[simp] theorem base_txSleepEnter (k) (s) : base (txSleepEnter k s) = base s := by
  unfold txSleepEnter
  (repeat' split) <;> simp [apply_ite base, apply_ite Prod.snd, *]

@[simp] theorem base_wakeTx (k) (s) : base (wakeTx k s) = base s := by
  simp [wakeTx, apply_ite base, apply_ite Prod.snd]

@[simp] theorem base_endHold (k) (s) : base (endHold k s) = base s := by
  simp [endHold, apply_ite base, apply_ite Prod.snd]

@[simp] theorem base_sleepCfgWrite (k) (v) (s) : base (sleepCfgWrite k v s) = base s := by
  simp [sleepCfgWrite, apply_ite base, apply_ite Prod.snd]

@[simp] theorem base_dutyCtlWrite (k) (v) (s) : base (dutyCtlWrite k v s) = base s := by
  simp [dutyCtlWrite, apply_ite base, apply_ite Prod.snd]

@[simp] theorem base_loadLane (n) (s) : base (loadLane n s) = base s := by
  simp [loadLane, apply_ite base, apply_ite Prod.snd]

@[simp] theorem base_setStale (k) (b) (s) : base (setStale k b s) = base s := by
  simp [setStale, apply_ite base, apply_ite Prod.snd]

@[simp] theorem base_checkStale (k) (cold) (s) : base (checkStale k cold s) = base s := by
  unfold checkStale
  (repeat' split) <;> simp [apply_ite base, apply_ite Prod.snd, *]

@[simp] theorem base_beginCold (k) (step) (s) : base (beginCold k step s) = base s := by
  simp [beginCold, apply_ite base, apply_ite Prod.snd]

@[simp] theorem base_failAttempt (k) (cause) (s) : base (failAttempt k cause s) = base s := by
  simp [failAttempt, apply_ite base, apply_ite Prod.snd]

@[simp] theorem base_laneAligned (k) (skew) (s) : base (laneAligned k skew s) = base s := by
  simp [laneAligned, apply_ite base, apply_ite Prod.snd]

@[simp] theorem base_finishPriming (k) (s) : base (finishPriming k s) = base s := by
  simp [finishPriming, apply_ite base, apply_ite Prod.snd]

@[simp] theorem base_sendEnd (was) (k) (s) : base (sendEnd was k s) = base s := by
  simp [sendEnd, apply_ite base, apply_ite Prod.snd]

@[simp] theorem base_takeTrain (k) (n) (b) (s) : base (takeTrain k n b s) = base s := by
  simp [takeTrain, apply_ite base, apply_ite Prod.snd]

theorem base_onTraining (n ctype b f s) (hf : ∀ s, base (f s) = base s) : base (onTraining n ctype b f s) = base s :=
    by
  unfold onTraining
  refine base_onLink _ _ _ _ ?_
  split
  · simp
  · split <;> simp [hf]

@[simp] theorem base_convergeLane (n) (s) : base (convergeLane n s) = base s := by
  simp [convergeLane, apply_ite base, apply_ite Prod.snd]

@[simp] theorem base_setLol (n) (s) : base (setLol n s) = base s := by
  simp [setLol, apply_ite base, apply_ite Prod.snd]

@[simp] theorem base_detect (n) (s) : base (detect n s) = base s := by
  simp [detect, apply_ite base, apply_ite Prod.snd]

@[simp] theorem base_leaveTest (k) (s) : base (leaveTest k s) = base s := by
  simp [leaveTest, apply_ite base, apply_ite Prod.snd]

@[simp] theorem base_endFarServe (n) (s) : base (endFarServe n s) = base s := by
  simp [endFarServe, apply_ite base, apply_ite Prod.snd]

@[simp] theorem base_laneRefuse (n) (s) : base (laneRefuse n s) = base s := by
  simp [laneRefuse, apply_ite base, apply_ite Prod.snd]

@[simp] theorem base_sitInPriming (k) (s) : base (sitInPriming k s) = base s := by
  simp [sitInPriming, apply_ite base, apply_ite Prod.snd]

@[simp] theorem base_endTest (loop) (n) (s) : base (endTest loop n s) = base s := by
  simp [endTest, apply_ite base]

@[simp] theorem base_laneTestWrite (n) (v) (s) : base (laneTestWrite n v s) = base s := by
  simp [laneTestWrite, apply_ite base, apply_ite Prod.snd]

@[simp] theorem base_sqCtlWrite (n) (v) (s) : base (sqCtlWrite n v s) = base s := by
  simp [sqCtlWrite, apply_ite base, apply_ite Prod.snd]

@[simp] theorem base_prbsCtlWrite (n) (v) (s) : base (prbsCtlWrite n v s) = base s := by
  simp [prbsCtlWrite, apply_ite base, apply_ite Prod.snd]

@[simp] theorem base_modKeeper (f) (s) : base (modKeeper f s) = base s := by
  simp [modKeeper, apply_ite base, apply_ite Prod.snd]

@[simp] theorem base_hostSteps (a0) (s) : base (hostSteps a0 s) = base s := by
  fun_induction hostSteps a0 s <;> simp_all [apply_ite base, apply_ite Prod.snd]

@[simp] theorem base_hostStep (s) : base (hostStep s) = base s := by
  simp [hostStep, apply_ite base, apply_ite Prod.snd]

@[simp] theorem base_eventCopied (i) (s) : base (eventCopied i s) = base s := by
  simp [eventCopied, apply_ite base, apply_ite Prod.snd]

@[simp] theorem base_writeEntry (e) (s) : base (writeEntry e s).2 = base s := by
  simp [writeEntry, apply_ite base, apply_ite Prod.snd]

theorem base_writeEntry' {e} {s} {r0} {t : State} (h : writeEntry e s = (r0, t)) : base t = base s := by
  have := base_writeEntry e s
  rw [h] at this
  exact this

@[simp] theorem base_relay (e) (s) : base (relay e s) = base s := by
  simp [relay, apply_ite base, apply_ite Prod.snd]

@[simp] theorem base_publish (e s) : base (publish e s) = base s := by
  unfold publish
  split <;> rename_i h <;> have := base_writeEntry' h <;> simp_all

@[simp] theorem base_setSlot (c) (s) : base (setSlot c s) = base s := by
  simp [setSlot, apply_ite base, apply_ite Prod.snd]

@[simp] theorem base_coalesce (e) (s) : base (coalesce e s) = base s := by
  unfold coalesce
  (repeat' split) <;> simp [apply_ite base, apply_ite Prod.snd, *]

@[simp] theorem base_reportLoss (s) : base (reportLoss s) = base s := by
  simp [reportLoss, apply_ite base, apply_ite Prod.snd]

@[simp] theorem base_evtConsWrite (v) (s) : base (evtConsWrite v s) = base s := by
  simp [evtConsWrite, apply_ite base, apply_ite Prod.snd]

@[simp] theorem base_calEnd (cause) (s) : base (calEnd cause s) = base s := by
  simp [calEnd, apply_ite base, apply_ite Prod.snd]

@[simp] theorem base_importCmd (s) : base (importCmd s) = base s := by
  simp [importCmd, apply_ite base, apply_ite Prod.snd]

@[simp] theorem base_applyExclusion (s) : base (applyExclusion s) = base s := by
  simp [applyExclusion, apply_ite base, apply_ite Prod.snd]

@[simp] theorem base_steer (k) (s) : base (steer k s) = base s := by
  simp [steer, apply_ite base, apply_ite Prod.snd]

@[simp] theorem base_unthrottle (k) (s) : base (unthrottle k s) = base s := by
  simp [unthrottle, apply_ite base, apply_ite Prod.snd]

@[simp] theorem base_noteLimits (k) (s) : base (noteLimits k s) = base s := by
  simp [noteLimits, apply_ite base, apply_ite Prod.snd]

@[simp] theorem base_dutyStep (k) (s) : base (dutyStep k s) = base s := by
  unfold dutyStep
  (repeat' split) <;> simp [apply_ite base, apply_ite Prod.snd, *]

@[simp] theorem base_keeperBounds (s) : base (keeperBounds s) = base s := by
  simp [keeperBounds, apply_ite base, apply_ite Prod.snd]

@[simp] theorem base_drift (most) (r) (x) (s) : base (drift most r x s).2 = base s := by
  simp [drift, apply_ite base, apply_ite Prod.snd]

@[simp] theorem base_adaptLane (n) (s) : base (adaptLane n s) = base s := by
  simp [adaptLane, apply_ite base, apply_ite Prod.snd]

@[simp] theorem base_setKey (i) (k) (s) : base (setKey i k s) = base s := by
  simp [setKey, apply_ite base, apply_ite Prod.snd]

@[simp] theorem base_deriveKeys (s) : base (deriveKeys s) = base s := by
  simp [deriveKeys, apply_ite base, apply_ite Prod.snd]

@[simp] theorem base_setBank (b) (v) (s) : base (setBank b v s) = base s := by
  simp [setBank, apply_ite base, apply_ite Prod.snd]

@[simp] theorem base_modFuses (f s) (h : ∀ x, (f x).dbgLock = x.dbgLock) : base (modFuses f s) = base s := by
  simp [modFuses, h, Function.comp_def]

@[simp] theorem base_raiseRollback (svn s) : base (raiseRollback svn s) = base s := by
  unfold raiseRollback
  split <;> simp

@[simp] theorem base_setCal (b) (im) (s) : base (setCal b im s) = base s := by
  simp [setCal, apply_ite base, apply_ite Prod.snd]

@[simp] theorem base_checkSlots (s) : base (checkSlots s) = base s := by
  simp [checkSlots, apply_ite base, apply_ite Prod.snd]

@[simp] theorem base_startStore (body) (byCmd) (s) : base (startStore body byCmd s) = base s := by
  simp [startStore, apply_ite base, apply_ite Prod.snd]

@[simp] theorem base_importRead (data) (s) : base (importRead data s) = base s := by
  simp [importRead, apply_ite base, apply_ite Prod.snd]

@[simp] theorem base_startCapture (byCmd) (s) : base (startCapture byCmd s) = base s := by
  simp [startCapture, apply_ite base, apply_ite Prod.snd]

@[simp] theorem base_captureCmd (s) : base (captureCmd s) = base s := by
  simp [captureCmd, apply_ite base, apply_ite Prod.snd]

@[simp] theorem base_exportCmd (s) : base (exportCmd s) = base s := by
  unfold exportCmd
  (repeat' split) <;> simp [apply_ite base, apply_ite Prod.snd, *]

@[simp] theorem base_resetKeeper (s) : base (resetKeeper s) = base s := by
  simp [resetKeeper, apply_ite base, apply_ite Prod.snd]

@[simp] theorem base_restartKeeper (reason) (s) : base (restartKeeper reason s) = base s := by
  simp [restartKeeper, apply_ite base, apply_ite Prod.snd]

@[simp] theorem base_keeperRestart (s) : base (keeperRestart s) = base s := by
  simp [keeperRestart, apply_ite base, apply_ite Prod.snd]

@[simp] theorem base_flashFails (s) : base (flashFails s).2 = base s := by simp [flashFails]

@[simp] theorem base_endStore (c) (s) : base (endStore c s) = base s := by
  simp only [endStore]
  (repeat' split) <;> simp

@[simp] theorem base_fwEnd (cause) (s) : base (fwEnd cause s) = base s := by
  simp [fwEnd, apply_ite base, apply_ite Prod.snd]

@[simp] theorem base_runFirmware (b) (trial) (s) : base (runFirmware b trial s) = base s := by
  simp [runFirmware, apply_ite base, apply_ite Prod.snd]

@[simp] theorem base_bootKeeper (s) : base (bootKeeper s) = base s := by
  simp only [bootKeeper]
  (repeat' split) <;> simp [apply_ite base, apply_ite Prod.snd, *]

@[simp] theorem base_stageRead (data) (s) : base (stageRead data s) = base s := by
  simp [stageRead, apply_ite base, apply_ite Prod.snd]

@[simp] theorem base_stageStart (s) : base (stageStart s) = base s := by
  simp [stageStart, apply_ite base, apply_ite Prod.snd]

@[simp] theorem base_imageLost (s) : base (imageLost s) = base s := by
  simp [imageLost, apply_ite base, apply_ite Prod.snd]

@[simp] theorem base_activateBank (s) : base (activateBank s) = base s := by
  simp [activateBank, apply_ite base, apply_ite Prod.snd]

@[simp] theorem base_confirmBank (s) : base (confirmBank s) = base s := by
  simp [confirmBank, apply_ite base, apply_ite Prod.snd]

@[simp] theorem base_revertBank (s) : base (revertBank s) = base s := by
  simp [revertBank, apply_ite base, apply_ite Prod.snd]

@[simp] theorem base_revertCmd (s) : base (revertCmd s) = base s := by
  simp [revertCmd, apply_ite base, apply_ite Prod.snd]

end Sys2Proof.Laws
end

