-- ==== Sys2Proof/Laws/BaseOps5.lean ====
section
/-!
SUPPORT. Laws/BaseOps5.lean: one lemma for each operation of the files of Machine/ named here, saying that it leaves
    the base of the state alone (Walks, MemResp, Queues, Security, Reset, ConfigPort).
-/

namespace Sys2Proof.Laws

open Sys2Proof Sys2Proof.Machine

set_option Elab.async false
set_option linter.unnecessarySeqFocus false
set_option linter.unreachableTactic false
set_option linter.unusedTactic false
set_option linter.unusedSimpArgs false
set_option linter.unusedVariables false

@[simp] theorem base_startedBurst (port) (s) : base (startedBurst port s) = base s := by
  unfold startedBurst
  (repeat' split) <;>
      (try have := base_draw' (by assumption)) <;> simp [apply_ite base, apply_ite Prod.snd, *]

@[simp] theorem base_askCommand (s) : base (askCommand s) = base s := by
  simp [askCommand, apply_ite base, apply_ite Prod.snd]

@[simp] theorem base_discardPackets (key) (s) : base (discardPackets key s) = base s := by
  simp [discardPackets, apply_ite base, apply_ite Prod.snd]

@[simp] theorem base_forgetWrite (j) (s) : base (forgetWrite j s) = base s := by
  unfold forgetWrite
  (repeat' split) <;> simp [apply_ite base, apply_ite Prod.snd, *]

@[simp] theorem base_dropLocals (s) : base (dropLocals s) = base s := by
  unfold dropLocals
  dsimp only
  rw [base_each _ _ _ (fun _ _ => base_forgetWrite _ _), base_withdrawWrites,
    base_each _ _ _ (fun _ _ => by split <;> simp)]
  simp

@[simp] theorem base_askPrograms (s) : base (askPrograms s) = base s := by
  unfold askPrograms
  (repeat' split) <;> simp [apply_ite base, apply_ite Prod.snd, *]

@[simp] theorem base_askTemplates (t) (s) : base (askTemplates t s) = base s := by
  unfold askTemplates
  (repeat' split) <;> simp [apply_ite base, apply_ite Prod.snd, *]

@[simp] theorem base_dropFetches (q) (s) : base (dropFetches q s) = base s := by
  simp [dropFetches, apply_ite base, apply_ite Prod.snd]

@[simp] theorem base_imageHeader (w) (data) (bad) (s) : base (imageHeader w data bad s) = base s := by
  simp [imageHeader, apply_ite base, apply_ite Prod.snd]

@[simp] theorem base_forgetMaps (l) (s) : base (forgetMaps l s) = base s := by
  simp [forgetMaps, apply_ite base, apply_ite Prod.snd]

@[simp] theorem base_waiterFault (part) (wt) (s) : base (waiterFault part wt s) = base s := by
  unfold waiterFault
  (repeat' split) <;> simp [apply_ite base, apply_ite Prod.snd, *]

@[simp] theorem base_waiterGoes (wt) (s) : base (waiterGoes wt s) = base s := by
  simp only [waiterGoes]
  (repeat' split) <;> (try have := base_processTarget (by assumption)) <;>
      simp [apply_ite base, apply_ite Prod.snd, *]

@[simp] theorem base_rewait (w) (v) (ws) (s) : base (rewait w v ws s) = base s := by
  unfold rewait
  (repeat' split) <;> simp [apply_ite base, apply_ite Prod.snd, *]

@[simp] theorem base_finishInv (s) : base (finishInv s) = base s := by
  simp [finishInv, apply_ite base, apply_ite Prod.snd]

@[simp] theorem base_walkReports (v) (bad) (err) (s) : base (walkReports v bad err s) = base s := by
  unfold walkReports
  (repeat' split) <;> simp [apply_ite base, apply_ite Prod.snd, *]

@[simp] theorem base_serveWalk (w) (v) (e) (use) (s) : base (serveWalk w v e use s) = base s := by
  unfold serveWalk
  (repeat' split) <;> simp [apply_ite base, apply_ite Prod.snd, *]

@[simp] theorem base_endWalk (w) (v) (e) (bad) (err) (s) : base (endWalk w v e bad err s) = base s := by
  simp [endWalk, apply_ite base, apply_ite Prod.snd]

@[simp] theorem base_goWalk (w) (n) (v) (s) : base (goWalk w n v s) = base s := by
  unfold goWalk
  (repeat' split) <;> simp [apply_ite base, apply_ite Prod.snd, *]

@[simp] theorem base_walkReturn (r) (b) (s) : base (walkReturn r b s) = base s := by
  simp only [walkReturn]
  (repeat' split) <;> simp [apply_ite base, apply_ite Prod.snd, *]

@[simp] theorem base_restartWalk (w) (s) : base (restartWalk w s) = base s := by
  unfold restartWalk
  (repeat' split) <;> simp [apply_ite base, apply_ite Prod.snd, *]

@[simp] theorem base_invalidate (cmd) (part) (parts) (gone) (s) : base (invalidate cmd part parts gone s) = base s :=
    by
  simp [invalidate, apply_ite base, apply_ite Prod.snd]

@[simp] theorem base_invalidatePart (part) (s) : base (invalidatePart part s) = base s := by
  simp [invalidatePart, apply_ite base, apply_ite Prod.snd]

@[simp] theorem base_invOverrun (s) : base (invOverrun s) = base s := by
  simp [invOverrun, apply_ite base, apply_ite Prod.snd]

@[simp] theorem base_startPreload (part) (s) : base (startPreload part s) = base s := by
  simp [startPreload, apply_ite base, apply_ite Prod.snd]

@[simp] theorem base_invCommand (cmd) (part) (s) : base (invCommand cmd part s) = base s := by
  simp [invCommand, apply_ite base, apply_ite Prod.snd]

@[simp] theorem base_dirWrite (part) (v) (s) : base (dirWrite part v s) = base s := by
  simp [dirWrite, apply_ite base, apply_ite Prod.snd]

@[simp] theorem base_resendData (d) (second) (data) (s) : base (resendData d second data s) = base s := by
  simp only [resendData]
  (repeat' split) <;> simp [apply_ite base, apply_ite Prod.snd, *]

@[simp] theorem base_readDone (what) (data) (s) : base (readDone what data s) = base s := by
  unfold readDone
  (repeat' split) <;> simp [apply_ite base, apply_ite Prod.snd, *]

@[simp] theorem base_readBeat (r b s) : base (readBeat r b s) = base s := by
  unfold readBeat
  split
  · simp
  · split <;> rename_i h <;> have := base_readReturn' h <;> simp_all

@[simp] theorem base_destDone (d) (elem) (len) (bad) (s) : base (destDone d elem len bad s) = base s := by
  simp only [destDone]
  (repeat' split) <;> simp [apply_ite base, apply_ite Prod.snd, *]

@[simp] theorem base_ecmbLanded (o) (err) (s) : base (ecmbLanded o err s) = base s := by
  unfold ecmbLanded
  split
  · rfl
  · dsimp only
    (repeat' split) <;> simp

@[simp] theorem base_secDone (s) : base (secDone s) = base s := by
  simp [secDone, apply_ite base, apply_ite Prod.snd]

@[simp] theorem base_writeDone (j) (s) : base (writeDone j s) = base s := by
  simp only [writeDone]
  (repeat' split) <;> simp [apply_ite base, apply_ite Prod.snd, *]

@[simp] theorem base_writeBeat (r e s) : base (writeBeat r e s) = base s := by
  unfold writeBeat
  have h0 : base (if e = true then bump Reg.GEN_MEM_WERR_CNT s else s) = base s := by split <;> simp
  dsimp only
  split <;> rename_i h <;> have h1 := base_writeReturn' h
  · simp_all
  · split <;> split <;> simp_all

@[simp] theorem base_queueFresh (q) (s) : base (queueFresh q s) = base s := by
  simp [queueFresh, apply_ite base, apply_ite Prod.snd]

@[simp] theorem base_qCtlWrite (q) (v) (s) : base (qCtlWrite q v s) = base s := by
  simp [qCtlWrite, apply_ite base, apply_ite Prod.snd]

@[simp] theorem base_qSetup (a) (q) (v) (s) : base (qSetup a q v s) = base s := by
  simp [qSetup, apply_ite base, apply_ite Prod.snd]

@[simp] theorem base_sqTail (q) (v) (s) : base (sqTail q v s) = base s := by
  simp [sqTail, apply_ite base, apply_ite Prod.snd]

@[simp] theorem base_cqHead (q) (v) (s) : base (cqHead q v s) = base s := by
  simp [cqHead, apply_ite base, apply_ite Prod.snd]

@[simp] theorem base_cancelMask (q) (hi) (mask) (s) : base (cancelMask q hi mask s) = base s := by
  simp [cancelMask, apply_ite base, apply_ite Prod.snd]

@[simp] theorem base_rearmMask (q) (hi) (mask) (s) : base (rearmMask q hi mask s) = base s := by
  simp [rearmMask, apply_ite base, apply_ite Prod.snd]

@[simp] theorem base_fetchSlot (q) (i) (bytes) (bad) (s) : base (fetchSlot q i bytes bad s) = base s := by
  simp [fetchSlot, apply_ite base, apply_ite Prod.snd]

@[simp] theorem base_slotsReturn (q) (b) (s) : base (slotsReturn q b s) = base s := by
  unfold slotsReturn
  (repeat' split) <;>
      (try have := base_wholeBack' (by assumption)) <;> simp [apply_ite base, apply_ite Prod.snd, *]

@[simp] theorem base_pushToken (t) (token) (s) : base (pushToken t token s) = base s := by
  simp [pushToken, apply_ite base, apply_ite Prod.snd]

@[simp] theorem base_tqCtlWrite (v) (s) : base (tqCtlWrite v s) = base s := by
  simp [tqCtlWrite, apply_ite base, apply_ite Prod.snd]

@[simp] theorem base_templatesIn (t) (blob) (s) : base (templatesIn t blob s) = base s := by
  unfold templatesIn
  (repeat' split) <;> simp [apply_ite base, apply_ite Prod.snd, *]

@[simp] theorem base_templatesBack (blob) (s) : base (templatesBack blob s) = base s := by
  unfold templatesBack
  (repeat' split) <;>
      (try have := base_wholeBack' (by assumption)) <;> simp [apply_ite base, apply_ite Prod.snd, *]

@[simp] theorem base_tqBindWrite (v) (s) : base (tqBindWrite v s) = base s := by
  simp [tqBindWrite, apply_ite base, apply_ite Prod.snd]

@[simp] theorem base_chainRefused (slot) (cause) (s) : base (chainRefused slot cause s) = base s := by
  simp [chainRefused, apply_ite base, apply_ite Prod.snd]

@[simp] theorem base_chainCtlWrite (v) (s) : base (chainCtlWrite v s) = base s := by
  simp [chainCtlWrite, apply_ite base, apply_ite Prod.snd]

@[simp] theorem base_chainsIn (progs) (s) : base (chainsIn progs s) = base s := by
  simp only [chainsIn]
  (repeat' split) <;> simp [apply_ite base, apply_ite Prod.snd, *]

@[simp] theorem base_chainsBack (progs) (s) : base (chainsBack progs s) = base s := by
  unfold chainsBack
  (repeat' split) <;>
      (try have := base_wholeBack' (by assumption)) <;> simp [apply_ite base, apply_ite Prod.snd, *]

@[simp] theorem base_pipeRsvWrite (v) (s) : base (pipeRsvWrite v s) = base s := by
  simp [pipeRsvWrite, apply_ite base, apply_ite Prod.snd]

@[simp] theorem base_disableDesc (d) (s) : base (disableDesc d s) = base s := by
  unfold disableDesc
  (repeat' split) <;> simp [apply_ite base, apply_ite Prod.snd, *]

@[simp] theorem base_dropTargets (s) : base (dropTargets s) = base s := by
  unfold dropTargets
  exact base_foldl _ _ _ fun s j => by split <;> simp

@[simp] theorem base_dropReads (s) : base (dropReads s) = base s := by
  simp [dropReads, apply_ite base, apply_ite Prod.snd]

@[simp] theorem base_masterClear (s) : base (masterClear s) = base s := by
  simp [masterClear, apply_ite base, apply_ite Prod.snd]

@[simp] theorem base_quarantineTags (l s) : base (quarantineTags l s) = base s := by
  unfold quarantineTags
  exact base_each _ _ _ fun t s => by split <;> simp

@[simp] theorem base_disabledRecord (d) (s) : base (disabledRecord d s) = base s := by
  unfold disabledRecord
  (repeat' split) <;> simp [apply_ite base, apply_ite Prod.snd, *]

@[simp] theorem base_flushDisabled (s) : base (flushDisabled s) = base s := by
  simp [flushDisabled, apply_ite base, apply_ite Prod.snd]

@[simp] theorem base_masterSet (s) : base (masterSet s) = base s := by
  simp [masterSet, apply_ite base, apply_ite Prod.snd]

@[simp] theorem base_zeroize (i) (s) : base (zeroize i s) = base s := by
  unfold zeroize
  (repeat' split) <;> simp [apply_ite base, apply_ite Prod.snd, *]

@[simp] theorem base_dikSign (msg) (s) : base (dikSign msg s).2 = base s := by
  simp [dikSign, apply_ite base, apply_ite Prod.snd]

@[simp] theorem base_partOverrun (s) : base (partOverrun s) = base s := by
  simp [partOverrun, apply_ite base, apply_ite Prod.snd]

@[simp] theorem base_partEnable (p) (s) : base (partEnable p s) = base s := by
  simp [partEnable, apply_ite base, apply_ite Prod.snd]

@[simp] theorem base_quarantineKey (k) (s) : base (quarantineKey k s) = base s := by
  simp [quarantineKey, apply_ite base, apply_ite Prod.snd]

@[simp] theorem base_closeChan (c) (s) : base (closeChan c s) = base s := by
  simp [closeChan, apply_ite base, apply_ite Prod.snd]

@[simp] theorem base_closeChans (p) (s) : base (closeChans p s) = base s := by
  simp [closeChans, apply_ite base, apply_ite Prod.snd]

@[simp] theorem base_discardDesc (d) (s) : base (discardDesc d s) = base s := by
  unfold discardDesc
  (repeat' split) <;> simp [apply_ite base, apply_ite Prod.snd, *]

@[simp] theorem base_restartFences (before) (s) : base (restartFences before s) = base s := by
  simp [restartFences, apply_ite base, apply_ite Prod.snd]

@[simp] theorem base_discardAccesses (p) (s) : base (discardAccesses p s) = base s := by
  unfold discardAccesses
  dsimp only
  rw [base_restartFences]
  simp

@[simp] theorem base_dropArrived (key) (s) : base (dropArrived key s) = base s := by
  simp [dropArrived, apply_ite base, apply_ite Prod.snd]

@[simp] theorem base_discardWork (keep) (p) (s) : base (discardWork keep p s) = base s := by
  simp [discardWork, apply_ite base, apply_ite Prod.snd]

@[simp] theorem base_dropTranslations (p) (s) : base (dropTranslations p s) = base s := by
  simp [dropTranslations, apply_ite base, apply_ite Prod.snd]

@[simp] theorem base_tearDown (keep) (p) (s) : base (tearDown keep p s) = base s := by
  simp [tearDown, apply_ite base, apply_ite Prod.snd]

@[simp] theorem base_clearCaptures (part) (key) (chan) (queue) (s) : base (clearCaptures part key chan queue s) =
    base s := by
  simp [clearCaptures, apply_ite base, apply_ite Prod.snd]

@[simp] theorem base_clearTemplates (t) (s) : base (clearTemplates t s) = base s := by
  simp [clearTemplates, apply_ite base, apply_ite Prod.snd]

@[simp] theorem base_scrubPart (p) (s) : base (scrubPart p s) = base s := by
  simp [scrubPart, apply_ite base, apply_ite Prod.snd]

@[simp] theorem base_freePart (p) (s) : base (freePart p s) = base s := by
  simp [freePart, apply_ite base, apply_ite Prod.snd]

@[simp] theorem base_partTeardown (p) (s) : base (partTeardown p s) = base s := by
  simp [partTeardown, apply_ite base, apply_ite Prod.snd]

@[simp] theorem base_partCtlWrite (v) (s) : base (partCtlWrite v s) = base s := by
  simp [partCtlWrite, apply_ite base, apply_ite Prod.snd]

@[simp] theorem base_startScrub (keep) (s) : base (startScrub keep s) = base s := by
  simp [startScrub, apply_ite base, apply_ite Prod.snd]

@[simp] theorem base_scrubWrite (s) : base (scrubWrite s) = base s := by
  simp [scrubWrite, apply_ite base, apply_ite Prod.snd]

@[simp] theorem base_endScrub (s) : base (endScrub s) = base s := by
  simp [endScrub, apply_ite base, apply_ite Prod.snd]

@[simp] theorem base_secGo (s) : base (secGo s) = base s := by
  simp [secGo, apply_ite base, apply_ite Prod.snd]

@[simp] theorem base_setTap (t) (i) (s) : base (setTap t i s) = base s := by
  simp [setTap, apply_ite base, apply_ite Prod.snd]

@[simp] theorem base_startOpening (s) : base (startOpening s) = base s := by
  simp [startOpening, apply_ite base, apply_ite Prod.snd]

@[simp] theorem base_resetLinks (soft) (s) : base (resetLinks soft s) = base s := by
  simp [resetLinks, apply_ite base, apply_ite Prod.snd]

@[simp] theorem base_resetKeeperIsland (s) : base (resetKeeperIsland s) = base s := by
  simp [resetKeeperIsland, apply_ite base, apply_ite Prod.snd]

@[simp] theorem base_pulse (width) (s) : base (pulse width s).2 = base s := by
  simp [pulse, apply_ite base, apply_ite Prod.snd]

@[simp] theorem base_moveCorePll (s) : base (moveCorePll s) = base s := by
  unfold moveCorePll modRst
  dsimp only
  split <;> simp

@[simp] theorem base_leaveLostRef (s) : base (leaveLostRef s) = base s := by
  unfold leaveLostRef
  (repeat' split) <;> simp [apply_ite base, apply_ite Prod.snd, *]

@[simp] theorem base_loseLock (k) (s) : base (loseLock k s) = base s := by
  simp [loseLock, apply_ite base, apply_ite Prod.snd]

@[simp] theorem base_coreMhzWrite (v) (s) : base (coreMhzWrite v s) = base s := by
  simp [coreMhzWrite, apply_ite base, apply_ite Prod.snd]

@[simp] theorem base_takeSample (r) (s) : base (takeSample r s) = base s := by simp [takeSample, modRst]

@[simp] theorem base_checkTile (k) (s) : base (checkTile k s) = base s := by
  simp [checkTile, apply_ite base, apply_ite Prod.snd]

@[simp] theorem base_setCfg (st) (cause) (entry) (s) : base (setCfg st cause entry s) = base s := by
  simp [setCfg, apply_ite base, apply_ite Prod.snd]

@[simp] theorem base_refuseImage (cause) (entry) (s) : base (refuseImage cause entry s) = base s := by
  simp [refuseImage, apply_ite base, apply_ite Prod.snd]

@[simp] theorem base_cfgLoaded (s) : base (cfgLoaded s) = base s := by
  simp [cfgLoaded, apply_ite base, apply_ite Prod.snd]

@[simp] theorem base_cfgLoad (s) : base (cfgLoad s) = base s := by
  simp [cfgLoad, apply_ite base, apply_ite Prod.snd]

@[simp] theorem base_cfgDirect (s) : base (cfgDirect s) = base s := by
  unfold cfgDirect
  split
  · simp
  · split <;> simp [base_modSec]

@[simp] theorem base_windlassWrite (i) (v) (s) : base (windlassWrite i v s) = base s := by
  simp [windlassWrite, apply_ite base, apply_ite Prod.snd]

@[simp] theorem base_winCtlWrite (v) (s) : base (winCtlWrite v s) = base s := by
  simp [winCtlWrite, apply_ite base, apply_ite Prod.snd]

@[simp] theorem base_writeGen (a) (v) (s) : base (writeGen a v s) = base s := by
  simp [writeGen, apply_ite base, apply_ite Prod.snd]

@[simp] theorem base_writeFab (a) (v) (s) : base (writeFab a v s) = base s := by
  simp [writeFab, apply_ite base, apply_ite Prod.snd]

@[simp] theorem base_writeXlt (a) (v) (s) : base (writeXlt a v s) = base s := by
  simp [writeXlt, apply_ite base, apply_ite Prod.snd]

@[simp] theorem base_writeImp (a) (v) (s) : base (writeImp a v s) = base s := by
  simp [writeImp, apply_ite base, apply_ite Prod.snd]

@[simp] theorem base_writeSec (a) (v) (s) : base (writeSec a v s) = base s := by
  simp [writeSec, apply_ite base, apply_ite Prod.snd]

@[simp] theorem base_calCommand (cmd) (s) : base (calCommand cmd s) = base s := by
  simp [calCommand, apply_ite base, apply_ite Prod.snd]

@[simp] theorem base_confirmCmd (s) : base (confirmCmd s) = base s := by
  simp [confirmCmd, apply_ite base]

@[simp] theorem base_fwCommand (cmd) (s) : base (fwCommand cmd s) = base s := by
  simp [fwCommand, apply_ite base, apply_ite Prod.snd]

@[simp] theorem base_writeMgt (a) (v) (s) : base (writeMgt a v s) = base s := by
  simp [writeMgt, apply_ite base, apply_ite Prod.snd]

@[simp] theorem base_writeQueue (q) (a) (v) (s) : base (writeQueue q a v s) = base s := by
  simp [writeQueue, apply_ite base, apply_ite Prod.snd]

@[simp] theorem base_writeLink (k) (a) (v) (s) : base (writeLink k a v s) = base s := by
  simp [writeLink, apply_ite base, apply_ite Prod.snd]

@[simp] theorem base_writeLane (n) (a) (v) (s) : base (writeLane n a v s) = base s := by
  simp [writeLane, apply_ite base, apply_ite Prod.snd]

@[simp] theorem base_stageUpper (a) (v) (s) : base (stageUpper a v s) = base s := by
  unfold stageUpper
  dsimp only
  split
  · exact base_onTile _ _ _ (by simp)
  · simp

@[simp] theorem base_configRead (addr) (s) : base (configRead addr s) = base s := by
  unfold configRead
  (repeat' split) <;> simp [apply_ite base, apply_ite Prod.snd, *]

end Sys2Proof.Laws
end

