-- ==== Sys2Proof/Laws/BaseCmd.lean ====
section
/-!
SUPPORT. Laws/BaseCmd.lean: one lemma for each command's meaning that leaves the base of the state alone. The
commands without a lemma here are those of resets, the release, fuses, the keeper's watchdog and debug access.
-/

namespace Sys2Proof.Laws

open Sys2Proof Sys2Proof.Machine

set_option Elab.async false
set_option linter.unnecessarySeqFocus false
set_option linter.unreachableTactic false
set_option linter.unusedTactic false
set_option linter.unusedSimpArgs false

@[simp] theorem base_secFail (r s) : base (secFail r s).2.2 = base s := by simp [secFail]

@[simp] theorem base_secAnswer (r : SecResult) : base (secAnswer r) = base r.2.2 := by simp [secAnswer]

theorem base_answerCmd (code part closed b) (run : State → State) (failed : State → SecResult) (s)
    (h1 : ∀ s, base (run s) = base s) (h2 : ∀ s, base (failed s).2.2 = base s) :
    base (answerCmd code part closed b run failed s) = base s := by
  unfold answerCmd
  (repeat' split) <;> simp [h1, h2]

theorem base_runSecCmd (code part closed b) (run : State → State) (failed : State → SecResult) (s)
    (h1 : ∀ s, base (run s) = base s) (h2 : ∀ s, base (failed s).2.2 = base s) :
    base (runSecCmd code part closed b run failed s) = base s := by
  unfold runSecCmd
  refine base_wholeCommand _ _ _ ?_
  split
  · rfl
  · split <;> rename_i h <;> have h0 := base_wholeBack' h
    · simp [h0]
    · rw [base_answerCmd _ _ _ _ _ _ _ h1 h2, h0]
    · exact h0

@[simp] theorem base_askArgument (len block s) : base (askArgument len block s) = base s := by simp [askArgument]

theorem base_runArgCmd (code part closed len b arg) (run : Blob → Blob → State → SecResult) (s)
    (h1 : ∀ b a s, base (run b a s).2.2 = base s) :
    base (runArgCmd code part closed len b arg run s) = base s := by
  unfold runArgCmd
  split
  · exact base_runSecCmd _ _ _ _ _ _ _ (fun s => by simp) (fun s => by simp [noFail])
  · refine base_wholeCommand _ _ _ ?_
    split
    · rfl
    · split <;> rename_i h <;> have h0 := base_wholeBack' h
      · simp [h0]
      · rw [base_answerCmd _ _ _ _ _ _ _ (fun s => by simp [h1]) (fun s => by simp [noFail]),
          base_modSec _ _ rfl rfl rfl, h0]
      · exact h0

theorem base_control (k ty p) (f : State → State) (s) (h : ∀ s, base (f s) = base s) :
    base (onControl k ty p f s) = base s := by
  rw [base_onControl]
  split
  · dsimp only; split <;> simp [h]
  · rfl

/-- A write of any register but RST_CTL. -/
theorem base_portWrite (a v s) (ha : a ≠ Reg.RST_CTL) : base (portWrite a v s) = base s := by
  unfold portWrite
  split
  · refine base_onlyIf _ _ _ ?_
    unfold writeRst
    rw [if_neg ha]
    split <;> simp
  · (repeat' split) <;> simp [base_onTile]

theorem base_configWrite (addr v s) (ha : ∀ d a w, findReg addr = some (d, a, w) → a ≠ Reg.RST_CTL) :
    base (configWrite addr v s) = base s := by
  unfold configWrite
  split
  · rfl
  · rename_i d a w h
    (repeat' split) <;> simp [base_portWrite _ _ _ (ha d a w h)]

theorem base_modRst (f : ResetUnit → ResetUnit) (s : State) (h : ∀ r, ({ f r with refOk := r.refOk, pllInput := r.pllInput, sensors := r.sensors } : ResetUnit) = r) :
    base (modRst f s) = base s := by
  have e := h s.rst
  have : base (modRst f s) = base { s with rst := { f s.rst with refOk := s.rst.refOk, pllInput := s.rst.pllInput, sensors := s.rst.sensors } } := by
    simp [modRst]
  rw [this, e]

theorem base_execResetBurstTimeout {port} {s t : State} (h : execResetBurstTimeout port s = .next t) :
    base t = base s := by
  injection h with h; subst h
  refine base_onlyIf _ _ _ ?_
  simp [modRst]

theorem base_execKeeperRestart {s t : State} (h : execKeeperRestart s = .next t) : base t = base s := by
  unfold execKeeperRestart at h
  (repeat' split at h) <;> (injection h with h; subst h) <;> (try split) <;> simp [apply_ite base]

theorem base_execRefInputLoss {g} {s t : State} (h : execRefInputLoss g s = .next t) : base t = base s := by
  injection h with h; subst h
  refine base_onlyIf _ _ _ ?_
  dsimp only
  generalize hm : modRst _ s = s1
  have e1 : base s1 = base s := by rw [← hm]; exact base_modRst _ _ fun _ => rfl
  rw [← e1]; clear hm e1
  generalize hm : (if s1.rst.pllInput = some g.val && !s1.rst.porLow then moveCorePll s1 else s1) = s2
  have e1 : base s2 = base s1 := by rw [← hm]; split <;> simp
  rw [← e1]; clear hm e1
  split <;> simp

theorem base_execRefInputReturn {g} {s t : State} (h : execRefInputReturn g s = .next t) : base t = base s := by
  injection h with h; subst h
  dsimp only
  split
  · exact (base_modRst (fun x => { x with pllInput := lowestRef x.refOk }) _ fun _ => rfl).trans
      (base_modRst (fun x => { x with refOk := x.refOk ||| (1#9 <<< g.val) }) _ fun _ => rfl)
  · exact base_modRst _ _ fun _ => rfl

theorem base_execCoreMhzWrite {v} {s t : State} (h : execCoreMhzWrite v s = .next t) : base t = base s := by
  unfold execCoreMhzWrite at h
  (repeat' split at h) <;> (injection h with h; subst h) <;> (try split) <;> simp [apply_ite base]

theorem base_execCoreClockStep {s t : State} (h : execCoreClockStep s = .next t) : base t = base s := by
  unfold execCoreClockStep at h
  (repeat' split at h) <;> (injection h with h; subst h) <;> (try split) <;> simp [apply_ite base]

theorem base_execVcoreSample {mv} {s t : State} (h : execVcoreSample mv s = .next t) : base t = base s := by
  injection h with h; subst h
  refine base_onlyIf _ _ _ ?_
  dsimp only
  split <;> simp

theorem base_execSensorSample {r} {s t : State} (h : execSensorSample r s = .next t) : base t = base s := by
  injection h with h; subst h
  refine base_onlyIf _ _ _ ?_
  dsimp only
  split <;> simp

theorem base_execKeeperThrottle {tile} {s t : State} (h : execKeeperThrottle tile s = .next t) : base t = base s := by
  unfold execKeeperThrottle at h
  (repeat' split at h) <;> (injection h with h; subst h) <;> (try split) <;> simp [apply_ite base]

theorem base_execThrottleDutyStep {tile} {s t : State} (h : execThrottleDutyStep tile s = .next t) :
    base t = base s := by
  unfold execThrottleDutyStep at h
  (repeat' split at h) <;> (injection h with h; subst h) <;> (try split) <;> simp [apply_ite base]

theorem base_execEccError {array} {index} {correctable} {s t : State} (h : execEccError array index correctable s = .next t) :
    base t = base s := by
  unfold execEccError at h
  (repeat' split at h) <;> (injection h with h; subst h) <;> (try split) <;> simp [apply_ite base]

theorem base_execReg64UpperWrite {addr} {v} {s t : State} (h : execReg64UpperWrite addr v s = .next t) :
    base t = base s := by
  unfold execReg64UpperWrite at h
  (repeat' split at h) <;> (injection h with h; subst h) <;> (try split) <;> simp [apply_ite base]

theorem base_execReg64LowerRead {addr} {s t : State} (h : execReg64LowerRead addr s = .next t) : base t = base s := by
  unfold execReg64LowerRead at h
  (repeat' split at h) <;> (injection h with h; subst h) <;> (try split) <;> simp [apply_ite base]

theorem base_execUnimplementedRead {addr} {s t : State} (h : execUnimplementedRead addr s = .next t) :
    base t = base s := by
  unfold execUnimplementedRead at h
  (repeat' split at h) <;> (injection h with h; subst h) <;> (try split) <;> simp [apply_ite base]

theorem base_execMasterEnClear {s t : State} (h : execMasterEnClear s = .next t) : base t = base s := by
  unfold execMasterEnClear at h
  (repeat' split at h) <;> (injection h with h; subst h) <;> (try split) <;> simp [apply_ite base]

theorem base_execMasterEnSet {s t : State} (h : execMasterEnSet s = .next t) : base t = base s := by
  unfold execMasterEnSet at h
  (repeat' split at h) <;> (injection h with h; subst h) <;> (try split) <;> simp [apply_ite base]

theorem base_execCfgLoad {s t : State} (h : execCfgLoad s = .next t) : base t = base s := by
  unfold execCfgLoad at h
  (repeat' split at h) <;> (injection h with h; subst h) <;> (try split) <;> simp [apply_ite base]

theorem base_execCfgDirect {s t : State} (h : execCfgDirect s = .next t) : base t = base s := by
  unfold execCfgDirect at h
  (repeat' split at h) <;> (injection h with h; subst h) <;> (try split) <;> simp [apply_ite base]

theorem base_execCfgImageReadTimeout {s t : State} (h : execCfgImageReadTimeout s = .next t) : base t = base s := by
  unfold execCfgImageReadTimeout at h
  (repeat' split at h) <;> (injection h with h; subst h) <;> (try split) <;> simp [apply_ite base]

theorem base_execWinReset {win} {s t : State} (h : execWinReset win s = .next t) : base t = base s := by
  unfold execWinReset at h
  (repeat' split at h) <;> (injection h with h; subst h) <;> (try split) <;> simp [apply_ite base]

theorem base_execQEnable {q} {v} {s t : State} (h : execQEnable q v s = .next t) : base t = base s := by
  unfold execQEnable at h
  (repeat' split at h) <;> (injection h with h; subst h) <;> (try split) <;> simp [apply_ite base]

theorem base_execQDisable {q} {v} {s t : State} (h : execQDisable q v s = .next t) : base t = base s := by
  unfold execQDisable at h
  (repeat' split at h) <;> (injection h with h; subst h) <;> (try split) <;> simp [apply_ite base]

theorem base_execSqTail {q} {v} {s t : State} (h : execSqTail q v s = .next t) : base t = base s := by
  unfold execSqTail at h
  (repeat' split at h) <;> (injection h with h; subst h) <;> (try split) <;> simp [apply_ite base]

theorem base_execCqHead {q} {v} {s t : State} (h : execCqHead q v s = .next t) : base t = base s := by
  unfold execCqHead at h
  (repeat' split at h) <;> (injection h with h; subst h) <;> (try split) <;> simp [apply_ite base]

theorem base_execCancel {q} {hi} {mask} {s t : State} (h : execCancel q hi mask s = .next t) : base t = base s := by
  unfold execCancel at h
  (repeat' split at h) <;> (injection h with h; subst h) <;> (try split) <;> simp [apply_ite base]

theorem base_execRearm {q} {hi} {mask} {s t : State} (h : execRearm q hi mask s = .next t) : base t = base s := by
  unfold execRearm at h
  (repeat' split at h) <;> (injection h with h; subst h) <;> (try split) <;> simp [apply_ite base]

theorem base_execDescriptorFetch {q} {beat} {s t : State} (h : execDescriptorFetch q beat s = .next t) :
    base t = base s := by
  unfold execDescriptorFetch at h
  (repeat' split at h) <;> (injection h with h; subst h) <;> (try split) <;> simp [apply_ite base]

theorem base_execDescriptorStart {s t : State} (h : execDescriptorStart s = .next t) : base t = base s := by
  unfold execDescriptorStart at h
  (repeat' split at h) <;> (injection h with h; subst h) <;> (try split) <;> simp [apply_ite base]

theorem base_execWriteCompletionRecord {d} {s t : State} (h : execWriteCompletionRecord d s = .next t) :
    base t = base s := by
  unfold execWriteCompletionRecord at h
  (repeat' split at h) <;> (injection h with h; subst h) <;> (try split) <;> simp [apply_ite base]

theorem base_execTileTokenPush {t token} {s u : State} (h : execTileTokenPush t token s = .next u) :
    base u = base s := by
  injection h with h; subst h; simp

theorem base_execTileTokenStart {t} {s u : State} (h : execTileTokenStart t s = .next u) : base u = base s := by
  injection h with h; subst h; simp

theorem base_execTqTemplateLoad {v} {s t : State} (h : execTqTemplateLoad v s = .next t) : base t = base s := by
  unfold execTqTemplateLoad at h
  (repeat' split at h) <;> (injection h with h; subst h) <;> (try split) <;> simp [apply_ite base]

theorem base_execTqTemplateLoadDone {blob} {s t : State} (h : execTqTemplateLoadDone blob s = .next t) :
    base t = base s := by
  unfold execTqTemplateLoadDone at h
  (repeat' split at h) <;> (injection h with h; subst h) <;> (try split) <;> simp [apply_ite base]

theorem base_execMemReadResponse {port} {id} {beat} {s t : State} (h : execMemReadResponse port id beat s = .next t) :
    base t = base s := by
  unfold execMemReadResponse at h
  (repeat' split at h) <;> (injection h with h; subst h) <;> (try split) <;> simp [apply_ite base]

theorem base_execMemWriteResponse {port} {id} {err} {s t : State} (h : execMemWriteResponse port id err s = .next t) :
    base t = base s := by
  unfold execMemWriteResponse at h
  (repeat' split at h) <;> (injection h with h; subst h) <;> (try split) <;> simp [apply_ite base]

theorem base_execAtomicUnitIssue {op} {s t : State} (h : execAtomicUnitIssue op s = .next t) : base t = base s := by
  unfold execAtomicUnitIssue at h
  (repeat' split at h) <;> (injection h with h; subst h) <;> (try split) <;> simp [apply_ite base]

theorem base_execRdReceive {p} {s t : State} (h : execRdReceive p s = .next t) : base t = base s := by
  unfold execRdReceive at h
  (repeat' split at h) <;> (injection h with h; subst h) <;> (try split) <;> simp [apply_ite base]

theorem base_execGrdReceive {p} {s t : State} (h : execGrdReceive p s = .next t) : base t = base s := by
  unfold execGrdReceive at h
  (repeat' split at h) <;> (injection h with h; subst h) <;> (try split) <;> simp [apply_ite base]

theorem base_execWrReceive {p} {s t : State} (h : execWrReceive p s = .next t) : base t = base s := by
  unfold execWrReceive at h
  (repeat' split at h) <;> (injection h with h; subst h) <;> (try split) <;> simp [apply_ite base]

theorem base_execMsgReceive {p} {s t : State} (h : execMsgReceive p s = .next t) : base t = base s := by
  unfold execMsgReceive at h
  (repeat' split at h) <;> (injection h with h; subst h) <;> (try split) <;> simp [apply_ite base]

theorem base_execAtomReceive {p} {s t : State} (h : execAtomReceive p s = .next t) : base t = base s := by
  unfold execAtomReceive at h
  (repeat' split at h) <;> (injection h with h; subst h) <;> (try split) <;> simp [apply_ite base]

theorem base_execVaccReceive {p} {s t : State} (h : execVaccReceive p s = .next t) : base t = base s := by
  unfold execVaccReceive at h
  (repeat' split at h) <;> (injection h with h; subst h) <;> (try split) <;> simp [apply_ite base]

theorem base_execUnknownTypeReceive {p} {s t : State} (h : execUnknownTypeReceive p s = .next t) :
    base t = base s := by
  unfold execUnknownTypeReceive at h
  (repeat' split at h) <;> (injection h with h; subst h) <;> (try split) <;> simp [apply_ite base]

theorem base_execRdrReceive {p} {s t : State} (h : execRdrReceive p s = .next t) : base t = base s := by
  unfold execRdrReceive at h
  (repeat' split at h) <;> (injection h with h; subst h) <;> (try split) <;> simp [apply_ite base]

theorem base_execAtomrReceive {p} {s t : State} (h : execAtomrReceive p s = .next t) : base t = base s := by
  unfold execAtomrReceive at h
  (repeat' split at h) <;> (injection h with h; subst h) <;> (try split) <;> simp [apply_ite base]

theorem base_execLackReceive {p} {s t : State} (h : execLackReceive p s = .next t) : base t = base s := by
  unfold execLackReceive at h
  (repeat' split at h) <;> (injection h with h; subst h) <;> (try split) <;> simp [apply_ite base]

theorem base_execHoldFullResend {d} {s t : State} (h : execHoldFullResend d s = .next t) : base t = base s := by
  unfold execHoldFullResend at h
  (repeat' split at h) <;> (injection h with h; subst h) <;> (try split) <;> simp [apply_ite base]

theorem base_execHoldTimeout {h} {s t : State} (h : execHoldTimeout h s = .next t) : base t = base s := by
  unfold execHoldTimeout at h
  (repeat' split at h) <;> (injection h with h; subst h) <;> (try split) <;> simp [apply_ite base]

theorem base_execLackCoalesceTimeout {node} {pkey} {vc7} {s t : State} (h : execLackCoalesceTimeout node pkey vc7 s = .next t) :
    base t = base s := by
  unfold execLackCoalesceTimeout at h
  (repeat' split at h) <;> (injection h with h; subst h) <;> (try split) <;> simp [apply_ite base]

theorem base_execOperationTimeout {tag} {s t : State} (h : execOperationTimeout tag s = .next t) :
    base t = base s := by
  injection h with h; subst h
  dsimp only
  (repeat' split) <;> simp

theorem base_execTagQuarantineEnd {tag} {s t : State} (h : execTagQuarantineEnd tag s = .next t) :
    base t = base s := by
  unfold execTagQuarantineEnd at h
  (repeat' split at h) <;> (injection h with h; subst h) <;> (try split) <;> simp [apply_ite base]

theorem base_execWalkReadReturn {port} {id} {beat} {s t : State} (h : execWalkReadReturn port id beat s = .next t) :
    base t = base s := by
  unfold execWalkReadReturn at h
  (repeat' split at h) <;> (injection h with h; subst h) <;> (try split) <;> simp [apply_ite base]

theorem base_execInvRange {part} {s t : State} (h : execInvRange part s = .next t) : base t = base s := by
  unfold execInvRange at h
  (repeat' split at h) <;> (injection h with h; subst h) <;> (try split) <;> simp [apply_ite base]

theorem base_execInvPart {part} {s t : State} (h : execInvPart part s = .next t) : base t = base s := by
  unfold execInvPart at h
  (repeat' split at h) <;> (injection h with h; subst h) <;> (try split) <;> simp [apply_ite base]

theorem base_execInvAll {s t : State} (h : execInvAll s = .next t) : base t = base s := by
  unfold execInvAll at h
  (repeat' split at h) <;> (injection h with h; subst h) <;> (try split) <;> simp [apply_ite base]

theorem base_execPreload {part} {s t : State} (h : execPreload part s = .next t) : base t = base s := by
  unfold execPreload at h
  (repeat' split at h) <;> (injection h with h; subst h) <;> (try split) <;> simp [apply_ite base]

theorem base_execInvDrainComplete {s t : State} (h : execInvDrainComplete s = .next t) : base t = base s := by
  unfold execInvDrainComplete at h
  (repeat' split at h) <;> (injection h with h; subst h) <;> (try split) <;> simp [apply_ite base]

theorem base_execChainLoad {v} {s t : State} (h : execChainLoad v s = .next t) : base t = base s := by
  unfold execChainLoad at h
  (repeat' split at h) <;> (injection h with h; subst h) <;> (try split) <;> simp [apply_ite base]

theorem base_execChainLoadDone {programs} {s t : State} (h : execChainLoadDone programs s = .next t) :
    base t = base s := by
  unfold execChainLoadDone at h
  (repeat' split at h) <;> (injection h with h; subst h) <;> (try split) <;> simp [apply_ite base]

theorem base_execPipeRsvWrite {v} {s t : State} (h : execPipeRsvWrite v s = .next t) : base t = base s := by
  unfold execPipeRsvWrite at h
  (repeat' split at h) <;> (injection h with h; subst h) <;> (try split) <;> simp [apply_ite base]

theorem base_execPipeBind {s t : State} (h : execPipeBind s = .next t) : base t = base s := by
  unfold execPipeBind at h
  (repeat' split at h) <;> (injection h with h; subst h) <;> (try split) <;> simp [apply_ite base]

theorem base_execCjoinReceive {p} {s t : State} (h : execCjoinReceive p s = .next t) : base t = base s := by
  injection h with h; subst h; exact base_collPacketIn _ _ _ _ fun s => by simp

theorem base_execCdataReceive {p} {s t : State} (h : execCdataReceive p s = .next t) : base t = base s := by
  injection h with h; subst h; exact base_collPacketIn _ _ _ _ fun s => by simp

theorem base_execCabortReceive {p} {s t : State} (h : execCabortReceive p s = .next t) : base t = base s := by
  injection h with h; subst h; exact base_collPacketIn _ _ _ _ fun s => by simp

theorem base_execCollectiveStep {d} {s t : State} (h : execCollectiveStep d s = .next t) : base t = base s := by
  unfold execCollectiveStep at h
  (repeat' split at h) <;> (injection h with h; subst h) <;> (try split) <;> simp [apply_ite base]

theorem base_execEdspReceive {p} {s t : State} (h : execEdspReceive p s = .next t) : base t = base s := by
  injection h with h; subst h; exact base_collPacketIn _ _ _ _ fun s => by simp

theorem base_execEcmbReceive {p} {s t : State} (h : execEcmbReceive p s = .next t) : base t = base s := by
  unfold execEcmbReceive at h
  (repeat' split at h) <;> (injection h with h; subst h) <;> (try split) <;> simp [apply_ite base]

theorem base_execEtallyReceive {p} {s t : State} (h : execEtallyReceive p s = .next t) : base t = base s := by
  injection h with h; subst h; exact base_collPacketIn _ _ _ _ fun s => by simp

theorem base_execPrdrReceive {p} {s t : State} (h : execPrdrReceive p s = .next t) : base t = base s := by
  injection h with h; subst h; exact base_collPacketIn _ _ _ _ fun s => by split <;> simp

theorem base_execResumeChunk {d} {s t : State} (h : execResumeChunk d s = .next t) : base t = base s := by
  unfold execResumeChunk at h
  (repeat' split at h) <;> (injection h with h; subst h) <;> (try split) <;> simp [apply_ite base]

theorem base_execExpertTableLoad {v} {s t : State} (h : execExpertTableLoad v s = .next t) : base t = base s := by
  unfold execExpertTableLoad at h
  (repeat' split at h) <;> (injection h with h; subst h) <;> (try split) <;> simp [apply_ite base]

theorem base_execExpertTableLoadDone {blob} {s t : State} (h : execExpertTableLoadDone blob s = .next t) :
    base t = base s := by
  injection h with h; subst h
  refine base_wholeCommand _ _ _ ?_
  split <;> rename_i h <;> have h0 := base_wholeBack' h <;> simp [h0]

theorem base_execRoutePacket {src} {s t : State} (h : execRoutePacket src s = .next t) : base t = base s := by
  unfold execRoutePacket at h
  (repeat' split at h) <;> (injection h with h; subst h) <;> (try split) <;> simp [apply_ite base]

theorem base_execEscWaitExpiry {src} {s t : State} (h : execEscWaitExpiry src s = .next t) : base t = base s := by
  unfold execEscWaitExpiry at h
  (repeat' split at h) <;> (injection h with h; subst h) <;> (try split) <;> simp [apply_ite base]

theorem base_execOutputStallTimeout {port} {vc} {s t : State} (h : execOutputStallTimeout port vc s = .next t) :
    base t = base s := by
  unfold execOutputStallTimeout at h
  (repeat' split at h) <;> (injection h with h; subst h) <;> (try split) <;> simp [apply_ite base]

theorem base_execSumpDstWrite {i} {v} {s t : State} (h : execSumpDstWrite i v s = .next t) : base t = base s := by
  unfold execSumpDstWrite at h
  (repeat' split at h) <;> (injection h with h; subst h) <;> (try split) <;> simp [apply_ite base]

theorem base_execRouteTableWrite {b} {d} {v} {s t : State} (h : execRouteTableWrite b d v s = .next t) :
    base t = base s := by
  unfold execRouteTableWrite at h
  (repeat' split at h) <;> (injection h with h; subst h) <;> (try split) <;> simp [apply_ite base]

theorem base_execEpochInjWrite {b} {s t : State} (h : execEpochInjWrite b s = .next t) : base t = base s := by
  unfold execEpochInjWrite at h
  (repeat' split at h) <;> (injection h with h; subst h) <;> (try split) <;> simp [apply_ite base]

theorem base_execEpochClear {b} {s t : State} (h : execEpochClear b s = .next t) : base t = base s := by
  unfold execEpochClear at h
  (repeat' split at h) <;> (injection h with h; subst h) <;> (try split) <;> simp [apply_ite base]

theorem base_execPkeyListWrite {v} {s t : State} (h : execPkeyListWrite v s = .next t) : base t = base s := by
  unfold execPkeyListWrite at h
  (repeat' split at h) <;> (injection h with h; subst h) <;> (try split) <;> simp [apply_ite base]

theorem base_execFabCtlWrite {v} {s t : State} (h : execFabCtlWrite v s = .next t) : base t = base s := by
  unfold execFabCtlWrite at h
  (repeat' split at h) <;> (injection h with h; subst h) <;> (try split) <;> simp [apply_ite base]

theorem base_execNodeIdWrite {dims} {v} {s t : State} (h : execNodeIdWrite dims v s = .next t) : base t = base s := by
  unfold execNodeIdWrite at h
  (repeat' split at h) <;> (injection h with h; subst h) <;> (try split) <;> simp [apply_ite base]

theorem base_execHelloTimer {k} {s t : State} (h : execHelloTimer k s = .next t) : base t = base s := by
  unfold execHelloTimer at h
  (repeat' split at h) <;> (injection h with h; subst h) <;> (try split) <;> simp [apply_ite base]

theorem base_execHelloReceive {k p} {s t : State} (h : execHelloReceive k p s = .next t) : base t = base s := by
  injection h with h; subst h; exact base_control _ _ _ _ _ fun s => by simp

theorem base_execNbrLost {k} {s t : State} (h : execNbrLost k s = .next t) : base t = base s := by
  unfold execNbrLost at h
  (repeat' split at h) <;> (injection h with h; subst h) <;> (try split) <;> simp [apply_ite base]

theorem base_execDrainReceive {k p} {s t : State} (h : execDrainReceive k p s = .next t) : base t = base s := by
  injection h with h; subst h
  exact base_control _ _ _ _ _ fun s => by (repeat' split) <;> simp

theorem base_execProbeGo {k} {s t : State} (h : execProbeGo k s = .next t) : base t = base s := by
  unfold execProbeGo at h
  (repeat' split at h) <;> (injection h with h; subst h) <;> (try split) <;> simp [apply_ite base]

theorem base_execProbeReceive {k p turnaround} {s t : State} (h : execProbeReceive k p turnaround s = .next t) :
    base t = base s := by
  injection h with h; subst h; exact base_control _ _ _ _ _ fun s => by simp

theorem base_execProbeReplyReceive {k p at_} {s t : State} (h : execProbeReplyReceive k p at_ s = .next t) :
    base t = base s := by
  injection h with h; subst h; exact base_control _ _ _ _ _ fun s => by simp

theorem base_execProbeTimeout {s t : State} (h : execProbeTimeout s = .next t) : base t = base s := by
  unfold execProbeTimeout at h
  (repeat' split at h) <;> (injection h with h; subst h) <;> (try split) <;> simp [apply_ite base]

theorem base_execKeeperProbe {k} {s t : State} (h : execKeeperProbe k s = .next t) : base t = base s := by
  unfold execKeeperProbe at h
  (repeat' split at h) <;> (injection h with h; subst h) <;> (try split) <;> simp [apply_ite base]

theorem base_execFlitReceive {k} {f} {s t : State} (h : execFlitReceive k f s = .next t) : base t = base s := by
  unfold execFlitReceive at h
  (repeat' split at h) <;> (injection h with h; subst h) <;> (try split) <;> simp [apply_ite base]

theorem base_execCtrlFlitReceive {k} {f} {s t : State} (h : execCtrlFlitReceive k f s = .next t) :
    base t = base s := by
  unfold execCtrlFlitReceive at h
  (repeat' split at h) <;> (injection h with h; subst h) <;> (try split) <;> simp [apply_ite base]

theorem base_execReplayReqReceive {k} {f} {s t : State} (h : execReplayReqReceive k f s = .next t) :
    base t = base s := by
  unfold execReplayReqReceive at h
  (repeat' split at h) <;> (injection h with h; subst h) <;> (try split) <;> simp [apply_ite base]

theorem base_execAuditReceive {k} {f} {s t : State} (h : execAuditReceive k f s = .next t) : base t = base s := by
  unfold execAuditReceive at h
  (repeat' split at h) <;> (injection h with h; subst h) <;> (try split) <;> simp [apply_ite base]

theorem base_execInitFlitReceive {k} {f} {s t : State} (h : execInitFlitReceive k f s = .next t) :
    base t = base s := by
  unfold execInitFlitReceive at h
  (repeat' split at h) <;> (injection h with h; subst h) <;> (try split) <;> simp [apply_ite base]

theorem base_execInitFlitTimer {k} {s t : State} (h : execInitFlitTimer k s = .next t) : base t = base s := by
  unfold execInitFlitTimer at h
  (repeat' split at h) <;> (injection h with h; subst h) <;> (try split) <;> simp [apply_ite base]

theorem base_execInitTimeout {k} {s t : State} (h : execInitTimeout k s = .next t) : base t = base s := by
  unfold execInitTimeout at h
  (repeat' split at h) <;> (injection h with h; subst h) <;> (try split) <;> simp [apply_ite base]

theorem base_execReplayReqRepeat {k} {s t : State} (h : execReplayReqRepeat k s = .next t) : base t = base s := by
  unfold execReplayReqRepeat at h
  (repeat' split at h) <;> (injection h with h; subst h) <;> (try split) <;> simp [apply_ite base]

theorem base_execAckTimeout {k} {s t : State} (h : execAckTimeout k s = .next t) : base t = base s := by
  unfold execAckTimeout at h
  (repeat' split at h) <;> (injection h with h; subst h) <;> (try split) <;> simp [apply_ite base]

theorem base_execCreditTimeout {k} {s t : State} (h : execCreditTimeout k s = .next t) : base t = base s := by
  unfold execCreditTimeout at h
  (repeat' split at h) <;> (injection h with h; subst h) <;> (try split) <;> simp [apply_ite base]

theorem base_execCtrlFlitDue {k} {s t : State} (h : execCtrlFlitDue k s = .next t) : base t = base s := by
  unfold execCtrlFlitDue at h
  (repeat' split at h) <;> (injection h with h; subst h) <;> (try split) <;> simp [apply_ite base]

theorem base_execFrameLockLoss {k} {s t : State} (h : execFrameLockLoss k s = .next t) : base t = base s := by
  unfold execFrameLockLoss at h
  (repeat' split at h) <;> (injection h with h; subst h) <;> (try split) <;> simp [apply_ite base]

theorem base_execPartnerRetrainDetect {k} {s t : State} (h : execPartnerRetrainDetect k s = .next t) :
    base t = base s := by
  unfold execPartnerRetrainDetect at h
  (repeat' split at h) <;> (injection h with h; subst h) <;> (try split) <;> simp [apply_ite base]

theorem base_execRetrainAttemptTimeout {k} {s t : State} (h : execRetrainAttemptTimeout k s = .next t) :
    base t = base s := by
  unfold execRetrainAttemptTimeout at h
  (repeat' split at h) <;> (injection h with h; subst h) <;> (try split) <;> simp [apply_ite base]

theorem base_execLnkRetrain {k} {s t : State} (h : execLnkRetrain k s = .next t) : base t = base s := by
  injection h with h; subst h; exact base_onTile _ _ _ (by simp)

theorem base_execFullLinkReset {k} {s t : State} (h : execFullLinkReset k s = .next t) : base t = base s := by
  injection h with h; subst h; exact base_onTile _ _ _ (by simp)

theorem base_execLnkModeWrite {k mode} {s t : State} (h : execLnkModeWrite k mode s = .next t) : base t = base s := by
  injection h with h; subst h; exact base_onTile _ _ _ (by simp)

theorem base_execTxSleepEnter {k} {s t : State} (h : execTxSleepEnter k s = .next t) : base t = base s := by
  unfold execTxSleepEnter at h
  (repeat' split at h) <;> (injection h with h; subst h) <;> (try split) <;> simp [apply_ite base]

theorem base_execTxWake {k} {s t : State} (h : execTxWake k s = .next t) : base t = base s := by
  unfold execTxWake at h
  (repeat' split at h) <;> (injection h with h; subst h) <;> (try split) <;> simp [apply_ite base]

theorem base_execDutyPeriodStart {k} {s t : State} (h : execDutyPeriodStart k s = .next t) : base t = base s := by
  unfold execDutyPeriodStart at h
  (repeat' split at h) <;> (injection h with h; subst h) <;> (try split) <;> simp [apply_ite base]

theorem base_execLnkSleepCfgWrite {k v} {s t : State} (h : execLnkSleepCfgWrite k v s = .next t) :
    base t = base s := by
  injection h with h; subst h; exact base_onTile _ _ _ (by simp)

theorem base_execLnkDutyCtlWrite {k v} {s t : State} (h : execLnkDutyCtlWrite k v s = .next t) : base t = base s := by
  injection h with h; subst h; exact base_onTile _ _ _ (by simp)

theorem base_execRxWake {burst} {s t : State} (h : execRxWake burst s = .next t) : base t = base s := by
  unfold execRxWake at h
  (repeat' split at h) <;> (injection h with h; subst h) <;> (try split) <;> simp [apply_ite base]

theorem base_execSleepCommaRetrain {k} {s t : State} (h : execSleepCommaRetrain k s = .next t) : base t = base s := by
  unfold execSleepCommaRetrain at h
  (repeat' split at h) <;> (injection h with h; subst h) <;> (try split) <;> simp [apply_ite base]

theorem base_execWakeMissingTimeout {n} {s t : State} (h : execWakeMissingTimeout n s = .next t) :
    base t = base s := by
  unfold execWakeMissingTimeout at h
  (repeat' split at h) <;> (injection h with h; subst h) <;> (try split) <;> simp [apply_ite base]

theorem base_execLosAssert {n} {s t : State} (h : execLosAssert n s = .next t) : base t = base s := by
  unfold execLosAssert at h
  (repeat' split at h) <;> (injection h with h; subst h) <;> (try split) <;> simp [apply_ite base]

theorem base_execLolAssert {n} {s t : State} (h : execLolAssert n s = .next t) : base t = base s := by
  unfold execLolAssert at h
  (repeat' split at h) <;> (injection h with h; subst h) <;> (try split) <;> simp [apply_ite base]

theorem base_execLosClear {n} {s t : State} (h : execLosClear n s = .next t) : base t = base s := by
  unfold execLosClear at h
  (repeat' split at h) <;> (injection h with h; subst h) <;> (try split) <;> simp [apply_ite base]

theorem base_execPrimeStart {k} {s t : State} (h : execPrimeStart k s = .next t) : base t = base s := by
  unfold execPrimeStart at h
  (repeat' split at h) <;> (injection h with h; subst h) <;> (try split) <;> simp [apply_ite base]

theorem base_execPllLock {k} {s t : State} (h : execPllLock k s = .next t) : base t = base s := by
  unfold execPllLock at h
  (repeat' split at h) <;> (injection h with h; subst h) <;> (try split) <;> simp [apply_ite base]

theorem base_execCdrLock {k} {s t : State} (h : execCdrLock k s = .next t) : base t = base s := by
  unfold execCdrLock at h
  (repeat' split at h) <;> (injection h with h; subst h) <;> (try split) <;> simp [apply_ite base]

theorem base_execLaneAligned {k} {skew} {s t : State} (h : execLaneAligned k skew s = .next t) : base t = base s := by
  unfold execLaneAligned at h
  (repeat' split at h) <;> (injection h with h; subst h) <;> (try split) <;> simp [apply_ite base]

theorem base_execTrain {n b} {s t : State} (h : execTrain n b s = .next t) : base t = base s := by
  injection h with h; subst h; exact base_onTraining _ _ _ _ _ fun s => by simp

theorem base_execAdaptationDone {k} {s t : State} (h : execAdaptationDone k s = .next t) : base t = base s := by
  unfold execAdaptationDone at h
  (repeat' split at h) <;> (injection h with h; subst h) <;> (try split) <;> simp [apply_ite base]

theorem base_execEndBlock {n b} {s t : State} (h : execEndBlock n b s = .next t) : base t = base s := by
  injection h with h; subst h; exact base_onTraining _ _ _ _ _ fun s => by simp

theorem base_execPrimeTimeout {k} {s t : State} (h : execPrimeTimeout k s = .next t) : base t = base s := by
  unfold execPrimeTimeout at h
  (repeat' split at h) <;> (injection h with h; subst h) <;> (try split) <;> simp [apply_ite base]

theorem base_execLoopReq {n} {b} {s t : State} (h : execLoopReq n b s = .next t) : base t = base s := by
  unfold execLoopReq at h
  (repeat' split at h) <;> (injection h with h; subst h) <;> (try split) <;> simp [apply_ite base]

theorem base_execLoopAck {n} {b} {s t : State} (h : execLoopAck n b s = .next t) : base t = base s := by
  unfold execLoopAck at h
  (repeat' split at h) <;> (injection h with h; subst h) <;> (try split) <;> simp [apply_ite base]

theorem base_execFarLoopTimeout {n} {s t : State} (h : execFarLoopTimeout n s = .next t) : base t = base s := by
  unfold execFarLoopTimeout at h
  (repeat' split at h) <;> (injection h with h; subst h) <;> (try split) <;> simp [apply_ite base]

theorem base_execLaneTestWrite {n v} {s t : State} (h : execLaneTestWrite n v s = .next t) : base t = base s := by
  injection h with h; subst h; exact base_onTile _ _ _ (by simp)

theorem base_execLaneSqCtlWrite {n v} {s t : State} (h : execLaneSqCtlWrite n v s = .next t) : base t = base s := by
  injection h with h; subst h; exact base_onTile _ _ _ (by simp)

theorem base_execPrbsClr {n} {s t : State} (h : execPrbsClr n s = .next t) : base t = base s := by
  injection h with h; subst h; exact base_onTile _ _ _ (by simp)

theorem base_execPrbsInj {n} {s t : State} (h : execPrbsInj n s = .next t) : base t = base s := by
  injection h with h; subst h; exact base_onTile _ _ _ (by simp)

theorem base_execCalTempCheck {k} {s t : State} (h : execCalTempCheck k s = .next t) : base t = base s := by
  unfold execCalTempCheck at h
  (repeat' split at h) <;> (injection h with h; subst h) <;> (try split) <;> simp [apply_ite base]

theorem base_execMarginUpdate {n} {vert} {horz} {s t : State} (h : execMarginUpdate n vert horz s = .next t) :
    base t = base s := by
  unfold execMarginUpdate at h
  (repeat' split at h) <;> (injection h with h; subst h) <;> (try split) <;> simp [apply_ite base]

theorem base_execEnable {part} {s t : State} (h : execEnable part s = .next t) : base t = base s := by
  unfold execEnable at h
  (repeat' split at h) <;> (injection h with h; subst h) <;> (try split) <;> simp [apply_ite base]

theorem base_execTeardown {part} {s t : State} (h : execTeardown part s = .next t) : base t = base s := by
  unfold execTeardown at h
  (repeat' split at h) <;> (injection h with h; subst h) <;> (try split) <;> simp [apply_ite base]

theorem base_execTeardownDrainEnd {part} {s t : State} (h : execTeardownDrainEnd part s = .next t) :
    base t = base s := by
  unfold execTeardownDrainEnd at h
  (repeat' split at h) <;> (injection h with h; subst h) <;> (try split) <;> simp [apply_ite base]

theorem base_execTeardownDone {part} {s t : State} (h : execTeardownDone part s = .next t) : base t = base s := by
  unfold execTeardownDone at h
  (repeat' split at h) <;> (injection h with h; subst h) <;> (try split) <;> simp [apply_ite base]

theorem base_execPkeyQuarantineEnd {key} {s t : State} (h : execPkeyQuarantineEnd key s = .next t) :
    base t = base s := by
  unfold execPkeyQuarantineEnd at h
  (repeat' split at h) <;> (injection h with h; subst h) <;> (try split) <;> simp [apply_ite base]

theorem base_execEphGen {block} {s t : State} (h : execEphGen block s = .next t) : base t = base s := by
  injection h with h; subst h
  exact base_runSecCmd _ _ _ _ _ _ _ (fun s => by simp only [ephRun]; (repeat' split) <;> simp) (fun s => by simp [noFail])

theorem base_execChanOpen {block} {s t : State} (h : execChanOpen block s = .next t) : base t = base s := by
  have k : ∀ r s, base (openFailed r block s).2.2 = base s := fun r s => by
    simp only [openFailed]; split <;> simp
  injection h with h; subst h
  exact base_runSecCmd _ _ _ _ _ _ _ (fun s => by simp only [openRun]; (repeat' split) <;> simp [k]) (k _)

theorem base_execChanClose {block} {s t : State} (h : execChanClose block s = .next t) : base t = base s := by
  injection h with h; subst h
  exact base_runSecCmd _ _ _ _ _ _ _ (fun s => by simp [closeRun]) (fun s => by simp [noFail])

theorem base_execWsealOpen {block arg} {s t : State} (h : execWsealOpen block arg s = .next t) : base t = base s := by
  injection h with h; subst h
  exact base_runArgCmd _ _ _ _ _ _ _ _ (fun b a s => by simp only [wsealRun]; (repeat' split) <;> simp)

theorem base_execAttest {block} {s t : State} (h : execAttest block s = .next t) : base t = base s := by
  injection h with h; subst h
  exact base_runSecCmd _ _ _ _ _ _ _ (fun s => by simp only [attestRun]; (repeat' split) <;> simp) (fun s => by simp [noFail])

theorem base_execCert {block} {s t : State} (h : execCert block s = .next t) : base t = base s := by
  injection h with h; subst h
  exact base_runSecCmd _ _ _ _ _ _ _ (fun s => by simp [certRun]) (fun s => by simp [noFail])

theorem base_execMgmtKeygen {block} {s t : State} (h : execMgmtKeygen block s = .next t) : base t = base s := by
  injection h with h; subst h
  exact base_runSecCmd _ _ _ _ _ _ _ (fun s => by simp only [keygenRun]; (repeat' split) <;> simp) (fun s => by simp [noFail])

theorem base_execMgmtLoad {block arg} {s t : State} (h : execMgmtLoad block arg s = .next t) : base t = base s := by
  injection h with h; subst h
  refine base_onlyIf _ _ _ ?_
  exact base_runArgCmd _ _ _ _ _ _ _ _ (fun b a s => by simp only [loadRun]; (repeat' split) <;> simp)

theorem base_execChanPendingTimeout {c} {s t : State} (h : execChanPendingTimeout c s = .next t) :
    base t = base s := by
  unfold execChanPendingTimeout at h
  (repeat' split at h) <;> (injection h with h; subst h) <;> (try split) <;> simp [apply_ite base]

theorem base_execScrubAll {s t : State} (h : execScrubAll s = .next t) : base t = base s := by
  unfold execScrubAll at h
  (repeat' split at h) <;> (injection h with h; subst h) <;> (try split) <;> simp [apply_ite base]

theorem base_execScrubDone {s t : State} (h : execScrubDone s = .next t) : base t = base s := by
  unfold execScrubDone at h
  (repeat' split at h) <;> (injection h with h; subst h) <;> (try split) <;> simp [apply_ite base]

theorem base_execJtagIdcode {tap} {s t : State} (h : execJtagIdcode tap s = .next t) : base t = base s := by
  unfold execJtagIdcode at h
  (repeat' split at h) <;> (injection h with h; subst h) <;> (try split) <;> simp [apply_ite base]

theorem base_execJtagBypass {tap} {s t : State} (h : execJtagBypass tap s = .next t) : base t = base s := by
  unfold execJtagBypass at h
  (repeat' split at h) <;> (injection h with h; subst h) <;> (try split) <;> simp [apply_ite base]

theorem base_execJtagSamplePreload {cells} {s t : State} (h : execJtagSamplePreload cells s = .next t) :
    base t = base s := by
  unfold execJtagSamplePreload at h
  (repeat' split at h) <;> (injection h with h; subst h) <;> (try split) <;> simp [apply_ite base]

theorem base_execMgmtDtlsHandshake {h} {s t : State} (h : execMgmtDtlsHandshake h s = .next t) : base t = base s := by
  unfold execMgmtDtlsHandshake at h
  (repeat' split at h) <;> (injection h with h; subst h) <;> (try split) <;> simp [apply_ite base]

theorem base_execFuseRead {row} {s t : State} (h : execFuseRead row s = .next t) : base t = base s := by
  unfold execFuseRead at h
  (repeat' split at h) <;> (injection h with h; subst h) <;> (try split) <;> simp [apply_ite base]

theorem base_execWatchdogKick {s t : State} (h : execWatchdogKick s = .next t) : base t = base s := by
  unfold execWatchdogKick at h
  (repeat' split at h) <;> (injection h with h; subst h) <;> (try split) <;> simp [apply_ite base]

theorem base_execWatchdogExpiry {s t : State} (h : execWatchdogExpiry s = .next t) : base t = base s := by
  unfold execWatchdogExpiry at h
  (repeat' split at h) <;> (injection h with h; subst h) <;> (try split) <;> simp [apply_ite base]

theorem base_execKeeperBoot {s t : State} (h : execKeeperBoot s = .next t) : base t = base s := by
  unfold execKeeperBoot at h
  (repeat' split at h) <;> (injection h with h; subst h) <;> (try split) <;> simp [apply_ite base]

theorem base_execKeeperEventCopy {s t : State} (h : execKeeperEventCopy s = .next t) : base t = base s := by
  injection h with h; subst h
  refine base_onlyIf _ _ _ ?_
  split <;> simp

theorem base_execCoalesceHolddownExpiry {cause node} {s t : State} (h : execCoalesceHolddownExpiry cause node s = .next t) :
    base t = base s := by
  injection h with h; subst h
  refine base_onlyIf _ _ _ ?_
  dsimp only
  (repeat' split) <;> simp

theorem base_execMevt {p} {s t : State} (h : execMevt p s = .next t) : base t = base s := by
  unfold execMevt at h
  (repeat' split at h) <;> (injection h with h; subst h) <;> (try split) <;> simp [apply_ite base]

theorem base_execEvtConsWrite {v} {s t : State} (h : execEvtConsWrite v s = .next t) : base t = base s := by
  unfold execEvtConsWrite at h
  (repeat' split at h) <;> (injection h with h; subst h) <;> (try split) <;> simp [apply_ite base]

theorem base_execKeeperSteer {k} {s t : State} (h : execKeeperSteer k s = .next t) : base t = base s := by
  unfold execKeeperSteer at h
  (repeat' split at h) <;> (injection h with h; subst h) <;> (try split) <;> simp [apply_ite base]

theorem base_execKeeperMarginRetrain {n} {s t : State} (h : execKeeperMarginRetrain n s = .next t) :
    base t = base s := by
  unfold execKeeperMarginRetrain at h
  (repeat' split at h) <;> (injection h with h; subst h) <;> (try split) <;> simp [apply_ite base]

theorem base_execKeeperStaleRetrain {k} {s t : State} (h : execKeeperStaleRetrain k s = .next t) :
    base t = base s := by
  unfold execKeeperStaleRetrain at h
  (repeat' split at h) <;> (injection h with h; subst h) <;> (try split) <;> simp [apply_ite base]

theorem base_execKeeperCalCapture {s t : State} (h : execKeeperCalCapture s = .next t) : base t = base s := by
  unfold execKeeperCalCapture at h
  (repeat' split at h) <;> (injection h with h; subst h) <;> (try split) <;> simp [apply_ite base]

theorem base_execKeeperSleepTune {k} {wakesPerSecond} {s t : State} (h : execKeeperSleepTune k wakesPerSecond s = .next t) :
    base t = base s := by
  unfold execKeeperSleepTune at h
  (repeat' split at h) <;> (injection h with h; subst h) <;> (try split) <;> simp [apply_ite base]

theorem base_execStage {image} {s t : State} (h : execStage image s = .next t) : base t = base s := by
  injection h with h; subst h
  refine base_onlyIf _ _ _ ?_
  unfold takeFw aimStage
  (repeat' split) <;> simp

theorem base_execActivate {s t : State} (h : execActivate s = .next t) : base t = base s := by
  unfold execActivate at h
  (repeat' split at h) <;> (injection h with h; subst h) <;> (try split) <;> simp [apply_ite base]

theorem base_execConfirm {s t : State} (h : execConfirm s = .next t) : base t = base s := by
  unfold execConfirm at h
  (repeat' split at h) <;> (injection h with h; subst h) <;> (try split) <;> simp [apply_ite base]

theorem base_execRevert {s t : State} (h : execRevert s = .next t) : base t = base s := by
  unfold execRevert at h
  (repeat' split at h) <;> (injection h with h; subst h) <;> (try split) <;> simp [apply_ite base]

theorem base_execTrialTimeout {s t : State} (h : execTrialTimeout s = .next t) : base t = base s := by
  unfold execTrialTimeout at h
  (repeat' split at h) <;> (injection h with h; subst h) <;> (try split) <;> simp [apply_ite base]

theorem base_execCapture {s t : State} (h : execCapture s = .next t) : base t = base s := by
  unfold execCapture at h
  (repeat' split at h) <;> (injection h with h; subst h) <;> (try split) <;> simp [apply_ite base]

theorem base_execCalImport {base₀} {s t : State} (h : execCalImport base₀ s = .next t) : base t = base s := by
  injection h with h; subst h
  refine base_onlyIf _ _ _ ?_
  refine (base_onlyIf _ _ _ (by simp)).trans ?_
  simp [aimImport]

theorem base_execCalExport {s t : State} (h : execCalExport s = .next t) : base t = base s := by
  unfold execCalExport at h
  (repeat' split at h) <;> (injection h with h; subst h) <;> (try split) <;> simp [apply_ite base]

theorem base_execCalStoreDone {s t : State} (h : execCalStoreDone s = .next t) : base t = base s := by
  unfold execCalStoreDone at h
  (repeat' split at h) <;> (injection h with h; subst h) <;> (try split) <;> simp [apply_ite base]

theorem base_execFrameLockGain {k} {s t : State} (h : execFrameLockGain k s = .next t) : base t = base s := by
  unfold execFrameLockGain at h
  (repeat' split at h) <;> (injection h with h; subst h) <;> (try split) <;> simp [apply_ite base]

theorem base_execPrbsLockGain {n} {s t : State} (h : execPrbsLockGain n s = .next t) : base t = base s := by
  unfold execPrbsLockGain at h
  (repeat' split at h) <;> (injection h with h; subst h) <;> (try split) <;> simp [apply_ite base]

theorem base_execPrbsLockLoss {n} {s t : State} (h : execPrbsLockLoss n s = .next t) : base t = base s := by
  unfold execPrbsLockLoss at h
  (repeat' split at h) <;> (injection h with h; subst h) <;> (try split) <;> simp [apply_ite base]

theorem base_execHoldPhaseEnd {k} {s t : State} (h : execHoldPhaseEnd k s = .next t) : base t = base s := by
  unfold execHoldPhaseEnd at h
  (repeat' split at h) <;> (injection h with h; subst h) <;> (try split) <;> simp [apply_ite base]

end Sys2Proof.Laws
end

