-- ==== Sys2Proof/Laws/Bytes.lean ====
section
/-!
SUPPORT. Laws/Bytes.lean: byte strings: little-endian numbers and what is read back from them, and checksums that
follow what they check.
-/

namespace Sys2Proof.Laws

open Sys2Proof Sys2Proof.Machine

set_option Elab.async false

@[simp] theorem length_leBytes (n v : Nat) : (leBytes n v).length = n := by
  induction n generalizing v with
  | zero => rfl
  | succ n ih => simp [leBytes, ih]

@[simp] theorem length_zeros (n : Nat) : (zeros n).length = n := by simp [zeros]

@[simp] theorem length_fit (n : Nat) (bs : List Byte) : (fit n bs).length = n := by
  simp [fit]; omega

/-- A number that fits is read back. -/
theorem leNat_leBytes (n v : Nat) (h : v < 256 ^ n) : leNat (leBytes n v) = v := by
  induction n generalizing v with
  | zero => simp at h; subst h; rfl
  | succ n ih =>
    have : v / 256 < 256 ^ n := by
      rw [Nat.div_lt_iff_lt_mul (by decide)]; rw [Nat.pow_succ] at h; exact h
    simp only [leBytes, leNat, ih _ this, BitVec.toNat_ofNat]
    omega

/-- The bytes of a number that follows a string of known length. -/
theorem sliceNat_append (a b : List Byte) (n v : Nat) (h : v < 256 ^ n) :
    sliceNat (a ++ (leBytes n v ++ b)) a.length n = v := by
  unfold sliceNat slice
  rw [List.drop_left]
  have : (leBytes n v ++ b).take n = leBytes n v := List.take_left' (length_leBytes n v)
  rw [this, leNat_leBytes n v h]

/-- A checksum put after the bytes it covers matches them (R255, R298). -/
theorem crc_matches (a : List Byte) (n : Nat) (h : a.length = n) :
    sliceNat (a ++ leBytes 4 (crc32c a).toNat) n 4 =
      (crc32c ((a ++ leBytes 4 (crc32c a).toNat).take n)).toNat := by
  subst h
  rw [List.take_left]
  have := sliceNat_append a [] 4 (crc32c a).toNat (crc32c a).isLt
  simpa using this

end Sys2Proof.Laws
end

