-- ==== Sys2Proof/Laws/PerInstr.lean ====
section
/-!
SUPPORT. Laws/PerInstr.lean: the statements that hold of every command as syntax, one lemma for each constructor.
-/

namespace Sys2Proof.Laws.Carried

open Sys2Proof Sys2Proof.Machine

set_option Elab.async false

/-- A well-formed command that brings a packet brings one that a link can deliver (R24, R26). -/
def Statement (i : Instr) : Prop := ∀ p, i.packet = some p → i.wf = true → packetWf p = true

theorem powerOn (width : Nat) : Statement (.powerOn width) := by
  intro q h w; cases h

theorem hardReset (width : Nat) : Statement (.hardReset width) := by
  intro q h w; cases h

theorem resetRelease (pin : ResetPin) (width : Nat) : Statement (.resetRelease pin width) := by
  intro q h w; cases h

theorem fuseShadowValid : Statement (.fuseShadowValid) := by
  intro q h w; cases h

theorem corePllLocked : Statement (.corePllLocked) := by
  intro q h w; cases h

theorem releaseGapExpiry : Statement (.releaseGapExpiry) := by
  intro q h w; cases h

theorem resetBurstTimeout (port : Fin 16) : Statement (.resetBurstTimeout port) := by
  intro q h w; cases h

theorem thermalTrip : Statement (.thermalTrip) := by
  intro q h w; cases h

theorem softReset : Statement (.softReset) := by
  intro q h w; cases h

theorem keeperRestart : Statement (.keeperRestart) := by
  intro q h w; cases h

theorem refInputLoss (g : Fin 9) : Statement (.refInputLoss g) := by
  intro q h w; cases h

theorem refInputReturn (g : Fin 9) : Statement (.refInputReturn g) := by
  intro q h w; cases h

theorem coreMhzWrite (v : Word) : Statement (.coreMhzWrite v) := by
  intro q h w; cases h

theorem coreClockStep : Statement (.coreClockStep) := by
  intro q h w; cases h

theorem vcoreSample (mv : List Nat) : Statement (.vcoreSample mv) := by
  intro q h w; cases h

theorem sensorSample (r : Sensors) : Statement (.sensorSample r) := by
  intro q h w; cases h

theorem keeperThrottle (tile : Fin 36) : Statement (.keeperThrottle tile) := by
  intro q h w; cases h

theorem throttleDutyStep (tile : Fin 36) : Statement (.throttleDutyStep tile) := by
  intro q h w; cases h

theorem eccError (array : ProtArray) (index : Nat) (correctable : Bool) : Statement (.eccError array index correctable) := by
  intro q h w; cases h

theorem configWrite (addr : BitVec 20) (v : Word) : Statement (.configWrite addr v) := by
  intro q h w; cases h

theorem reg64UpperWrite (addr : BitVec 20) (v : Word) : Statement (.reg64UpperWrite addr v) := by
  intro q h w; cases h

theorem reg64LowerRead (addr : BitVec 20) : Statement (.reg64LowerRead addr) := by
  intro q h w; cases h

theorem unimplementedRead (addr : BitVec 20) : Statement (.unimplementedRead addr) := by
  intro q h w; cases h

theorem masterEnClear : Statement (.masterEnClear) := by
  intro q h w; cases h

theorem masterEnSet : Statement (.masterEnSet) := by
  intro q h w; cases h

theorem cfgLoad : Statement (.cfgLoad) := by
  intro q h w; cases h

theorem cfgDirect : Statement (.cfgDirect) := by
  intro q h w; cases h

theorem cfgImageReadDone (image : Blob) : Statement (.cfgImageReadDone image) := by
  intro q h w; cases h

theorem cfgImageReadTimeout : Statement (.cfgImageReadTimeout) := by
  intro q h w; cases h

theorem winReset (win : BitVec 12) : Statement (.winReset win) := by
  intro q h w; cases h

theorem qEnable (q : Byte) (v : Word) : Statement (.qEnable q v) := by
  intro q h w; cases h

theorem qDisable (q : Byte) (v : Word) : Statement (.qDisable q v) := by
  intro q h w; cases h

theorem qSetupWrite (q : Byte) (off : BitVec 9) (v : Word) : Statement (.qSetupWrite q off v) := by
  intro q h w; cases h

theorem sqTail (q : Byte) (v : Word) : Statement (.sqTail q v) := by
  intro q h w; cases h

theorem cqHead (q : Byte) (v : Word) : Statement (.cqHead q v) := by
  intro q h w; cases h

theorem cancel (q : Byte) (hi : Bool) (mask : Word) : Statement (.cancel q hi mask) := by
  intro q h w; cases h

theorem rearm (q : Byte) (hi : Bool) (mask : Word) : Statement (.rearm q hi mask) := by
  intro q h w; cases h

theorem descriptorFetch (q : Byte) (beat : Beat) : Statement (.descriptorFetch q beat) := by
  intro q h w; cases h

theorem descriptorStart : Statement (.descriptorStart) := by
  intro q h w; cases h

theorem writeCompletionRecord (d : Nat) : Statement (.writeCompletionRecord d) := by
  intro q h w; cases h

theorem tileTokenPush (t : BitVec 3) (token : BitVec 256) : Statement (.tileTokenPush t token) := by
  intro q h w; cases h

theorem tileTokenStart (t : BitVec 3) : Statement (.tileTokenStart t) := by
  intro q h w; cases h

theorem tqTemplateLoad (v : Word) : Statement (.tqTemplateLoad v) := by
  intro q h w; cases h

theorem tqTemplateLoadDone (blob : Blob) : Statement (.tqTemplateLoadDone blob) := by
  intro q h w; cases h

theorem memReadResponse (port : Fin 16) (id : BitVec 12) (beat : Beat) : Statement (.memReadResponse port id beat) := by
  intro q h w; cases h

theorem memWriteResponse (port : Fin 16) (id : BitVec 12) (err : Bool) : Statement (.memWriteResponse port id err) := by
  intro q h w; cases h

theorem atomicUnitIssue (op : Nat) : Statement (.atomicUnitIssue op) := by
  intro q h w; cases h

theorem rdReceive (p : Packet) : Statement (.rdReceive p) := by
  intro q h w; cases h; exact w

theorem grdReceive (p : Packet) : Statement (.grdReceive p) := by
  intro q h w; cases h; exact w

theorem wrReceive (p : Packet) : Statement (.wrReceive p) := by
  intro q h w; cases h; exact w

theorem msgReceive (p : Packet) : Statement (.msgReceive p) := by
  intro q h w; cases h; exact w

theorem atomReceive (p : Packet) : Statement (.atomReceive p) := by
  intro q h w; cases h; exact w

theorem vaccReceive (p : Packet) : Statement (.vaccReceive p) := by
  intro q h w; cases h; exact w

theorem unknownTypeReceive (p : Packet) : Statement (.unknownTypeReceive p) := by
  intro q h w; cases h; exact w

theorem rdrReceive (p : Packet) : Statement (.rdrReceive p) := by
  intro q h w; cases h; exact w

theorem atomrReceive (p : Packet) : Statement (.atomrReceive p) := by
  intro q h w; cases h; exact w

theorem lackReceive (p : Packet) : Statement (.lackReceive p) := by
  intro q h w; cases h; exact w

theorem holdFullResend (d : Nat) : Statement (.holdFullResend d) := by
  intro q h w; cases h

theorem holdTimeout (h : Nat) : Statement (.holdTimeout h) := by
  intro q h w; cases h

theorem lackCoalesceTimeout (node : NodeId) (pkey : PKey) (vc7 : Bool) : Statement (.lackCoalesceTimeout node pkey vc7) := by
  intro q h w; cases h

theorem operationTimeout (tag : Tag) : Statement (.operationTimeout tag) := by
  intro q h w; cases h

theorem tagQuarantineEnd (tag : Tag) : Statement (.tagQuarantineEnd tag) := by
  intro q h w; cases h

theorem walkReadReturn (port : Fin 16) (id : BitVec 12) (beat : Beat) : Statement (.walkReadReturn port id beat) := by
  intro q h w; cases h

theorem invRange (part : BitVec 6) : Statement (.invRange part) := by
  intro q h w; cases h

theorem invPart (part : BitVec 6) : Statement (.invPart part) := by
  intro q h w; cases h

theorem invAll : Statement (.invAll) := by
  intro q h w; cases h

theorem preload (part : BitVec 6) : Statement (.preload part) := by
  intro q h w; cases h

theorem invDrainComplete : Statement (.invDrainComplete) := by
  intro q h w; cases h

theorem xltDirBaseWrite (part : BitVec 6) (v : Word) : Statement (.xltDirBaseWrite part v) := by
  intro q h w; cases h

theorem chainLoad (v : Word) : Statement (.chainLoad v) := by
  intro q h w; cases h

theorem chainLoadDone (programs : List Blob) : Statement (.chainLoadDone programs) := by
  intro q h w; cases h

theorem pipeRsvWrite (v : Word) : Statement (.pipeRsvWrite v) := by
  intro q h w; cases h

theorem pipeBind : Statement (.pipeBind) := by
  intro q h w; cases h

theorem cjoinReceive (p : Packet) : Statement (.cjoinReceive p) := by
  intro q h w; cases h; exact w

theorem cdataReceive (p : Packet) : Statement (.cdataReceive p) := by
  intro q h w; cases h; exact w

theorem cabortReceive (p : Packet) : Statement (.cabortReceive p) := by
  intro q h w; cases h; exact w

theorem collectiveStep (d : Nat) : Statement (.collectiveStep d) := by
  intro q h w; cases h

theorem edspReceive (p : Packet) : Statement (.edspReceive p) := by
  intro q h w; cases h; exact w

theorem ecmbReceive (p : Packet) : Statement (.ecmbReceive p) := by
  intro q h w; cases h; exact w

theorem etallyReceive (p : Packet) : Statement (.etallyReceive p) := by
  intro q h w; cases h; exact w

theorem prdrReceive (p : Packet) : Statement (.prdrReceive p) := by
  intro q h w; cases h; exact w

theorem resumeChunk (d : Nat) : Statement (.resumeChunk d) := by
  intro q h w; cases h

theorem expertTableLoad (v : Word) : Statement (.expertTableLoad v) := by
  intro q h w; cases h

theorem expertTableLoadDone (blob : Blob) : Statement (.expertTableLoadDone blob) := by
  intro q h w; cases h

theorem routePacket (src : RouterIn) : Statement (.routePacket src) := by
  intro q h w; cases h

theorem escWaitExpiry (src : RouterIn) : Statement (.escWaitExpiry src) := by
  intro q h w; cases h

theorem outputStallTimeout (port : Fin 16) (vc : BitVec 3) : Statement (.outputStallTimeout port vc) := by
  intro q h w; cases h

theorem sumpDstWrite (i : Fin 8) (v : Word) : Statement (.sumpDstWrite i v) := by
  intro q h w; cases h

theorem routeTableWrite (b : Bool) (d : Byte) (v : Word) : Statement (.routeTableWrite b d v) := by
  intro q h w; cases h

theorem epochInjWrite (b : Bool) : Statement (.epochInjWrite b) := by
  intro q h w; cases h

theorem epochClear (b : Bool) : Statement (.epochClear b) := by
  intro q h w; cases h

theorem lportWrite (links : Bool) (p : Fin 16) (v : Word) : Statement (.lportWrite links p v) := by
  intro q h w; cases h

theorem pkeyListWrite (v : Word) : Statement (.pkeyListWrite v) := by
  intro q h w; cases h

theorem fabCtlWrite (v : Word) : Statement (.fabCtlWrite v) := by
  intro q h w; cases h

theorem nodeIdWrite (dims : Bool) (v : Word) : Statement (.nodeIdWrite dims v) := by
  intro q h w; cases h

theorem helloTimer (k : Fin 36) : Statement (.helloTimer k) := by
  intro q h w; cases h

theorem helloReceive (k : Fin 36) (p : Packet) : Statement (.helloReceive k p) := by
  intro q h w; cases h; exact w

theorem nbrLost (k : Fin 36) : Statement (.nbrLost k) := by
  intro q h w; cases h

theorem drainReceive (k : Fin 36) (p : Packet) : Statement (.drainReceive k p) := by
  intro q h w; cases h; exact w

theorem probeGo (k : BitVec 6) : Statement (.probeGo k) := by
  intro q h w; cases h

theorem probeReceive (k : Fin 36) (p : Packet) (turnaround : BitVec 16) : Statement (.probeReceive k p turnaround) := by
  intro q h w; cases h; exact w

theorem probeReplyReceive (k : Fin 36) (p : Packet) (count : Word) : Statement (.probeReplyReceive k p count) := by
  intro q h w; cases h; exact w

theorem probeTimeout : Statement (.probeTimeout) := by
  intro q h w; cases h

theorem keeperProbe (k : Fin 36) : Statement (.keeperProbe k) := by
  intro q h w; cases h

theorem flitReceive (k : Fin 36) (f : RxFlit) : Statement (.flitReceive k f) := by
  intro q h w; cases h

theorem ctrlFlitReceive (k : Fin 36) (f : RxFlit) : Statement (.ctrlFlitReceive k f) := by
  intro q h w; cases h

theorem replayReqReceive (k : Fin 36) (f : RxFlit) : Statement (.replayReqReceive k f) := by
  intro q h w; cases h

theorem auditReceive (k : Fin 36) (f : RxFlit) : Statement (.auditReceive k f) := by
  intro q h w; cases h

theorem initFlitReceive (k : Fin 36) (f : RxFlit) : Statement (.initFlitReceive k f) := by
  intro q h w; cases h

theorem initFlitTimer (k : Fin 36) : Statement (.initFlitTimer k) := by
  intro q h w; cases h

theorem initTimeout (k : Fin 36) : Statement (.initTimeout k) := by
  intro q h w; cases h

theorem replayReqRepeat (k : Fin 36) : Statement (.replayReqRepeat k) := by
  intro q h w; cases h

theorem ackTimeout (k : Fin 36) : Statement (.ackTimeout k) := by
  intro q h w; cases h

theorem creditTimeout (k : Fin 36) : Statement (.creditTimeout k) := by
  intro q h w; cases h

theorem ctrlFlitDue (k : Fin 36) : Statement (.ctrlFlitDue k) := by
  intro q h w; cases h

theorem frameLockLoss (k : Fin 36) : Statement (.frameLockLoss k) := by
  intro q h w; cases h

theorem partnerRetrainDetect (k : Fin 36) : Statement (.partnerRetrainDetect k) := by
  intro q h w; cases h

theorem retrainAttemptTimeout (k : Fin 36) : Statement (.retrainAttemptTimeout k) := by
  intro q h w; cases h

theorem lnkRetrain (k : Fin 36) : Statement (.lnkRetrain k) := by
  intro q h w; cases h

theorem fullLinkReset (k : Fin 36) : Statement (.fullLinkReset k) := by
  intro q h w; cases h

theorem lnkModeWrite (k : Fin 36) (mode : BitVec 2) : Statement (.lnkModeWrite k mode) := by
  intro q h w; cases h

theorem txSleepEnter (k : Fin 36) : Statement (.txSleepEnter k) := by
  intro q h w; cases h

theorem txWake (k : Fin 36) : Statement (.txWake k) := by
  intro q h w; cases h

theorem dutyPeriodStart (k : Fin 36) : Statement (.dutyPeriodStart k) := by
  intro q h w; cases h

theorem lnkSleepCfgWrite (k : Fin 36) (v : Word) : Statement (.lnkSleepCfgWrite k v) := by
  intro q h w; cases h

theorem lnkDutyCtlWrite (k : Fin 36) (v : Word) : Statement (.lnkDutyCtlWrite k v) := by
  intro q h w; cases h

theorem rxWake (burst : WakeBurst) : Statement (.rxWake burst) := by
  intro q h w; cases h

theorem sleepCommaRetrain (k : Fin 36) : Statement (.sleepCommaRetrain k) := by
  intro q h w; cases h

theorem wakeMissingTimeout (n : Fin 288) : Statement (.wakeMissingTimeout n) := by
  intro q h w; cases h

theorem losAssert (n : Fin 288) : Statement (.losAssert n) := by
  intro q h w; cases h

theorem lolAssert (n : Fin 288) : Statement (.lolAssert n) := by
  intro q h w; cases h

theorem losClear (n : Fin 288) : Statement (.losClear n) := by
  intro q h w; cases h

theorem primeStart (k : Fin 36) : Statement (.primeStart k) := by
  intro q h w; cases h

theorem pllLock (k : Fin 36) : Statement (.pllLock k) := by
  intro q h w; cases h

theorem cdrLock (k : Fin 36) : Statement (.cdrLock k) := by
  intro q h w; cases h

theorem laneAligned (k : Fin 36) (skew : List Nat) : Statement (.laneAligned k skew) := by
  intro q h w; cases h

theorem train (n : Fin 288) (b : CtrlBlock) : Statement (.train n b) := by
  intro q h w; cases h

theorem adaptationDone (k : Fin 36) : Statement (.adaptationDone k) := by
  intro q h w; cases h

theorem endBlock (n : Fin 288) (b : CtrlBlock) : Statement (.endBlock n b) := by
  intro q h w; cases h

theorem primeTimeout (k : Fin 36) : Statement (.primeTimeout k) := by
  intro q h w; cases h

theorem loopReq (n : Fin 288) (b : CtrlBlock) : Statement (.loopReq n b) := by
  intro q h w; cases h

theorem loopAck (n : Fin 288) (b : CtrlBlock) : Statement (.loopAck n b) := by
  intro q h w; cases h

theorem farLoopTimeout (n : Fin 288) : Statement (.farLoopTimeout n) := by
  intro q h w; cases h

theorem laneTestWrite (n : Fin 288) (v : Word) : Statement (.laneTestWrite n v) := by
  intro q h w; cases h

theorem laneSqCtlWrite (n : Fin 288) (v : Word) : Statement (.laneSqCtlWrite n v) := by
  intro q h w; cases h

theorem prbsClr (n : Fin 288) : Statement (.prbsClr n) := by
  intro q h w; cases h

theorem prbsInj (n : Fin 288) : Statement (.prbsInj n) := by
  intro q h w; cases h

theorem calTempCheck (k : Fin 36) : Statement (.calTempCheck k) := by
  intro q h w; cases h

theorem marginUpdate (n : Fin 288) (vert horz : BitVec 16) : Statement (.marginUpdate n vert horz) := by
  intro q h w; cases h

theorem enable (part : BitVec 6) : Statement (.enable part) := by
  intro q h w; cases h

theorem teardown (part : BitVec 6) : Statement (.teardown part) := by
  intro q h w; cases h

theorem teardownDrainEnd (part : BitVec 6) : Statement (.teardownDrainEnd part) := by
  intro q h w; cases h

theorem teardownDone (part : BitVec 6) : Statement (.teardownDone part) := by
  intro q h w; cases h

theorem pkeyQuarantineEnd (key : PKey) : Statement (.pkeyQuarantineEnd key) := by
  intro q h w; cases h

theorem ephGen (block : Blob) : Statement (.ephGen block) := by
  intro q h w; cases h

theorem chanOpen (block : Blob) : Statement (.chanOpen block) := by
  intro q h w; cases h

theorem chanClose (block : Blob) : Statement (.chanClose block) := by
  intro q h w; cases h

theorem wsealOpen (block arg : Blob) : Statement (.wsealOpen block arg) := by
  intro q h w; cases h

theorem attest (block : Blob) : Statement (.attest block) := by
  intro q h w; cases h

theorem cert (block : Blob) : Statement (.cert block) := by
  intro q h w; cases h

theorem mgmtKeygen (block : Blob) : Statement (.mgmtKeygen block) := by
  intro q h w; cases h

theorem mgmtLoad (block arg : Blob) : Statement (.mgmtLoad block arg) := by
  intro q h w; cases h

theorem chanPendingTimeout (c : Byte) : Statement (.chanPendingTimeout c) := by
  intro q h w; cases h

theorem scrubAll : Statement (.scrubAll) := by
  intro q h w; cases h

theorem scrubDone : Statement (.scrubDone) := by
  intro q h w; cases h

theorem debugAccessRequest (tap : TapPort) : Statement (.debugAccessRequest tap) := by
  intro q h w; cases h

theorem debugAccessGranted : Statement (.debugAccessGranted) := by
  intro q h w; cases h

theorem jtagIdcode (tap : TapPort) : Statement (.jtagIdcode tap) := by
  intro q h w; cases h

theorem jtagBypass (tap : TapPort) : Statement (.jtagBypass tap) := by
  intro q h w; cases h

theorem jtagSamplePreload (cells : List Bool) : Statement (.jtagSamplePreload cells) := by
  intro q h w; cases h

theorem mgmtDtlsHandshake (h : Handshake) : Statement (.mgmtDtlsHandshake h) := by
  intro q h w; cases h

theorem fuseProgram (row : FuseRow) (bits : Nat) : Statement (.fuseProgram row bits) := by
  intro q h w; cases h

theorem fuseRead (row : FuseRow) : Statement (.fuseRead row) := by
  intro q h w; cases h

theorem watchdogKick : Statement (.watchdogKick) := by
  intro q h w; cases h

theorem watchdogExpiry : Statement (.watchdogExpiry) := by
  intro q h w; cases h

theorem keeperBoot : Statement (.keeperBoot) := by
  intro q h w; cases h

theorem keeperEventCopy : Statement (.keeperEventCopy) := by
  intro q h w; cases h

theorem coalesceHolddownExpiry (cause : BitVec 16) (node : NodeId) : Statement (.coalesceHolddownExpiry cause node) := by
  intro q h w; cases h

theorem mevt (p : Packet) : Statement (.mevt p) := by
  intro q h w; cases h; exact w

theorem evtConsWrite (v : Word) : Statement (.evtConsWrite v) := by
  intro q h w; cases h

theorem mgtPolicyWrite (off : BitVec 12) (v : Word) : Statement (.mgtPolicyWrite off v) := by
  intro q h w; cases h

theorem keeperSteer (k : Fin 36) : Statement (.keeperSteer k) := by
  intro q h w; cases h

theorem keeperMarginRetrain (n : Fin 288) : Statement (.keeperMarginRetrain n) := by
  intro q h w; cases h

theorem keeperStaleRetrain (k : Fin 36) : Statement (.keeperStaleRetrain k) := by
  intro q h w; cases h

theorem keeperCalCapture : Statement (.keeperCalCapture) := by
  intro q h w; cases h

theorem keeperSleepTune (k : Fin 36) (wakesPerSecond : Nat) : Statement (.keeperSleepTune k wakesPerSecond) := by
  intro q h w; cases h

theorem stage (image : ImageAt) : Statement (.stage image) := by
  intro q h w; cases h

theorem activate : Statement (.activate) := by
  intro q h w; cases h

theorem confirm : Statement (.confirm) := by
  intro q h w; cases h

theorem revert : Statement (.revert) := by
  intro q h w; cases h

theorem trialTimeout : Statement (.trialTimeout) := by
  intro q h w; cases h

theorem capture : Statement (.capture) := by
  intro q h w; cases h

theorem calImport (base : BitVec 64) : Statement (.calImport base) := by
  intro q h w; cases h

theorem calExport : Statement (.calExport) := by
  intro q h w; cases h

theorem calStoreDone : Statement (.calStoreDone) := by
  intro q h w; cases h

theorem frameLockGain (k : Fin 36) : Statement (.frameLockGain k) := by
  intro q h w; cases h

theorem prbsLockGain (n : Fin 288) : Statement (.prbsLockGain n) := by
  intro q h w; cases h

theorem prbsLockLoss (n : Fin 288) : Statement (.prbsLockLoss n) := by
  intro q h w; cases h

theorem holdPhaseEnd (k : Fin 36) : Statement (.holdPhaseEnd k) := by
  intro q h w; cases h

end Sys2Proof.Laws.Carried
end

