-- ==== Sys2Proof/Laws/Table.lean ====
section
/-!
SUPPORT. Laws/Table.lean: what the operations of a sparse table do, and that they keep its entries in ascending order.
-/

namespace Sys2Proof.Laws

open Sys2Proof.Machine

set_option Elab.async false

variable {α : Type}

theorem lookupIn_insertIn_same (l : List (Nat × α)) (k : Nat) (v : α) : lookupIn (insertIn l k v) k = some v := by
  induction l with
  | nil => simp [insertIn, lookupIn]
  | cons e t ih =>
    obtain ⟨j, w⟩ := e
    simp only [insertIn]
    split
    · simp [lookupIn]
    · split
      · simp [lookupIn]
      · rename_i h; simp [lookupIn, h, ih]

theorem lookupIn_insertIn_ne (l : List (Nat × α)) (j k : Nat) (v : α) (h : j ≠ k) :
    lookupIn (insertIn l k v) j = lookupIn l j := by
  induction l with
  | nil => simp [insertIn, lookupIn, Ne.symm h]
  | cons e t ih =>
    obtain ⟨i, w⟩ := e
    simp only [insertIn]
    split
    · simp [lookupIn, Ne.symm h]
    · split
      · rename_i h'; subst h'; simp [lookupIn, Ne.symm h]
      · simp [lookupIn, ih]

@[simp] theorem find_set_same (t : Tbl α) (k : Nat) (v : α) : (t.set k v).find k = some v :=
  lookupIn_insertIn_same _ _ _

@[simp] theorem find_set_ne (t : Tbl α) (j k : Nat) (v : α) (h : j ≠ k) : (t.set k v).find j = t.find j :=
  lookupIn_insertIn_ne _ _ _ _ h

@[simp] theorem get_set_same (t : Tbl α) (k : Nat) (v d : α) : (t.set k v).get k d = v := by simp [Tbl.get]

@[simp] theorem get_set_ne (t : Tbl α) (j k : Nat) (v d : α) (h : j ≠ k) : (t.set k v).get j d = t.get j d := by
  simp [Tbl.get, h]

theorem lookupIn_filter (l : List (Nat × α)) (p : Nat → Bool) (k : Nat) :
    lookupIn (l.filter fun e => p e.1) k = if p k then lookupIn l k else none := by
  induction l with
  | nil => simp [lookupIn]
  | cons e t ih =>
    obtain ⟨j, w⟩ := e
    by_cases hp : p j
    · simp only [List.filter, hp, lookupIn, ih]
      by_cases hj : j = k
      · subst hj; simp [hp]
      · simp [hj]
    · simp only [List.filter, hp, lookupIn, ih]
      by_cases hj : j = k
      · subst hj; simp [hp]
      · simp [hj]

theorem find_keep (t : Tbl α) (p : Nat → Bool) (k : Nat) : (t.keep p).find k = if p k then t.find k else none :=
  lookupIn_filter _ _ _

@[simp] theorem find_erase_same (t : Tbl α) (k : Nat) : (t.erase k).find k = none := by
  simp [Tbl.erase, Tbl.find, lookupIn_filter _ (fun x => x != k)]

@[simp] theorem find_erase_ne (t : Tbl α) (j k : Nat) (h : j ≠ k) : (t.erase k).find j = t.find j := by
  simp [Tbl.erase, Tbl.find, lookupIn_filter _ (fun x => x != k), h]

@[simp] theorem find_empty (k : Nat) : (Tbl.empty : Tbl α).find k = none := rfl

@[simp] theorem get_empty (k : Nat) (d : α) : (Tbl.empty : Tbl α).get k d = d := rfl

/-- The numbers of a table rise strictly. -/
def Ascending (t : Tbl α) : Prop := t.keys.Pairwise (· < ·)

theorem ascending_empty : Ascending (Tbl.empty : Tbl α) := List.Pairwise.nil

theorem keys_insertIn (l : List (Nat × α)) (k : Nat) (v : α) (x : Nat) :
    x ∈ (insertIn l k v).map (·.1) → x = k ∨ x ∈ l.map (·.1) := by
  induction l with
  | nil => simp [insertIn]
  | cons e t ih =>
    obtain ⟨j, w⟩ := e
    simp only [insertIn]
    split
    · simp
    · split
      · rename_i h; subst h; simp
      · intro hx
        simp only [List.map_cons, List.mem_cons] at hx ⊢
        rcases hx with hx | hx
        · exact Or.inr (Or.inl hx)
        · rcases ih hx with hx | hx
          · exact Or.inl hx
          · exact Or.inr (Or.inr hx)

theorem ascending_set (t : Tbl α) (k : Nat) (v : α) (h : Ascending t) : Ascending (t.set k v) := by
  obtain ⟨l⟩ := t
  simp only [Ascending, Tbl.keys, Tbl.set] at h ⊢
  induction l with
  | nil => simp [insertIn]
  | cons e t ih =>
    obtain ⟨j, w⟩ := e
    simp only [List.map_cons, List.pairwise_cons] at h
    simp only [insertIn]
    split
    · rename_i hk
      simp only [List.map_cons, List.pairwise_cons, List.mem_cons]
      refine ⟨fun x hx => ?_, h⟩
      rcases hx with rfl | hx
      · exact hk
      · exact Nat.lt_trans hk (h.1 x hx)
    · split
      · rename_i hk; subst hk
        simpa only [List.map_cons, List.pairwise_cons] using h
      · rename_i h1 h2
        simp only [List.map_cons, List.pairwise_cons]
        refine ⟨fun x hx => ?_, ih h.2⟩
        rcases keys_insertIn _ _ _ _ hx with rfl | hx
        · omega
        · exact h.1 x hx

theorem ascending_keep (t : Tbl α) (p : Nat → Bool) (h : Ascending t) : Ascending (t.keep p) :=
  List.Pairwise.sublist (List.Sublist.map _ List.filter_sublist) h

theorem ascending_erase (t : Tbl α) (k : Nat) (h : Ascending t) : Ascending (t.erase k) :=
  List.Pairwise.sublist (List.Sublist.map _ List.filter_sublist) h

end Sys2Proof.Laws
end

