-- ==== Sys2Proof/Laws/State.lean ====
section
/-!
SUPPORT. Laws/State.lean: what each named update of the state leaves alone, one lemma for each field, and what it writes.
-/

namespace Sys2Proof.Laws

open Sys2Proof Sys2Proof.Machine

set_option Elab.async false

@[simp] theorem setReg_pending (a : Nat) (v : BitVec 64) (s : State) : (setReg a v s).pending = s.pending := rfl
@[simp] theorem setReg_now (a : Nat) (v : BitVec 64) (s : State) : (setReg a v s).now = s.now := rfl
@[simp] theorem setReg_draws (a : Nat) (v : BitVec 64) (s : State) : (setReg a v s).draws = s.draws := rfl
@[simp] theorem setReg_out (a : Nat) (v : BitVec 64) (s : State) : (setReg a v s).out = s.out := rfl
@[simp] theorem setReg_staged (a : Nat) (v : BitVec 64) (s : State) : (setReg a v s).staged = s.staged := rfl
@[simp] theorem setReg_captured (a : Nat) (v : BitVec 64) (s : State) : (setReg a v s).captured = s.captured := rfl
@[simp] theorem setReg_rdata (a : Nat) (v : BitVec 64) (s : State) : (setReg a v s).rdata = s.rdata := rfl
@[simp] theorem setReg_evq (a : Nat) (v : BitVec 64) (s : State) : (setReg a v s).evq = s.evq := rfl
@[simp] theorem setReg_rst (a : Nat) (v : BitVec 64) (s : State) : (setReg a v s).rst = s.rst := rfl
@[simp] theorem setReg_fuses (a : Nat) (v : BitVec 64) (s : State) : (setReg a v s).fuses = s.fuses := rfl
@[simp] theorem setReg_shadow (a : Nat) (v : BitVec 64) (s : State) : (setReg a v s).shadow = s.shadow := rfl
@[simp] theorem setReg_flash (a : Nat) (v : BitVec 64) (s : State) : (setReg a v s).flash = s.flash := rfl
@[simp] theorem setReg_keeper (a : Nat) (v : BitVec 64) (s : State) : (setReg a v s).keeper = s.keeper := rfl
@[simp] theorem setReg_sec (a : Nat) (v : BitVec 64) (s : State) : (setReg a v s).sec = s.sec := rfl
@[simp] theorem setReg_txn (a : Nat) (v : BitVec 64) (s : State) : (setReg a v s).txn = s.txn := rfl
@[simp] theorem setReg_mem (a : Nat) (v : BitVec 64) (s : State) : (setReg a v s).mem = s.mem := rfl
@[simp] theorem setReg_xlt (a : Nat) (v : BitVec 64) (s : State) : (setReg a v s).xlt = s.xlt := rfl
@[simp] theorem setReg_imp (a : Nat) (v : BitVec 64) (s : State) : (setReg a v s).imp = s.imp := rfl
@[simp] theorem setReg_qe (a : Nat) (v : BitVec 64) (s : State) : (setReg a v s).qe = s.qe := rfl
@[simp] theorem setReg_seq (a : Nat) (v : BitVec 64) (s : State) : (setReg a v s).seq = s.seq := rfl
@[simp] theorem setReg_router (a : Nat) (v : BitVec 64) (s : State) : (setReg a v s).router = s.router := rfl
@[simp] theorem setReg_links (a : Nat) (v : BitVec 64) (s : State) : (setReg a v s).links = s.links := rfl
@[simp] theorem setReg_lanes (a : Nat) (v : BitVec 64) (s : State) : (setReg a v s).lanes = s.lanes := rfl

@[simp] theorem drive_pending (o : Out) (s : State) : (drive o s).pending = s.pending := rfl
@[simp] theorem drive_now (o : Out) (s : State) : (drive o s).now = s.now := rfl
@[simp] theorem drive_draws (o : Out) (s : State) : (drive o s).draws = s.draws := rfl
@[simp] theorem drive_regs (o : Out) (s : State) : (drive o s).regs = s.regs := rfl
@[simp] theorem drive_staged (o : Out) (s : State) : (drive o s).staged = s.staged := rfl
@[simp] theorem drive_captured (o : Out) (s : State) : (drive o s).captured = s.captured := rfl
@[simp] theorem drive_rdata (o : Out) (s : State) : (drive o s).rdata = s.rdata := rfl
@[simp] theorem drive_evq (o : Out) (s : State) : (drive o s).evq = s.evq := rfl
@[simp] theorem drive_rst (o : Out) (s : State) : (drive o s).rst = s.rst := rfl
@[simp] theorem drive_fuses (o : Out) (s : State) : (drive o s).fuses = s.fuses := rfl
@[simp] theorem drive_shadow (o : Out) (s : State) : (drive o s).shadow = s.shadow := rfl
@[simp] theorem drive_flash (o : Out) (s : State) : (drive o s).flash = s.flash := rfl
@[simp] theorem drive_keeper (o : Out) (s : State) : (drive o s).keeper = s.keeper := rfl
@[simp] theorem drive_sec (o : Out) (s : State) : (drive o s).sec = s.sec := rfl
@[simp] theorem drive_txn (o : Out) (s : State) : (drive o s).txn = s.txn := rfl
@[simp] theorem drive_mem (o : Out) (s : State) : (drive o s).mem = s.mem := rfl
@[simp] theorem drive_xlt (o : Out) (s : State) : (drive o s).xlt = s.xlt := rfl
@[simp] theorem drive_imp (o : Out) (s : State) : (drive o s).imp = s.imp := rfl
@[simp] theorem drive_qe (o : Out) (s : State) : (drive o s).qe = s.qe := rfl
@[simp] theorem drive_seq (o : Out) (s : State) : (drive o s).seq = s.seq := rfl
@[simp] theorem drive_router (o : Out) (s : State) : (drive o s).router = s.router := rfl
@[simp] theorem drive_links (o : Out) (s : State) : (drive o s).links = s.links := rfl
@[simp] theorem drive_lanes (o : Out) (s : State) : (drive o s).lanes = s.lanes := rfl

@[simp] theorem setLink_pending (k : Nat) (l : Link) (s : State) : (setLink k l s).pending = s.pending := rfl
@[simp] theorem setLink_now (k : Nat) (l : Link) (s : State) : (setLink k l s).now = s.now := rfl
@[simp] theorem setLink_draws (k : Nat) (l : Link) (s : State) : (setLink k l s).draws = s.draws := rfl
@[simp] theorem setLink_out (k : Nat) (l : Link) (s : State) : (setLink k l s).out = s.out := rfl
@[simp] theorem setLink_regs (k : Nat) (l : Link) (s : State) : (setLink k l s).regs = s.regs := rfl
@[simp] theorem setLink_staged (k : Nat) (l : Link) (s : State) : (setLink k l s).staged = s.staged := rfl
@[simp] theorem setLink_captured (k : Nat) (l : Link) (s : State) : (setLink k l s).captured = s.captured := rfl
@[simp] theorem setLink_rdata (k : Nat) (l : Link) (s : State) : (setLink k l s).rdata = s.rdata := rfl
@[simp] theorem setLink_evq (k : Nat) (l : Link) (s : State) : (setLink k l s).evq = s.evq := rfl
@[simp] theorem setLink_rst (k : Nat) (l : Link) (s : State) : (setLink k l s).rst = s.rst := rfl
@[simp] theorem setLink_fuses (k : Nat) (l : Link) (s : State) : (setLink k l s).fuses = s.fuses := rfl
@[simp] theorem setLink_shadow (k : Nat) (l : Link) (s : State) : (setLink k l s).shadow = s.shadow := rfl
@[simp] theorem setLink_flash (k : Nat) (l : Link) (s : State) : (setLink k l s).flash = s.flash := rfl
@[simp] theorem setLink_keeper (k : Nat) (l : Link) (s : State) : (setLink k l s).keeper = s.keeper := rfl
@[simp] theorem setLink_sec (k : Nat) (l : Link) (s : State) : (setLink k l s).sec = s.sec := rfl
@[simp] theorem setLink_txn (k : Nat) (l : Link) (s : State) : (setLink k l s).txn = s.txn := rfl
@[simp] theorem setLink_mem (k : Nat) (l : Link) (s : State) : (setLink k l s).mem = s.mem := rfl
@[simp] theorem setLink_xlt (k : Nat) (l : Link) (s : State) : (setLink k l s).xlt = s.xlt := rfl
@[simp] theorem setLink_imp (k : Nat) (l : Link) (s : State) : (setLink k l s).imp = s.imp := rfl
@[simp] theorem setLink_qe (k : Nat) (l : Link) (s : State) : (setLink k l s).qe = s.qe := rfl
@[simp] theorem setLink_seq (k : Nat) (l : Link) (s : State) : (setLink k l s).seq = s.seq := rfl
@[simp] theorem setLink_router (k : Nat) (l : Link) (s : State) : (setLink k l s).router = s.router := rfl
@[simp] theorem setLink_lanes (k : Nat) (l : Link) (s : State) : (setLink k l s).lanes = s.lanes := rfl

@[simp] theorem modLink_pending (k : Nat) (f : Link → Link) (s : State) : (modLink k f s).pending = s.pending := rfl
@[simp] theorem modLink_now (k : Nat) (f : Link → Link) (s : State) : (modLink k f s).now = s.now := rfl
@[simp] theorem modLink_draws (k : Nat) (f : Link → Link) (s : State) : (modLink k f s).draws = s.draws := rfl
@[simp] theorem modLink_out (k : Nat) (f : Link → Link) (s : State) : (modLink k f s).out = s.out := rfl
@[simp] theorem modLink_regs (k : Nat) (f : Link → Link) (s : State) : (modLink k f s).regs = s.regs := rfl
@[simp] theorem modLink_staged (k : Nat) (f : Link → Link) (s : State) : (modLink k f s).staged = s.staged := rfl
@[simp] theorem modLink_captured (k : Nat) (f : Link → Link) (s : State) : (modLink k f s).captured = s.captured := rfl
@[simp] theorem modLink_rdata (k : Nat) (f : Link → Link) (s : State) : (modLink k f s).rdata = s.rdata := rfl
@[simp] theorem modLink_evq (k : Nat) (f : Link → Link) (s : State) : (modLink k f s).evq = s.evq := rfl
@[simp] theorem modLink_rst (k : Nat) (f : Link → Link) (s : State) : (modLink k f s).rst = s.rst := rfl
@[simp] theorem modLink_fuses (k : Nat) (f : Link → Link) (s : State) : (modLink k f s).fuses = s.fuses := rfl
@[simp] theorem modLink_shadow (k : Nat) (f : Link → Link) (s : State) : (modLink k f s).shadow = s.shadow := rfl
@[simp] theorem modLink_flash (k : Nat) (f : Link → Link) (s : State) : (modLink k f s).flash = s.flash := rfl
@[simp] theorem modLink_keeper (k : Nat) (f : Link → Link) (s : State) : (modLink k f s).keeper = s.keeper := rfl
@[simp] theorem modLink_sec (k : Nat) (f : Link → Link) (s : State) : (modLink k f s).sec = s.sec := rfl
@[simp] theorem modLink_txn (k : Nat) (f : Link → Link) (s : State) : (modLink k f s).txn = s.txn := rfl
@[simp] theorem modLink_mem (k : Nat) (f : Link → Link) (s : State) : (modLink k f s).mem = s.mem := rfl
@[simp] theorem modLink_xlt (k : Nat) (f : Link → Link) (s : State) : (modLink k f s).xlt = s.xlt := rfl
@[simp] theorem modLink_imp (k : Nat) (f : Link → Link) (s : State) : (modLink k f s).imp = s.imp := rfl
@[simp] theorem modLink_qe (k : Nat) (f : Link → Link) (s : State) : (modLink k f s).qe = s.qe := rfl
@[simp] theorem modLink_seq (k : Nat) (f : Link → Link) (s : State) : (modLink k f s).seq = s.seq := rfl
@[simp] theorem modLink_router (k : Nat) (f : Link → Link) (s : State) : (modLink k f s).router = s.router := rfl
@[simp] theorem modLink_lanes (k : Nat) (f : Link → Link) (s : State) : (modLink k f s).lanes = s.lanes := rfl

@[simp] theorem setLane_pending (n : Nat) (l : Lane) (s : State) : (setLane n l s).pending = s.pending := rfl
@[simp] theorem setLane_now (n : Nat) (l : Lane) (s : State) : (setLane n l s).now = s.now := rfl
@[simp] theorem setLane_draws (n : Nat) (l : Lane) (s : State) : (setLane n l s).draws = s.draws := rfl
@[simp] theorem setLane_out (n : Nat) (l : Lane) (s : State) : (setLane n l s).out = s.out := rfl
@[simp] theorem setLane_regs (n : Nat) (l : Lane) (s : State) : (setLane n l s).regs = s.regs := rfl
@[simp] theorem setLane_staged (n : Nat) (l : Lane) (s : State) : (setLane n l s).staged = s.staged := rfl
@[simp] theorem setLane_captured (n : Nat) (l : Lane) (s : State) : (setLane n l s).captured = s.captured := rfl
@[simp] theorem setLane_rdata (n : Nat) (l : Lane) (s : State) : (setLane n l s).rdata = s.rdata := rfl
@[simp] theorem setLane_evq (n : Nat) (l : Lane) (s : State) : (setLane n l s).evq = s.evq := rfl
@[simp] theorem setLane_rst (n : Nat) (l : Lane) (s : State) : (setLane n l s).rst = s.rst := rfl
@[simp] theorem setLane_fuses (n : Nat) (l : Lane) (s : State) : (setLane n l s).fuses = s.fuses := rfl
@[simp] theorem setLane_shadow (n : Nat) (l : Lane) (s : State) : (setLane n l s).shadow = s.shadow := rfl
@[simp] theorem setLane_flash (n : Nat) (l : Lane) (s : State) : (setLane n l s).flash = s.flash := rfl
@[simp] theorem setLane_keeper (n : Nat) (l : Lane) (s : State) : (setLane n l s).keeper = s.keeper := rfl
@[simp] theorem setLane_sec (n : Nat) (l : Lane) (s : State) : (setLane n l s).sec = s.sec := rfl
@[simp] theorem setLane_txn (n : Nat) (l : Lane) (s : State) : (setLane n l s).txn = s.txn := rfl
@[simp] theorem setLane_mem (n : Nat) (l : Lane) (s : State) : (setLane n l s).mem = s.mem := rfl
@[simp] theorem setLane_xlt (n : Nat) (l : Lane) (s : State) : (setLane n l s).xlt = s.xlt := rfl
@[simp] theorem setLane_imp (n : Nat) (l : Lane) (s : State) : (setLane n l s).imp = s.imp := rfl
@[simp] theorem setLane_qe (n : Nat) (l : Lane) (s : State) : (setLane n l s).qe = s.qe := rfl
@[simp] theorem setLane_seq (n : Nat) (l : Lane) (s : State) : (setLane n l s).seq = s.seq := rfl
@[simp] theorem setLane_router (n : Nat) (l : Lane) (s : State) : (setLane n l s).router = s.router := rfl
@[simp] theorem setLane_links (n : Nat) (l : Lane) (s : State) : (setLane n l s).links = s.links := rfl

@[simp] theorem modLane_pending (n : Nat) (f : Lane → Lane) (s : State) : (modLane n f s).pending = s.pending := rfl
@[simp] theorem modLane_now (n : Nat) (f : Lane → Lane) (s : State) : (modLane n f s).now = s.now := rfl
@[simp] theorem modLane_draws (n : Nat) (f : Lane → Lane) (s : State) : (modLane n f s).draws = s.draws := rfl
@[simp] theorem modLane_out (n : Nat) (f : Lane → Lane) (s : State) : (modLane n f s).out = s.out := rfl
@[simp] theorem modLane_regs (n : Nat) (f : Lane → Lane) (s : State) : (modLane n f s).regs = s.regs := rfl
@[simp] theorem modLane_staged (n : Nat) (f : Lane → Lane) (s : State) : (modLane n f s).staged = s.staged := rfl
@[simp] theorem modLane_captured (n : Nat) (f : Lane → Lane) (s : State) : (modLane n f s).captured = s.captured := rfl
@[simp] theorem modLane_rdata (n : Nat) (f : Lane → Lane) (s : State) : (modLane n f s).rdata = s.rdata := rfl
@[simp] theorem modLane_evq (n : Nat) (f : Lane → Lane) (s : State) : (modLane n f s).evq = s.evq := rfl
@[simp] theorem modLane_rst (n : Nat) (f : Lane → Lane) (s : State) : (modLane n f s).rst = s.rst := rfl
@[simp] theorem modLane_fuses (n : Nat) (f : Lane → Lane) (s : State) : (modLane n f s).fuses = s.fuses := rfl
@[simp] theorem modLane_shadow (n : Nat) (f : Lane → Lane) (s : State) : (modLane n f s).shadow = s.shadow := rfl
@[simp] theorem modLane_flash (n : Nat) (f : Lane → Lane) (s : State) : (modLane n f s).flash = s.flash := rfl
@[simp] theorem modLane_keeper (n : Nat) (f : Lane → Lane) (s : State) : (modLane n f s).keeper = s.keeper := rfl
@[simp] theorem modLane_sec (n : Nat) (f : Lane → Lane) (s : State) : (modLane n f s).sec = s.sec := rfl
@[simp] theorem modLane_txn (n : Nat) (f : Lane → Lane) (s : State) : (modLane n f s).txn = s.txn := rfl
@[simp] theorem modLane_mem (n : Nat) (f : Lane → Lane) (s : State) : (modLane n f s).mem = s.mem := rfl
@[simp] theorem modLane_xlt (n : Nat) (f : Lane → Lane) (s : State) : (modLane n f s).xlt = s.xlt := rfl
@[simp] theorem modLane_imp (n : Nat) (f : Lane → Lane) (s : State) : (modLane n f s).imp = s.imp := rfl
@[simp] theorem modLane_qe (n : Nat) (f : Lane → Lane) (s : State) : (modLane n f s).qe = s.qe := rfl
@[simp] theorem modLane_seq (n : Nat) (f : Lane → Lane) (s : State) : (modLane n f s).seq = s.seq := rfl
@[simp] theorem modLane_router (n : Nat) (f : Lane → Lane) (s : State) : (modLane n f s).router = s.router := rfl
@[simp] theorem modLane_links (n : Nat) (f : Lane → Lane) (s : State) : (modLane n f s).links = s.links := rfl

@[simp] theorem modPart_pending (p : Nat) (f : Part → Part) (s : State) : (modPart p f s).pending = s.pending := rfl
@[simp] theorem modPart_now (p : Nat) (f : Part → Part) (s : State) : (modPart p f s).now = s.now := rfl
@[simp] theorem modPart_draws (p : Nat) (f : Part → Part) (s : State) : (modPart p f s).draws = s.draws := rfl
@[simp] theorem modPart_out (p : Nat) (f : Part → Part) (s : State) : (modPart p f s).out = s.out := rfl
@[simp] theorem modPart_regs (p : Nat) (f : Part → Part) (s : State) : (modPart p f s).regs = s.regs := rfl
@[simp] theorem modPart_staged (p : Nat) (f : Part → Part) (s : State) : (modPart p f s).staged = s.staged := rfl
@[simp] theorem modPart_captured (p : Nat) (f : Part → Part) (s : State) : (modPart p f s).captured = s.captured := rfl
@[simp] theorem modPart_rdata (p : Nat) (f : Part → Part) (s : State) : (modPart p f s).rdata = s.rdata := rfl
@[simp] theorem modPart_evq (p : Nat) (f : Part → Part) (s : State) : (modPart p f s).evq = s.evq := rfl
@[simp] theorem modPart_rst (p : Nat) (f : Part → Part) (s : State) : (modPart p f s).rst = s.rst := rfl
@[simp] theorem modPart_fuses (p : Nat) (f : Part → Part) (s : State) : (modPart p f s).fuses = s.fuses := rfl
@[simp] theorem modPart_shadow (p : Nat) (f : Part → Part) (s : State) : (modPart p f s).shadow = s.shadow := rfl
@[simp] theorem modPart_flash (p : Nat) (f : Part → Part) (s : State) : (modPart p f s).flash = s.flash := rfl
@[simp] theorem modPart_keeper (p : Nat) (f : Part → Part) (s : State) : (modPart p f s).keeper = s.keeper := rfl
@[simp] theorem modPart_txn (p : Nat) (f : Part → Part) (s : State) : (modPart p f s).txn = s.txn := rfl
@[simp] theorem modPart_mem (p : Nat) (f : Part → Part) (s : State) : (modPart p f s).mem = s.mem := rfl
@[simp] theorem modPart_xlt (p : Nat) (f : Part → Part) (s : State) : (modPart p f s).xlt = s.xlt := rfl
@[simp] theorem modPart_imp (p : Nat) (f : Part → Part) (s : State) : (modPart p f s).imp = s.imp := rfl
@[simp] theorem modPart_qe (p : Nat) (f : Part → Part) (s : State) : (modPart p f s).qe = s.qe := rfl
@[simp] theorem modPart_seq (p : Nat) (f : Part → Part) (s : State) : (modPart p f s).seq = s.seq := rfl
@[simp] theorem modPart_router (p : Nat) (f : Part → Part) (s : State) : (modPart p f s).router = s.router := rfl
@[simp] theorem modPart_links (p : Nat) (f : Part → Part) (s : State) : (modPart p f s).links = s.links := rfl
@[simp] theorem modPart_lanes (p : Nat) (f : Part → Part) (s : State) : (modPart p f s).lanes = s.lanes := rfl

@[simp] theorem modSec_pending (f : Security → Security) (s : State) : (modSec f s).pending = s.pending := rfl
@[simp] theorem modSec_now (f : Security → Security) (s : State) : (modSec f s).now = s.now := rfl
@[simp] theorem modSec_draws (f : Security → Security) (s : State) : (modSec f s).draws = s.draws := rfl
@[simp] theorem modSec_out (f : Security → Security) (s : State) : (modSec f s).out = s.out := rfl
@[simp] theorem modSec_regs (f : Security → Security) (s : State) : (modSec f s).regs = s.regs := rfl
@[simp] theorem modSec_staged (f : Security → Security) (s : State) : (modSec f s).staged = s.staged := rfl
@[simp] theorem modSec_captured (f : Security → Security) (s : State) : (modSec f s).captured = s.captured := rfl
@[simp] theorem modSec_rdata (f : Security → Security) (s : State) : (modSec f s).rdata = s.rdata := rfl
@[simp] theorem modSec_evq (f : Security → Security) (s : State) : (modSec f s).evq = s.evq := rfl
@[simp] theorem modSec_rst (f : Security → Security) (s : State) : (modSec f s).rst = s.rst := rfl
@[simp] theorem modSec_fuses (f : Security → Security) (s : State) : (modSec f s).fuses = s.fuses := rfl
@[simp] theorem modSec_shadow (f : Security → Security) (s : State) : (modSec f s).shadow = s.shadow := rfl
@[simp] theorem modSec_flash (f : Security → Security) (s : State) : (modSec f s).flash = s.flash := rfl
@[simp] theorem modSec_keeper (f : Security → Security) (s : State) : (modSec f s).keeper = s.keeper := rfl
@[simp] theorem modSec_txn (f : Security → Security) (s : State) : (modSec f s).txn = s.txn := rfl
@[simp] theorem modSec_mem (f : Security → Security) (s : State) : (modSec f s).mem = s.mem := rfl
@[simp] theorem modSec_xlt (f : Security → Security) (s : State) : (modSec f s).xlt = s.xlt := rfl
@[simp] theorem modSec_imp (f : Security → Security) (s : State) : (modSec f s).imp = s.imp := rfl
@[simp] theorem modSec_qe (f : Security → Security) (s : State) : (modSec f s).qe = s.qe := rfl
@[simp] theorem modSec_seq (f : Security → Security) (s : State) : (modSec f s).seq = s.seq := rfl
@[simp] theorem modSec_router (f : Security → Security) (s : State) : (modSec f s).router = s.router := rfl
@[simp] theorem modSec_links (f : Security → Security) (s : State) : (modSec f s).links = s.links := rfl
@[simp] theorem modSec_lanes (f : Security → Security) (s : State) : (modSec f s).lanes = s.lanes := rfl

@[simp] theorem setChan_pending (c : Nat) (v : Chan) (s : State) : (setChan c v s).pending = s.pending := rfl
@[simp] theorem setChan_now (c : Nat) (v : Chan) (s : State) : (setChan c v s).now = s.now := rfl
@[simp] theorem setChan_draws (c : Nat) (v : Chan) (s : State) : (setChan c v s).draws = s.draws := rfl
@[simp] theorem setChan_out (c : Nat) (v : Chan) (s : State) : (setChan c v s).out = s.out := rfl
@[simp] theorem setChan_regs (c : Nat) (v : Chan) (s : State) : (setChan c v s).regs = s.regs := rfl
@[simp] theorem setChan_staged (c : Nat) (v : Chan) (s : State) : (setChan c v s).staged = s.staged := rfl
@[simp] theorem setChan_captured (c : Nat) (v : Chan) (s : State) : (setChan c v s).captured = s.captured := rfl
@[simp] theorem setChan_rdata (c : Nat) (v : Chan) (s : State) : (setChan c v s).rdata = s.rdata := rfl
@[simp] theorem setChan_evq (c : Nat) (v : Chan) (s : State) : (setChan c v s).evq = s.evq := rfl
@[simp] theorem setChan_rst (c : Nat) (v : Chan) (s : State) : (setChan c v s).rst = s.rst := rfl
@[simp] theorem setChan_fuses (c : Nat) (v : Chan) (s : State) : (setChan c v s).fuses = s.fuses := rfl
@[simp] theorem setChan_shadow (c : Nat) (v : Chan) (s : State) : (setChan c v s).shadow = s.shadow := rfl
@[simp] theorem setChan_flash (c : Nat) (v : Chan) (s : State) : (setChan c v s).flash = s.flash := rfl
@[simp] theorem setChan_keeper (c : Nat) (v : Chan) (s : State) : (setChan c v s).keeper = s.keeper := rfl
@[simp] theorem setChan_txn (c : Nat) (v : Chan) (s : State) : (setChan c v s).txn = s.txn := rfl
@[simp] theorem setChan_mem (c : Nat) (v : Chan) (s : State) : (setChan c v s).mem = s.mem := rfl
@[simp] theorem setChan_xlt (c : Nat) (v : Chan) (s : State) : (setChan c v s).xlt = s.xlt := rfl
@[simp] theorem setChan_imp (c : Nat) (v : Chan) (s : State) : (setChan c v s).imp = s.imp := rfl
@[simp] theorem setChan_qe (c : Nat) (v : Chan) (s : State) : (setChan c v s).qe = s.qe := rfl
@[simp] theorem setChan_seq (c : Nat) (v : Chan) (s : State) : (setChan c v s).seq = s.seq := rfl
@[simp] theorem setChan_router (c : Nat) (v : Chan) (s : State) : (setChan c v s).router = s.router := rfl
@[simp] theorem setChan_links (c : Nat) (v : Chan) (s : State) : (setChan c v s).links = s.links := rfl
@[simp] theorem setChan_lanes (c : Nat) (v : Chan) (s : State) : (setChan c v s).lanes = s.lanes := rfl

@[simp] theorem modKeeper_pending (f : Keeper → Keeper) (s : State) : (modKeeper f s).pending = s.pending := rfl
@[simp] theorem modKeeper_now (f : Keeper → Keeper) (s : State) : (modKeeper f s).now = s.now := rfl
@[simp] theorem modKeeper_draws (f : Keeper → Keeper) (s : State) : (modKeeper f s).draws = s.draws := rfl
@[simp] theorem modKeeper_out (f : Keeper → Keeper) (s : State) : (modKeeper f s).out = s.out := rfl
@[simp] theorem modKeeper_regs (f : Keeper → Keeper) (s : State) : (modKeeper f s).regs = s.regs := rfl
@[simp] theorem modKeeper_staged (f : Keeper → Keeper) (s : State) : (modKeeper f s).staged = s.staged := rfl
@[simp] theorem modKeeper_captured (f : Keeper → Keeper) (s : State) : (modKeeper f s).captured = s.captured := rfl
@[simp] theorem modKeeper_rdata (f : Keeper → Keeper) (s : State) : (modKeeper f s).rdata = s.rdata := rfl
@[simp] theorem modKeeper_evq (f : Keeper → Keeper) (s : State) : (modKeeper f s).evq = s.evq := rfl
@[simp] theorem modKeeper_rst (f : Keeper → Keeper) (s : State) : (modKeeper f s).rst = s.rst := rfl
@[simp] theorem modKeeper_fuses (f : Keeper → Keeper) (s : State) : (modKeeper f s).fuses = s.fuses := rfl
@[simp] theorem modKeeper_shadow (f : Keeper → Keeper) (s : State) : (modKeeper f s).shadow = s.shadow := rfl
@[simp] theorem modKeeper_flash (f : Keeper → Keeper) (s : State) : (modKeeper f s).flash = s.flash := rfl
@[simp] theorem modKeeper_sec (f : Keeper → Keeper) (s : State) : (modKeeper f s).sec = s.sec := rfl
@[simp] theorem modKeeper_txn (f : Keeper → Keeper) (s : State) : (modKeeper f s).txn = s.txn := rfl
@[simp] theorem modKeeper_mem (f : Keeper → Keeper) (s : State) : (modKeeper f s).mem = s.mem := rfl
@[simp] theorem modKeeper_xlt (f : Keeper → Keeper) (s : State) : (modKeeper f s).xlt = s.xlt := rfl
@[simp] theorem modKeeper_imp (f : Keeper → Keeper) (s : State) : (modKeeper f s).imp = s.imp := rfl
@[simp] theorem modKeeper_qe (f : Keeper → Keeper) (s : State) : (modKeeper f s).qe = s.qe := rfl
@[simp] theorem modKeeper_seq (f : Keeper → Keeper) (s : State) : (modKeeper f s).seq = s.seq := rfl
@[simp] theorem modKeeper_router (f : Keeper → Keeper) (s : State) : (modKeeper f s).router = s.router := rfl
@[simp] theorem modKeeper_links (f : Keeper → Keeper) (s : State) : (modKeeper f s).links = s.links := rfl
@[simp] theorem modKeeper_lanes (f : Keeper → Keeper) (s : State) : (modKeeper f s).lanes = s.lanes := rfl

@[simp] theorem modRst_pending (f : ResetUnit → ResetUnit) (s : State) : (modRst f s).pending = s.pending := rfl
@[simp] theorem modRst_now (f : ResetUnit → ResetUnit) (s : State) : (modRst f s).now = s.now := rfl
@[simp] theorem modRst_draws (f : ResetUnit → ResetUnit) (s : State) : (modRst f s).draws = s.draws := rfl
@[simp] theorem modRst_out (f : ResetUnit → ResetUnit) (s : State) : (modRst f s).out = s.out := rfl
@[simp] theorem modRst_regs (f : ResetUnit → ResetUnit) (s : State) : (modRst f s).regs = s.regs := rfl
@[simp] theorem modRst_staged (f : ResetUnit → ResetUnit) (s : State) : (modRst f s).staged = s.staged := rfl
@[simp] theorem modRst_captured (f : ResetUnit → ResetUnit) (s : State) : (modRst f s).captured = s.captured := rfl
@[simp] theorem modRst_rdata (f : ResetUnit → ResetUnit) (s : State) : (modRst f s).rdata = s.rdata := rfl
@[simp] theorem modRst_evq (f : ResetUnit → ResetUnit) (s : State) : (modRst f s).evq = s.evq := rfl
@[simp] theorem modRst_fuses (f : ResetUnit → ResetUnit) (s : State) : (modRst f s).fuses = s.fuses := rfl
@[simp] theorem modRst_shadow (f : ResetUnit → ResetUnit) (s : State) : (modRst f s).shadow = s.shadow := rfl
@[simp] theorem modRst_flash (f : ResetUnit → ResetUnit) (s : State) : (modRst f s).flash = s.flash := rfl
@[simp] theorem modRst_keeper (f : ResetUnit → ResetUnit) (s : State) : (modRst f s).keeper = s.keeper := rfl
@[simp] theorem modRst_sec (f : ResetUnit → ResetUnit) (s : State) : (modRst f s).sec = s.sec := rfl
@[simp] theorem modRst_txn (f : ResetUnit → ResetUnit) (s : State) : (modRst f s).txn = s.txn := rfl
@[simp] theorem modRst_mem (f : ResetUnit → ResetUnit) (s : State) : (modRst f s).mem = s.mem := rfl
@[simp] theorem modRst_xlt (f : ResetUnit → ResetUnit) (s : State) : (modRst f s).xlt = s.xlt := rfl
@[simp] theorem modRst_imp (f : ResetUnit → ResetUnit) (s : State) : (modRst f s).imp = s.imp := rfl
@[simp] theorem modRst_qe (f : ResetUnit → ResetUnit) (s : State) : (modRst f s).qe = s.qe := rfl
@[simp] theorem modRst_seq (f : ResetUnit → ResetUnit) (s : State) : (modRst f s).seq = s.seq := rfl
@[simp] theorem modRst_router (f : ResetUnit → ResetUnit) (s : State) : (modRst f s).router = s.router := rfl
@[simp] theorem modRst_links (f : ResetUnit → ResetUnit) (s : State) : (modRst f s).links = s.links := rfl
@[simp] theorem modRst_lanes (f : ResetUnit → ResetUnit) (s : State) : (modRst f s).lanes = s.lanes := rfl

@[simp] theorem setQueue_pending (q : Nat) (v : Queue) (s : State) : (setQueue q v s).pending = s.pending := rfl
@[simp] theorem setQueue_now (q : Nat) (v : Queue) (s : State) : (setQueue q v s).now = s.now := rfl
@[simp] theorem setQueue_draws (q : Nat) (v : Queue) (s : State) : (setQueue q v s).draws = s.draws := rfl
@[simp] theorem setQueue_out (q : Nat) (v : Queue) (s : State) : (setQueue q v s).out = s.out := rfl
@[simp] theorem setQueue_regs (q : Nat) (v : Queue) (s : State) : (setQueue q v s).regs = s.regs := rfl
@[simp] theorem setQueue_staged (q : Nat) (v : Queue) (s : State) : (setQueue q v s).staged = s.staged := rfl
@[simp] theorem setQueue_captured (q : Nat) (v : Queue) (s : State) : (setQueue q v s).captured = s.captured := rfl
@[simp] theorem setQueue_rdata (q : Nat) (v : Queue) (s : State) : (setQueue q v s).rdata = s.rdata := rfl
@[simp] theorem setQueue_evq (q : Nat) (v : Queue) (s : State) : (setQueue q v s).evq = s.evq := rfl
@[simp] theorem setQueue_rst (q : Nat) (v : Queue) (s : State) : (setQueue q v s).rst = s.rst := rfl
@[simp] theorem setQueue_fuses (q : Nat) (v : Queue) (s : State) : (setQueue q v s).fuses = s.fuses := rfl
@[simp] theorem setQueue_shadow (q : Nat) (v : Queue) (s : State) : (setQueue q v s).shadow = s.shadow := rfl
@[simp] theorem setQueue_flash (q : Nat) (v : Queue) (s : State) : (setQueue q v s).flash = s.flash := rfl
@[simp] theorem setQueue_keeper (q : Nat) (v : Queue) (s : State) : (setQueue q v s).keeper = s.keeper := rfl
@[simp] theorem setQueue_sec (q : Nat) (v : Queue) (s : State) : (setQueue q v s).sec = s.sec := rfl
@[simp] theorem setQueue_txn (q : Nat) (v : Queue) (s : State) : (setQueue q v s).txn = s.txn := rfl
@[simp] theorem setQueue_mem (q : Nat) (v : Queue) (s : State) : (setQueue q v s).mem = s.mem := rfl
@[simp] theorem setQueue_xlt (q : Nat) (v : Queue) (s : State) : (setQueue q v s).xlt = s.xlt := rfl
@[simp] theorem setQueue_imp (q : Nat) (v : Queue) (s : State) : (setQueue q v s).imp = s.imp := rfl
@[simp] theorem setQueue_seq (q : Nat) (v : Queue) (s : State) : (setQueue q v s).seq = s.seq := rfl
@[simp] theorem setQueue_router (q : Nat) (v : Queue) (s : State) : (setQueue q v s).router = s.router := rfl
@[simp] theorem setQueue_links (q : Nat) (v : Queue) (s : State) : (setQueue q v s).links = s.links := rfl
@[simp] theorem setQueue_lanes (q : Nat) (v : Queue) (s : State) : (setQueue q v s).lanes = s.lanes := rfl

@[simp] theorem modQueue_pending (q : Nat) (f : Queue → Queue) (s : State) : (modQueue q f s).pending = s.pending := rfl
@[simp] theorem modQueue_now (q : Nat) (f : Queue → Queue) (s : State) : (modQueue q f s).now = s.now := rfl
@[simp] theorem modQueue_draws (q : Nat) (f : Queue → Queue) (s : State) : (modQueue q f s).draws = s.draws := rfl
@[simp] theorem modQueue_out (q : Nat) (f : Queue → Queue) (s : State) : (modQueue q f s).out = s.out := rfl
@[simp] theorem modQueue_regs (q : Nat) (f : Queue → Queue) (s : State) : (modQueue q f s).regs = s.regs := rfl
@[simp] theorem modQueue_staged (q : Nat) (f : Queue → Queue) (s : State) : (modQueue q f s).staged = s.staged := rfl
@[simp] theorem modQueue_captured (q : Nat) (f : Queue → Queue) (s : State) : (modQueue q f s).captured = s.captured := rfl
@[simp] theorem modQueue_rdata (q : Nat) (f : Queue → Queue) (s : State) : (modQueue q f s).rdata = s.rdata := rfl
@[simp] theorem modQueue_evq (q : Nat) (f : Queue → Queue) (s : State) : (modQueue q f s).evq = s.evq := rfl
@[simp] theorem modQueue_rst (q : Nat) (f : Queue → Queue) (s : State) : (modQueue q f s).rst = s.rst := rfl
@[simp] theorem modQueue_fuses (q : Nat) (f : Queue → Queue) (s : State) : (modQueue q f s).fuses = s.fuses := rfl
@[simp] theorem modQueue_shadow (q : Nat) (f : Queue → Queue) (s : State) : (modQueue q f s).shadow = s.shadow := rfl
@[simp] theorem modQueue_flash (q : Nat) (f : Queue → Queue) (s : State) : (modQueue q f s).flash = s.flash := rfl
@[simp] theorem modQueue_keeper (q : Nat) (f : Queue → Queue) (s : State) : (modQueue q f s).keeper = s.keeper := rfl
@[simp] theorem modQueue_sec (q : Nat) (f : Queue → Queue) (s : State) : (modQueue q f s).sec = s.sec := rfl
@[simp] theorem modQueue_txn (q : Nat) (f : Queue → Queue) (s : State) : (modQueue q f s).txn = s.txn := rfl
@[simp] theorem modQueue_mem (q : Nat) (f : Queue → Queue) (s : State) : (modQueue q f s).mem = s.mem := rfl
@[simp] theorem modQueue_xlt (q : Nat) (f : Queue → Queue) (s : State) : (modQueue q f s).xlt = s.xlt := rfl
@[simp] theorem modQueue_imp (q : Nat) (f : Queue → Queue) (s : State) : (modQueue q f s).imp = s.imp := rfl
@[simp] theorem modQueue_seq (q : Nat) (f : Queue → Queue) (s : State) : (modQueue q f s).seq = s.seq := rfl
@[simp] theorem modQueue_router (q : Nat) (f : Queue → Queue) (s : State) : (modQueue q f s).router = s.router := rfl
@[simp] theorem modQueue_links (q : Nat) (f : Queue → Queue) (s : State) : (modQueue q f s).links = s.links := rfl
@[simp] theorem modQueue_lanes (q : Nat) (f : Queue → Queue) (s : State) : (modQueue q f s).lanes = s.lanes := rfl

@[simp] theorem modTq_pending (t : Nat) (f : TileQueue → TileQueue) (s : State) : (modTq t f s).pending = s.pending := rfl
@[simp] theorem modTq_now (t : Nat) (f : TileQueue → TileQueue) (s : State) : (modTq t f s).now = s.now := rfl
@[simp] theorem modTq_draws (t : Nat) (f : TileQueue → TileQueue) (s : State) : (modTq t f s).draws = s.draws := rfl
@[simp] theorem modTq_out (t : Nat) (f : TileQueue → TileQueue) (s : State) : (modTq t f s).out = s.out := rfl
@[simp] theorem modTq_regs (t : Nat) (f : TileQueue → TileQueue) (s : State) : (modTq t f s).regs = s.regs := rfl
@[simp] theorem modTq_staged (t : Nat) (f : TileQueue → TileQueue) (s : State) : (modTq t f s).staged = s.staged := rfl
@[simp] theorem modTq_captured (t : Nat) (f : TileQueue → TileQueue) (s : State) : (modTq t f s).captured = s.captured := rfl
@[simp] theorem modTq_rdata (t : Nat) (f : TileQueue → TileQueue) (s : State) : (modTq t f s).rdata = s.rdata := rfl
@[simp] theorem modTq_evq (t : Nat) (f : TileQueue → TileQueue) (s : State) : (modTq t f s).evq = s.evq := rfl
@[simp] theorem modTq_rst (t : Nat) (f : TileQueue → TileQueue) (s : State) : (modTq t f s).rst = s.rst := rfl
@[simp] theorem modTq_fuses (t : Nat) (f : TileQueue → TileQueue) (s : State) : (modTq t f s).fuses = s.fuses := rfl
@[simp] theorem modTq_shadow (t : Nat) (f : TileQueue → TileQueue) (s : State) : (modTq t f s).shadow = s.shadow := rfl
@[simp] theorem modTq_flash (t : Nat) (f : TileQueue → TileQueue) (s : State) : (modTq t f s).flash = s.flash := rfl
@[simp] theorem modTq_keeper (t : Nat) (f : TileQueue → TileQueue) (s : State) : (modTq t f s).keeper = s.keeper := rfl
@[simp] theorem modTq_sec (t : Nat) (f : TileQueue → TileQueue) (s : State) : (modTq t f s).sec = s.sec := rfl
@[simp] theorem modTq_txn (t : Nat) (f : TileQueue → TileQueue) (s : State) : (modTq t f s).txn = s.txn := rfl
@[simp] theorem modTq_mem (t : Nat) (f : TileQueue → TileQueue) (s : State) : (modTq t f s).mem = s.mem := rfl
@[simp] theorem modTq_xlt (t : Nat) (f : TileQueue → TileQueue) (s : State) : (modTq t f s).xlt = s.xlt := rfl
@[simp] theorem modTq_imp (t : Nat) (f : TileQueue → TileQueue) (s : State) : (modTq t f s).imp = s.imp := rfl
@[simp] theorem modTq_seq (t : Nat) (f : TileQueue → TileQueue) (s : State) : (modTq t f s).seq = s.seq := rfl
@[simp] theorem modTq_router (t : Nat) (f : TileQueue → TileQueue) (s : State) : (modTq t f s).router = s.router := rfl
@[simp] theorem modTq_links (t : Nat) (f : TileQueue → TileQueue) (s : State) : (modTq t f s).links = s.links := rfl
@[simp] theorem modTq_lanes (t : Nat) (f : TileQueue → TileQueue) (s : State) : (modTq t f s).lanes = s.lanes := rfl

@[simp] theorem setDesc_pending (d : Nat) (v : Desc) (s : State) : (setDesc d v s).pending = s.pending := rfl
@[simp] theorem setDesc_now (d : Nat) (v : Desc) (s : State) : (setDesc d v s).now = s.now := rfl
@[simp] theorem setDesc_draws (d : Nat) (v : Desc) (s : State) : (setDesc d v s).draws = s.draws := rfl
@[simp] theorem setDesc_out (d : Nat) (v : Desc) (s : State) : (setDesc d v s).out = s.out := rfl
@[simp] theorem setDesc_regs (d : Nat) (v : Desc) (s : State) : (setDesc d v s).regs = s.regs := rfl
@[simp] theorem setDesc_staged (d : Nat) (v : Desc) (s : State) : (setDesc d v s).staged = s.staged := rfl
@[simp] theorem setDesc_captured (d : Nat) (v : Desc) (s : State) : (setDesc d v s).captured = s.captured := rfl
@[simp] theorem setDesc_rdata (d : Nat) (v : Desc) (s : State) : (setDesc d v s).rdata = s.rdata := rfl
@[simp] theorem setDesc_evq (d : Nat) (v : Desc) (s : State) : (setDesc d v s).evq = s.evq := rfl
@[simp] theorem setDesc_rst (d : Nat) (v : Desc) (s : State) : (setDesc d v s).rst = s.rst := rfl
@[simp] theorem setDesc_fuses (d : Nat) (v : Desc) (s : State) : (setDesc d v s).fuses = s.fuses := rfl
@[simp] theorem setDesc_shadow (d : Nat) (v : Desc) (s : State) : (setDesc d v s).shadow = s.shadow := rfl
@[simp] theorem setDesc_flash (d : Nat) (v : Desc) (s : State) : (setDesc d v s).flash = s.flash := rfl
@[simp] theorem setDesc_keeper (d : Nat) (v : Desc) (s : State) : (setDesc d v s).keeper = s.keeper := rfl
@[simp] theorem setDesc_sec (d : Nat) (v : Desc) (s : State) : (setDesc d v s).sec = s.sec := rfl
@[simp] theorem setDesc_txn (d : Nat) (v : Desc) (s : State) : (setDesc d v s).txn = s.txn := rfl
@[simp] theorem setDesc_mem (d : Nat) (v : Desc) (s : State) : (setDesc d v s).mem = s.mem := rfl
@[simp] theorem setDesc_xlt (d : Nat) (v : Desc) (s : State) : (setDesc d v s).xlt = s.xlt := rfl
@[simp] theorem setDesc_imp (d : Nat) (v : Desc) (s : State) : (setDesc d v s).imp = s.imp := rfl
@[simp] theorem setDesc_seq (d : Nat) (v : Desc) (s : State) : (setDesc d v s).seq = s.seq := rfl
@[simp] theorem setDesc_router (d : Nat) (v : Desc) (s : State) : (setDesc d v s).router = s.router := rfl
@[simp] theorem setDesc_links (d : Nat) (v : Desc) (s : State) : (setDesc d v s).links = s.links := rfl
@[simp] theorem setDesc_lanes (d : Nat) (v : Desc) (s : State) : (setDesc d v s).lanes = s.lanes := rfl

@[simp] theorem setTag_pending (t : Nat) (v : TagSt) (s : State) : (setTag t v s).pending = s.pending := rfl
@[simp] theorem setTag_now (t : Nat) (v : TagSt) (s : State) : (setTag t v s).now = s.now := rfl
@[simp] theorem setTag_draws (t : Nat) (v : TagSt) (s : State) : (setTag t v s).draws = s.draws := rfl
@[simp] theorem setTag_out (t : Nat) (v : TagSt) (s : State) : (setTag t v s).out = s.out := rfl
@[simp] theorem setTag_regs (t : Nat) (v : TagSt) (s : State) : (setTag t v s).regs = s.regs := rfl
@[simp] theorem setTag_staged (t : Nat) (v : TagSt) (s : State) : (setTag t v s).staged = s.staged := rfl
@[simp] theorem setTag_captured (t : Nat) (v : TagSt) (s : State) : (setTag t v s).captured = s.captured := rfl
@[simp] theorem setTag_rdata (t : Nat) (v : TagSt) (s : State) : (setTag t v s).rdata = s.rdata := rfl
@[simp] theorem setTag_evq (t : Nat) (v : TagSt) (s : State) : (setTag t v s).evq = s.evq := rfl
@[simp] theorem setTag_rst (t : Nat) (v : TagSt) (s : State) : (setTag t v s).rst = s.rst := rfl
@[simp] theorem setTag_fuses (t : Nat) (v : TagSt) (s : State) : (setTag t v s).fuses = s.fuses := rfl
@[simp] theorem setTag_shadow (t : Nat) (v : TagSt) (s : State) : (setTag t v s).shadow = s.shadow := rfl
@[simp] theorem setTag_flash (t : Nat) (v : TagSt) (s : State) : (setTag t v s).flash = s.flash := rfl
@[simp] theorem setTag_keeper (t : Nat) (v : TagSt) (s : State) : (setTag t v s).keeper = s.keeper := rfl
@[simp] theorem setTag_sec (t : Nat) (v : TagSt) (s : State) : (setTag t v s).sec = s.sec := rfl
@[simp] theorem setTag_mem (t : Nat) (v : TagSt) (s : State) : (setTag t v s).mem = s.mem := rfl
@[simp] theorem setTag_xlt (t : Nat) (v : TagSt) (s : State) : (setTag t v s).xlt = s.xlt := rfl
@[simp] theorem setTag_imp (t : Nat) (v : TagSt) (s : State) : (setTag t v s).imp = s.imp := rfl
@[simp] theorem setTag_qe (t : Nat) (v : TagSt) (s : State) : (setTag t v s).qe = s.qe := rfl
@[simp] theorem setTag_seq (t : Nat) (v : TagSt) (s : State) : (setTag t v s).seq = s.seq := rfl
@[simp] theorem setTag_router (t : Nat) (v : TagSt) (s : State) : (setTag t v s).router = s.router := rfl
@[simp] theorem setTag_links (t : Nat) (v : TagSt) (s : State) : (setTag t v s).links = s.links := rfl
@[simp] theorem setTag_lanes (t : Nat) (v : TagSt) (s : State) : (setTag t v s).lanes = s.lanes := rfl

@[simp] theorem setWin_pending (w c : Nat) (s : State) : (setWin w c s).pending = s.pending := rfl
@[simp] theorem setWin_now (w c : Nat) (s : State) : (setWin w c s).now = s.now := rfl
@[simp] theorem setWin_draws (w c : Nat) (s : State) : (setWin w c s).draws = s.draws := rfl
@[simp] theorem setWin_out (w c : Nat) (s : State) : (setWin w c s).out = s.out := rfl
@[simp] theorem setWin_regs (w c : Nat) (s : State) : (setWin w c s).regs = s.regs := rfl
@[simp] theorem setWin_staged (w c : Nat) (s : State) : (setWin w c s).staged = s.staged := rfl
@[simp] theorem setWin_captured (w c : Nat) (s : State) : (setWin w c s).captured = s.captured := rfl
@[simp] theorem setWin_rdata (w c : Nat) (s : State) : (setWin w c s).rdata = s.rdata := rfl
@[simp] theorem setWin_evq (w c : Nat) (s : State) : (setWin w c s).evq = s.evq := rfl
@[simp] theorem setWin_rst (w c : Nat) (s : State) : (setWin w c s).rst = s.rst := rfl
@[simp] theorem setWin_fuses (w c : Nat) (s : State) : (setWin w c s).fuses = s.fuses := rfl
@[simp] theorem setWin_shadow (w c : Nat) (s : State) : (setWin w c s).shadow = s.shadow := rfl
@[simp] theorem setWin_flash (w c : Nat) (s : State) : (setWin w c s).flash = s.flash := rfl
@[simp] theorem setWin_keeper (w c : Nat) (s : State) : (setWin w c s).keeper = s.keeper := rfl
@[simp] theorem setWin_sec (w c : Nat) (s : State) : (setWin w c s).sec = s.sec := rfl
@[simp] theorem setWin_mem (w c : Nat) (s : State) : (setWin w c s).mem = s.mem := rfl
@[simp] theorem setWin_xlt (w c : Nat) (s : State) : (setWin w c s).xlt = s.xlt := rfl
@[simp] theorem setWin_imp (w c : Nat) (s : State) : (setWin w c s).imp = s.imp := rfl
@[simp] theorem setWin_qe (w c : Nat) (s : State) : (setWin w c s).qe = s.qe := rfl
@[simp] theorem setWin_seq (w c : Nat) (s : State) : (setWin w c s).seq = s.seq := rfl
@[simp] theorem setWin_router (w c : Nat) (s : State) : (setWin w c s).router = s.router := rfl
@[simp] theorem setWin_links (w c : Nat) (s : State) : (setWin w c s).links = s.links := rfl
@[simp] theorem setWin_lanes (w c : Nat) (s : State) : (setWin w c s).lanes = s.lanes := rfl

@[simp] theorem setWalk_pending (w : Nat) (v : Walk) (s : State) : (setWalk w v s).pending = s.pending := rfl
@[simp] theorem setWalk_now (w : Nat) (v : Walk) (s : State) : (setWalk w v s).now = s.now := rfl
@[simp] theorem setWalk_draws (w : Nat) (v : Walk) (s : State) : (setWalk w v s).draws = s.draws := rfl
@[simp] theorem setWalk_out (w : Nat) (v : Walk) (s : State) : (setWalk w v s).out = s.out := rfl
@[simp] theorem setWalk_regs (w : Nat) (v : Walk) (s : State) : (setWalk w v s).regs = s.regs := rfl
@[simp] theorem setWalk_staged (w : Nat) (v : Walk) (s : State) : (setWalk w v s).staged = s.staged := rfl
@[simp] theorem setWalk_captured (w : Nat) (v : Walk) (s : State) : (setWalk w v s).captured = s.captured := rfl
@[simp] theorem setWalk_rdata (w : Nat) (v : Walk) (s : State) : (setWalk w v s).rdata = s.rdata := rfl
@[simp] theorem setWalk_evq (w : Nat) (v : Walk) (s : State) : (setWalk w v s).evq = s.evq := rfl
@[simp] theorem setWalk_rst (w : Nat) (v : Walk) (s : State) : (setWalk w v s).rst = s.rst := rfl
@[simp] theorem setWalk_fuses (w : Nat) (v : Walk) (s : State) : (setWalk w v s).fuses = s.fuses := rfl
@[simp] theorem setWalk_shadow (w : Nat) (v : Walk) (s : State) : (setWalk w v s).shadow = s.shadow := rfl
@[simp] theorem setWalk_flash (w : Nat) (v : Walk) (s : State) : (setWalk w v s).flash = s.flash := rfl
@[simp] theorem setWalk_keeper (w : Nat) (v : Walk) (s : State) : (setWalk w v s).keeper = s.keeper := rfl
@[simp] theorem setWalk_sec (w : Nat) (v : Walk) (s : State) : (setWalk w v s).sec = s.sec := rfl
@[simp] theorem setWalk_txn (w : Nat) (v : Walk) (s : State) : (setWalk w v s).txn = s.txn := rfl
@[simp] theorem setWalk_mem (w : Nat) (v : Walk) (s : State) : (setWalk w v s).mem = s.mem := rfl
@[simp] theorem setWalk_imp (w : Nat) (v : Walk) (s : State) : (setWalk w v s).imp = s.imp := rfl
@[simp] theorem setWalk_qe (w : Nat) (v : Walk) (s : State) : (setWalk w v s).qe = s.qe := rfl
@[simp] theorem setWalk_seq (w : Nat) (v : Walk) (s : State) : (setWalk w v s).seq = s.seq := rfl
@[simp] theorem setWalk_router (w : Nat) (v : Walk) (s : State) : (setWalk w v s).router = s.router := rfl
@[simp] theorem setWalk_links (w : Nat) (v : Walk) (s : State) : (setWalk w v s).links = s.links := rfl
@[simp] theorem setWalk_lanes (w : Nat) (v : Walk) (s : State) : (setWalk w v s).lanes = s.lanes := rfl

@[simp] theorem setColl_pending (d : Nat) (c : Coll) (s : State) : (setColl d c s).pending = s.pending := rfl
@[simp] theorem setColl_now (d : Nat) (c : Coll) (s : State) : (setColl d c s).now = s.now := rfl
@[simp] theorem setColl_draws (d : Nat) (c : Coll) (s : State) : (setColl d c s).draws = s.draws := rfl
@[simp] theorem setColl_out (d : Nat) (c : Coll) (s : State) : (setColl d c s).out = s.out := rfl
@[simp] theorem setColl_regs (d : Nat) (c : Coll) (s : State) : (setColl d c s).regs = s.regs := rfl
@[simp] theorem setColl_staged (d : Nat) (c : Coll) (s : State) : (setColl d c s).staged = s.staged := rfl
@[simp] theorem setColl_captured (d : Nat) (c : Coll) (s : State) : (setColl d c s).captured = s.captured := rfl
@[simp] theorem setColl_rdata (d : Nat) (c : Coll) (s : State) : (setColl d c s).rdata = s.rdata := rfl
@[simp] theorem setColl_evq (d : Nat) (c : Coll) (s : State) : (setColl d c s).evq = s.evq := rfl
@[simp] theorem setColl_rst (d : Nat) (c : Coll) (s : State) : (setColl d c s).rst = s.rst := rfl
@[simp] theorem setColl_fuses (d : Nat) (c : Coll) (s : State) : (setColl d c s).fuses = s.fuses := rfl
@[simp] theorem setColl_shadow (d : Nat) (c : Coll) (s : State) : (setColl d c s).shadow = s.shadow := rfl
@[simp] theorem setColl_flash (d : Nat) (c : Coll) (s : State) : (setColl d c s).flash = s.flash := rfl
@[simp] theorem setColl_keeper (d : Nat) (c : Coll) (s : State) : (setColl d c s).keeper = s.keeper := rfl
@[simp] theorem setColl_sec (d : Nat) (c : Coll) (s : State) : (setColl d c s).sec = s.sec := rfl
@[simp] theorem setColl_txn (d : Nat) (c : Coll) (s : State) : (setColl d c s).txn = s.txn := rfl
@[simp] theorem setColl_mem (d : Nat) (c : Coll) (s : State) : (setColl d c s).mem = s.mem := rfl
@[simp] theorem setColl_xlt (d : Nat) (c : Coll) (s : State) : (setColl d c s).xlt = s.xlt := rfl
@[simp] theorem setColl_imp (d : Nat) (c : Coll) (s : State) : (setColl d c s).imp = s.imp := rfl
@[simp] theorem setColl_qe (d : Nat) (c : Coll) (s : State) : (setColl d c s).qe = s.qe := rfl
@[simp] theorem setColl_router (d : Nat) (c : Coll) (s : State) : (setColl d c s).router = s.router := rfl
@[simp] theorem setColl_links (d : Nat) (c : Coll) (s : State) : (setColl d c s).links = s.links := rfl
@[simp] theorem setColl_lanes (d : Nat) (c : Coll) (s : State) : (setColl d c s).lanes = s.lanes := rfl

@[simp] theorem inject_pending (u : Nat) (p : Packet) (s : State) : (inject u p s).pending = s.pending := rfl
@[simp] theorem inject_now (u : Nat) (p : Packet) (s : State) : (inject u p s).now = s.now := rfl
@[simp] theorem inject_draws (u : Nat) (p : Packet) (s : State) : (inject u p s).draws = s.draws := rfl
@[simp] theorem inject_out (u : Nat) (p : Packet) (s : State) : (inject u p s).out = s.out := rfl
@[simp] theorem inject_regs (u : Nat) (p : Packet) (s : State) : (inject u p s).regs = s.regs := rfl
@[simp] theorem inject_staged (u : Nat) (p : Packet) (s : State) : (inject u p s).staged = s.staged := rfl
@[simp] theorem inject_captured (u : Nat) (p : Packet) (s : State) : (inject u p s).captured = s.captured := rfl
@[simp] theorem inject_rdata (u : Nat) (p : Packet) (s : State) : (inject u p s).rdata = s.rdata := rfl
@[simp] theorem inject_evq (u : Nat) (p : Packet) (s : State) : (inject u p s).evq = s.evq := rfl
@[simp] theorem inject_rst (u : Nat) (p : Packet) (s : State) : (inject u p s).rst = s.rst := rfl
@[simp] theorem inject_fuses (u : Nat) (p : Packet) (s : State) : (inject u p s).fuses = s.fuses := rfl
@[simp] theorem inject_shadow (u : Nat) (p : Packet) (s : State) : (inject u p s).shadow = s.shadow := rfl
@[simp] theorem inject_flash (u : Nat) (p : Packet) (s : State) : (inject u p s).flash = s.flash := rfl
@[simp] theorem inject_keeper (u : Nat) (p : Packet) (s : State) : (inject u p s).keeper = s.keeper := rfl
@[simp] theorem inject_sec (u : Nat) (p : Packet) (s : State) : (inject u p s).sec = s.sec := rfl
@[simp] theorem inject_txn (u : Nat) (p : Packet) (s : State) : (inject u p s).txn = s.txn := rfl
@[simp] theorem inject_mem (u : Nat) (p : Packet) (s : State) : (inject u p s).mem = s.mem := rfl
@[simp] theorem inject_xlt (u : Nat) (p : Packet) (s : State) : (inject u p s).xlt = s.xlt := rfl
@[simp] theorem inject_imp (u : Nat) (p : Packet) (s : State) : (inject u p s).imp = s.imp := rfl
@[simp] theorem inject_qe (u : Nat) (p : Packet) (s : State) : (inject u p s).qe = s.qe := rfl
@[simp] theorem inject_seq (u : Nat) (p : Packet) (s : State) : (inject u p s).seq = s.seq := rfl
@[simp] theorem inject_links (u : Nat) (p : Packet) (s : State) : (inject u p s).links = s.links := rfl
@[simp] theorem inject_lanes (u : Nat) (p : Packet) (s : State) : (inject u p s).lanes = s.lanes := rfl

/-! ### What the updates write -/

@[simp] theorem reg_setReg_same (a : Nat) (v : BitVec 64) (s : State) : reg (setReg a v s) a = v := by
  simp [reg, setReg]

@[simp] theorem reg_setReg_ne (a b : Nat) (v : BitVec 64) (s : State) (h : b ≠ a) :
    reg (setReg a v s) b = reg s b := by simp [reg, setReg, h]

@[simp] theorem link_setLink_same (k : Nat) (l : Link) (s : State) : link (setLink k l s) k = l := by
  simp [link, setLink]

@[simp] theorem link_setLink_ne (j k : Nat) (l : Link) (s : State) (h : j ≠ k) :
    link (setLink k l s) j = link s j := by simp [link, setLink, h]

@[simp] theorem lane_setLane_same (n : Nat) (l : Lane) (s : State) : lane (setLane n l s) n = l := by
  simp [lane, setLane]

@[simp] theorem lane_setLane_ne (m n : Nat) (l : Lane) (s : State) (h : m ≠ n) :
    lane (setLane n l s) m = lane s m := by simp [lane, setLane, h]

@[simp] theorem queue_setQueue_same (q : Nat) (v : Queue) (s : State) : queue (setQueue q v s) q = v := by
  simp [queue, setQueue]

@[simp] theorem queue_setQueue_ne (p q : Nat) (v : Queue) (s : State) (h : p ≠ q) :
    queue (setQueue q v s) p = queue s p := by simp [queue, setQueue, h]

@[simp] theorem desc_setDesc_same (d : Nat) (v : Desc) (s : State) : desc (setDesc d v s) d = some v := by
  simp [desc, setDesc]

@[simp] theorem desc_setDesc_ne (d e : Nat) (v : Desc) (s : State) (h : e ≠ d) :
    desc (setDesc d v s) e = desc s e := by simp [desc, setDesc, h]

@[simp] theorem tagOf_setTag_same (t : Nat) (v : TagSt) (s : State) : tagOf (setTag t v s) t = some v := by
  simp [tagOf, setTag]

@[simp] theorem tagOf_setTag_ne (t u : Nat) (v : TagSt) (s : State) (h : u ≠ t) :
    tagOf (setTag t v s) u = tagOf s u := by simp [tagOf, setTag, h]

@[simp] theorem partOf_modPart_same (p : Nat) (f : Part → Part) (s : State) :
    partOf (modPart p f s) p = f (partOf s p) := by simp [partOf, modPart]

@[simp] theorem partOf_modPart_ne (p q : Nat) (f : Part → Part) (s : State) (h : q ≠ p) :
    partOf (modPart p f s) q = partOf s q := by simp [partOf, modPart, h]

@[simp] theorem winCount_setWin_same (w c : Nat) (s : State) : winCount (setWin w c s) w = c % 2 ^ 32 := by
  simp [winCount, setWin]

@[simp] theorem winCount_setWin_ne (w x c : Nat) (s : State) (h : x ≠ w) :
    winCount (setWin w c s) x = winCount s x := by simp [winCount, setWin, h]

@[simp] theorem rst_modRst (f : ResetUnit → ResetUnit) (s : State) : (modRst f s).rst = f s.rst := rfl

@[simp] theorem sec_modSec (f : Security → Security) (s : State) : (modSec f s).sec = f s.sec := rfl

@[simp] theorem keeper_modKeeper (f : Keeper → Keeper) (s : State) : (modKeeper f s).keeper = f s.keeper := rfl

@[simp] theorem out_drive (o : Out) (s : State) : (drive o s).out = s.out ++ [o] := rfl

/-- A state that a command does not concern stays as it is. -/
theorem onlyIf_false (f : State → State) (s : State) : onlyIf false f s = s := rfl

theorem onlyIf_true (f : State → State) (s : State) : onlyIf true f s = f s := rfl

/-- Where a command on a link has its effect, and where it has none (R357). -/
theorem onLink_cases (k : Nat) (c : Bool) (f : State → State) (s : State) :
    (coreUp s = true ∧ tileUp s k = true ∧ c = true ∧ onLink k c f s = f s) ∨ onLink k c f s = s := by
  unfold onLink
  split
  · rename_i h
    simp only [Bool.and_eq_true] at h
    exact Or.inl ⟨h.1.1, h.1.2, h.2, rfl⟩
  · exact Or.inr rfl

/-- An event lands in the queue, or is counted in GEN_EVT_LOST, or the core island is in reset (R387, R391). -/
theorem postEvent_cases (cause : Nat) (node : NodeId) (part index data : Nat) (s : State) :
    postEvent cause node part index data s = s ∨
    (coreUp s = true ∧
      (let e := makeEvent s cause node part index data
       let t := captureEvent e s
       postEvent cause node part index data s = { t with evq := t.evq ++ [e] } ∨
       postEvent cause node part index data s = bump Reg.GEN_EVT_LOST t)) := by
  unfold postEvent
  split
  · rename_i h
    refine Or.inr ⟨h, ?_⟩
    dsimp only
    split
    · exact Or.inl rfl
    · exact Or.inr rfl
  · exact Or.inl rfl

end Sys2Proof.Laws
end

