-- ==== Sys2Proof/Tests/Slice0.lean ====
section
/-!
SUPPORT. Tests/Slice0.lean: the well-formedness smoke test, worked examples of the manual, and for each statement a
state and operands that meet the hypotheses of each of its clauses.
-/

namespace Sys2Proof.Tests

open Sys2Proof Sys2Proof.Machine

set_option Elab.async false
set_option maxRecDepth 100000

/-! ### States -/

/-- Every island is up and the keeper's firmware runs. -/
def up : State :=
  { State.reset with
    rst := { ResetUnit.initial with
      porLow := false, step := .done, keeperUp := true, coreUp := true, unitsUp := true, tiles := 36 }
    keeper := { Keeper.initial with running := true } }

/-- The reset sequence stands at `st`, with no reset input low. -/
def at_ (st : RelStep) : State := { State.reset with rst := { ResetUnit.initial with porLow := false, step := st } }

/-- Master enable is 1. -/
def on : State := raise Reg.GEN_CTL 0 up

/-- A state whose link `k` is as given. -/
def withLink (k : Nat) (l : Link) : State := setLink k l on

/-- A link that runs. -/
def running : Link := { Link.initial with state := .active, frameLock := true }

/-- A descriptor of opcode `o` in progress on queue 0. -/
def descOf (o : Nat) (ph : DPhase) : Desc :=
  { Desc.new 0 0 false (BitVec.ofNat 512 o) false 0 5 with phase := ph }

/-- Partition 0 is ACTIVE with key 5, and its addresses below 2^20 map to themselves with every permission. -/
def mapped : State :=
  { on with
    sec := { on.sec with parts := Tbl.empty.set 0 ⟨.active, 5, zeros 48, [], [], false⟩ }
    xlt := { on.xlt with frags := [⟨0, 0, 0, 2 ^ 20, 0, 31, 0, false, 0⟩] } }

/-- A packet of type `ty` with key 5 and 64 bytes at address 64. -/
def packetOf (ty : BitVec 6) : Packet :=
  { blankPacket with ptype := ty, pkey := 5, addr := 64, len := 64, payload := zeros 64 }

/-- A flit of type `ty`, with no codeword in error. -/
def flitOf (seq : BitVec 12) (ty : Nat) : RxFlit := ⟨flitBytes seq 0 ty false false false (zeros 248), [⟨0, 0, true⟩]⟩

/-- A control block with its checksum (R298). -/
def blockOf (ty : Nat) (w1 w2 : Byte) : CtrlBlock :=
  let b := fit 12 [BitVec.ofNat 8 ty, w1, w2]
  b ++ leBytes 4 (crc32c b).toNat

/-! ### Well-formed commands: each check refuses a command that breaks it -/

theorem test_wf_sample_lengths :
    (Instr.vcoreSample [800, 800, 800]).wf = false ∧ (Instr.vcoreSample [800, 800, 800, 65536]).wf = false ∧
    (Instr.sensorSample ⟨[], [], []⟩).wf = false ∧ (Instr.vcoreSample [800, 800, 800, 65535]).wf = true := by decide

theorem test_wf_addresses :
    (Instr.configWrite 0x6 0).wf = false ∧ (Instr.reg64UpperWrite 0x6 0).wf = false ∧
    (Instr.reg64LowerRead 0x6).wf = false ∧ (Instr.unimplementedRead 0x6).wf = false ∧
    (Instr.mgtPolicyWrite 0x2 0).wf = false ∧ (Instr.qSetupWrite 0 0x2 0).wf = false ∧
    (Instr.configWrite 0x8 0).wf = true := by decide

theorem test_wf_beats :
    (Instr.descriptorFetch 0 ⟨zeros 32, 0, false⟩).wf = false ∧
    (Instr.memReadResponse 0 0 ⟨[], 0, false⟩).wf = false ∧
    (Instr.walkReadReturn 0 0 ⟨zeros 320, 0, false⟩).wf = false ∧
    (Instr.memReadResponse 0 0 ⟨zeros 256, 0, false⟩).wf = true := by decide +kernel

theorem test_wf_packets :
    (Instr.wrReceive { blankPacket with trailer := some ⟨0, zeros 16⟩ }).wf = false ∧
    (Instr.wrReceive { blankPacket with sealed := true, trailer := some ⟨0, zeros 15⟩ }).wf = false ∧
    (Instr.wrReceive { blankPacket with len := 2049 }).wf = false ∧
    (Instr.probeReceive 0 { blankPacket with len := 2049 } 0).wf = false ∧
    (Instr.wrReceive { blankPacket with sealed := true, trailer := some ⟨0, zeros 16⟩ }).wf = true := by decide +kernel

theorem test_wf_flits_blocks_counts :
    (Instr.flitReceive 0 ⟨zeros 255, [⟨0, 0, true⟩]⟩).wf = false ∧ (Instr.flitReceive 0 ⟨zeros 256, []⟩).wf = false ∧
    (Instr.train 0 (zeros 15)).wf = false ∧ (Instr.laneAligned 0 [0, 0, 0, 0, 0, 0, 0, 0, 0]).wf = false ∧
    (Instr.probeGo 36).wf = false ∧ (Instr.probeGo 35).wf = true ∧ (Instr.flitReceive 0 (flitOf 0 1)).wf = true := by
  decide +kernel

theorem test_wf_programs : (Instr.chainLoadDone (List.replicate 65 ⟨[], false⟩)).wf = false := by decide +kernel

/-- The table gives no row any bits. -/
theorem test_no_word_is_a_command : decodeTableWord 32 0 = none := rfl

/-! ### Worked examples of the manual -/

/-- The check value of CRC-32C (R255). -/
theorem test_crc32c :
    crc32c [0x31, 0x32, 0x33, 0x34, 0x35, 0x36, 0x37, 0x38, 0x39] = 0xE3069283 := by decide +kernel

/-- The example under R185: 1 + 2^-8 and 2^-30 summed in FP32, rounded to odd or to nearest, then to BF16. -/
theorem test_round_to_odd :
    (roundTo 0 .rto false ((decodeElem 0 0x3F808000).add (decodeElem 0 0x30800000)).1).1 = 0x3F808001 ∧
    (roundTo 1 .rne false (decodeElem 0 0x3F808001)).1 = 0x3F81 ∧
    (roundTo 0 .rne false ((decodeElem 0 0x3F808000).add (decodeElem 0 0x30800000)).1).1 = 0x3F808000 ∧
    (roundTo 1 .rne false (decodeElem 0 0x3F808000)).1 = 0x3F80 := by decide +kernel

/-- The example under R42, and the boundaries of the classes of R38. -/
theorem test_window_classes :
    classify 0xFFFFFC00 32 0x400 = .pending ∧ classify 0 0 0 = .reached ∧ classify 0 0 1 = .pending ∧
    classify 0 0 0x80000000 = .pending ∧ classify 0 0 0x80000001 = .fault ∧ classify 0 0 0xBFFFFFFF = .fault ∧
    classify 0 0 0xC0000000 = .reached := by decide

/-- The order of R65: DISABLED before SUMP before BAD_OP. -/
theorem test_status_order : worst [stBADOP, stSUMP] = stSUMP ∧ worst [stSUMP, stDISABLED] = stDISABLED ∧
    worst [] = stOK := by decide

/-- A 32-bit and a 64-bit register, an upper word, and an address that names no register (R442). -/
theorem test_register_map :
    (findReg Reg.GEN_CTL).map (fun x => (x.1.words, x.2)) = some (1, Reg.GEN_CTL, 0) ∧
    (findReg Reg.XLT_INV_ADDR).map (fun x => (x.1.words, x.2)) = some (2, Reg.XLT_INV_ADDR, 0) ∧
    (findReg (Reg.XLT_INV_ADDR + 4)).map (fun x => (x.1.words, x.2)) = some (2, Reg.XLT_INV_ADDR, 1) ∧
    findReg 0xFFFFC = none := by decide +kernel

/-! ### Hypotheses that are met: the block and its encodings -/

/-- A state in which the tick does nothing else: no lane counts, and link 0 has told the last ACK and completed its
frame. -/
theorem test_idle_hyps :
    State.reset.pending = [] ∧
    (let s := withLink 0 { running with toldAck := running.rxSeq - 1 }
     s.pending = [] ∧ (∀ n ∈ s.lanes.keys, counting s n = false ∧ (lane s n).sends ≠ .pattern ∧ (lane s n).idleTill = none) ∧
     txReady s 0 = true ∧
     (∀ k ∈ s.links.keys, (link s k).frame = [] ∧ (link s k).toldAck = (link s k).rxSeq - 1)) := by
  and_intros <;> decide +kernel

theorem test_datapath_hyps : touchesIslands .watchdogKick = false ∧ exec .watchdogKick up = .next up := ⟨rfl, rfl⟩

/-- A step that meets the premise of both invariants and starts an island. -/
theorem test_invariant_hyps :
    ReleaseOrder { at_ .units with rst := { (at_ .units).rst with coreUp := true }, pending := [.releaseGapExpiry] } ∧
    ReleaseOrder State.reset ∧ DebugLock State.reset ∧ (∃ t, step State.reset = .next t) :=
  ⟨⟨rfl, rfl, rfl⟩, ⟨rfl, rfl, rfl⟩, ⟨fun _ => ⟨Or.inl rfl, rfl, rfl⟩, fun h => absurd h (by decide)⟩, ⟨_, rfl⟩⟩

theorem test_stream_hyps :
    (packetOf tWR).payload.length = (packetOf tWR).payloadBytes ∧ (packetOf tWR).trailer = none ∧
    (∃ t : Trailer, some ⟨1, zeros 16⟩ = some t ∧ t.tag.length = 16) := by
  refine ⟨by decide +kernel, rfl, ⟨_, rfl, by decide +kernel⟩⟩

/-! ### Hypotheses that are met: rules of the shared operations -/

/-- Two writes of window 0 are held, the later one for fewer lines; three lines that land release both. -/
theorem test_release_sorted_hyps :
    let f (e : Word) : Packet := { (packetOf tWR) with ff := true, expect := e }
    let s : State := { on with txn := { on.txn with held := [⟨0, f 3, 0, 0, 0, 0⟩, ⟨1, f 2, 0, 0, 0, 0⟩] } }
    masterEn s = true ∧ masterEn { s with regs := up.regs } = false ∧
    (s.txn.held.filter fun h => h.packet.win.toNat == 0 &&
      classify ((winCount s 0 + 3) % 2 ^ 32) 0 h.packet.expect.toNat == .reached).map (·.no) = [0, 1] ∧
    ((landLines 0 3 s).txn.fenceQ.get 0 []).map (·.no) = [1, 0] := by
  and_intros <;> decide +kernel

/-- A set holds a record of another status, and one that a new record of tag 7 meets; or only ones that it does not. -/
theorem test_merge_hyps :
    let r : LackRec := ⟨stOK, 7, 0, 2⟩
    let meets (x : LackRec) : Prop := x.status = stOK ∧ r.status = stOK ∧ x.tag = r.tag ∧ x.elem = r.elem
    (∀ x ∈ [(⟨stXLT, 7, 0, 1⟩ : LackRec), ⟨stOK, 7, 1, 1⟩], ¬meets x) ∧ meets ⟨stOK, 7, 0, 1⟩ := by
  decide

/-- A set that holds a record; a fetch ATOM that flushes leaves its set with none. -/
theorem test_sets_open_hyps :
    SetsOpen up ∧
    SetsOpen { up with txn := { up.txn with sets := [⟨0, 5, false, [⟨stOK, 7, 0, 1⟩], 63⟩] } } ∧
    (let p : Packet := { (packetOf tATOM) with subop := 0x80 }
     atomFetch p = true ∧
     ((answerWrite p stOK [] false true true up).txn.sets.any fun x =>
       x.node == p.src && x.pkey == p.pkey && x.vc7 == (p.vc == 7)) = true) := by
  refine ⟨?_, ?_, ?_⟩
  · exact fun _ h => nomatch h
  · intro x h
    simp only [List.mem_singleton] at h
    subst h
    decide
  · and_intros <;> decide +kernel

/-- The link may send a DATA flit, and an AUDIT flit where one is due. -/
theorem test_credit_hyps :
    (sendNext 0 (withLink 0 { running with auditDue := true })).isSome = true ∧
    (sendNext 0 (feed 0 (withLink 0 { running with txq := [packetOf tWR] }))).isSome = true := by decide +kernel

theorem test_taps_hyps :
    tapsInRange (lane up 0).taps = true ∧ tapsSum (lane up 0).taps = true ∧
    BitVec.ofNat 4 (natField 0 16 4) = (lane up 0).reqIn ∧
    BitVec.ofNat 4 (natField 0x10000 16 4) ≠ (lane up 0).reqIn ∧
    (lane (tapRequest false 0 (0x10000 + 15 * 0x400) up) 0).resp ≠ 0 := by
  refine ⟨?_, ?_, ?_, ?_, ?_⟩ <;> decide +kernel

theorem test_loaded_values_hyps :
    let fac : List Int := [0, 0, 64, 0, 0, 0, 0, 0, 0, 0, 20, 0]
    fac.length = 12 ∧ (∀ i, i < 12 → (valRanges.getD i (0, 0)).1 ≤ fac.getD i 0 ∧
      fac.getD i 0 ≤ (valRanges.getD i (0, 0)).2) ∧ tapsSum (fac.take 5) = true ∧
    (∀ i, i < 12 → ([] : List Int).getD i 0 = 0) := by decide +kernel

/-- A channel of partition 0 with peer 0 that is OPEN. -/
def openChan : Chan := { Chan.initial with state := .opened, keySlot := some 4 }

/-- A sealed packet on an open channel is sealed; it is accepted wherever the cipher authenticates it; and both clauses
about a barred counter have a channel that meets them. -/
theorem test_seal_hyps :
    (sealPacket { (packetOf tWR) with sealed := true } (setChan 0 openChan mapped)).1.isSome = true ∧
    (∀ plain, Config.gcmOpen (keyOf (setChan 0 openChan mapped) (some 4))
        (sealIv { (packetOf tWR) with sealed := true, trailer := some ⟨0, zeros 16⟩ } 0)
        (sealAad { (packetOf tWR) with sealed := true, trailer := some ⟨0, zeros 16⟩ }) (zeros 64) (zeros 16) = some plain →
      (openPacket { (packetOf tWR) with sealed := true, trailer := some ⟨0, zeros 16⟩ }
        (setChan 0 openChan mapped)).1.isSome = true) ∧
    (let c := { openChan with rxHigh := some 4096, rxSeen := [4096] }
     c.rxSeen.contains 4096 = true ∧ c.rxHigh = some 4096 ∧ (0 + 4096 ≤ 4096)) := by
  refine ⟨by decide +kernel, ?_, by decide⟩
  intro plain h
  have e : openCheck (setChan 0 openChan mapped)
      { (packetOf tWR) with sealed := true, trailer := some ⟨0, zeros 16⟩ } = .inr plain := by
    unfold openCheck
    exact Eq.trans (by rfl) (congrArg (fun r => match r with
      | none => (.inl 4 : Sum Nat (List Byte)) | some x => .inr x) h)
  unfold openPacket
  rw [e]
  rfl

theorem test_keys_hyps : KeysDistinct up ∧ KeysNonzero up := by
  exact ⟨fun p q _ h => absurd rfl h, fun _ h => nomatch h⟩

theorem test_field_hyps :
    let f (a : Access) : FieldDesc := ⟨0, 4, a, 0, 2, 9⟩
    (f .rw).min ≤ (f .rw).max ∧ (2 ≤ natField 9 0 4 ∧ natField 9 0 4 ≤ 9) ∧ (natField 1 0 4 < 2 ∨ 9 < natField 1 0 4) ∧
    9 < natField 10 0 4 ∧ writeField (f .ro) 5 9 true = (5, false) ∧ writeField (f .rwo) 5 9 false = (5, false) ∧
    writeField (f .rwo) 5 9 true = (9, false) ∧ writeField (f .rw) 5 1 true = (2, true) ∧
    writeField (f .w1c) 5 4 true = (1, false) ∧ writeField (f .w1s) 5 2 true = (7, false) ∧
    writeField (f .wo) 5 9 true = (0, false) ∧ writeField (f .rw) 5 10 true = (9, true) := by decide

/-- A ring with 4,080 entries held takes a FATAL event and no other. -/
def fullRing : State := { up with keeper := { up.keeper with next := 4080 } }

theorem test_ring_hyps :
    (writeEntry { (parseEvent []) with cls := 2 } fullRing).1 = false ∧
    (writeEntry { (parseEvent []) with cls := 3 } fullRing).1 = true := by decide +kernel

theorem test_completion_hyps :
    crSize (setReg (Reg.Q_CR_SIZE 0) 6 up) 0 ≤ 2 ^ 16 ∧ 0 < crSize (setReg (Reg.Q_CR_SIZE 0) 6 up) 0 ∧
    (31 + 1) % crSize (setReg (Reg.Q_CR_SIZE 0) 5 up) 0 = 0 := by decide +kernel

/-- A final window of two units: one that is moved, one whose MAP entry points beyond the end. -/
theorem test_permute_hyps :
    let w : List PByte := (List.range 16).map fun i => ⟨BitVec.ofNat 8 i, false⟩
    w.length = 8 * 2 ∧ (permuteWindow [1, 2] w).map (·.b) = [8, 9, 10, 11, 12, 13, 14, 15, 0, 0, 0, 0, 0, 0, 0, 0] := by
  decide +kernel

theorem test_key_zero_hyps :
    coreUp up = true ∧ (0x80000000#32).getLsbD 31 = true ∧ (0x80000000#32).toNat % 65536 = 0 := by decide

/-! ### Hypotheses that are met: resets, release, clocks -/

theorem test_resets_hyps :
    80 ≤ 80 ∧ up.rst.porLow = false ∧ up.rst.trip = false ∧ coreUp up = true ∧ quiesced up = true ∧
    bit up Reg.GEN_STATUS 5 = false ∧ 39 < 40 ∧ (at_ .held).rst.porLow = false ∧
    (coreUp (at_ .held) && quiesced (at_ .held) && !bit (at_ .held) Reg.GEN_STATUS 5) = false ∧
    up.rst.tripDue = false ∧ { up with rst := { up.rst with tripDue := true } }.rst.tripDue = true ∧
    isCoreReg Reg.GEN_CTL = true ∧ Reg.GEN_CTL ≠ Reg.FAB_INCARN ∧ (0x40000 ≤ 0xA3FFC ∧ 0xA3FFC < 0xA4000) := by
  and_intros <;> decide +kernel

theorem test_release_hyps :
    (State.reset.rst.hardLow = false ∧ State.reset.rst.trip = false ∧ State.reset.rst.step = .held) ∧
    (at_ .held).rst.porLow = false ∧
    ((at_ .fuse).rst.step = .fuse ∧ (at_ .fuse).shadow = none ∧
      { (at_ .fuse) with fuses := { Fuses.blank with secret := 1 } }.fuses.secret ≠ 0) ∧
    { (at_ .fuse) with shadow := some Fuses.blank }.shadow = some Fuses.blank ∧
    ((at_ .pll).rst.step = .pll ∧ (at_ .pll).sec.opening = false) ∧
    ((at_ .units).rst.refOk ≠ 0 ∧ (at_ .units).rst.step = .units) ∧
    (at_ (.tile 0)).rst.step = .tile 0 ∧ (at_ (.tile 35)).rst.step = .tile 35 := by decide

/-- The input that the core PLL runs from is out of tolerance while RST_POR_N is low. -/
theorem test_release_input_hyps :
    let s := { State.reset with rst := { State.reset.rst with refOk := 0x1FE#9 } }
    s.rst.hardLow = false ∧ s.rst.trip = false ∧ s.rst.step = .held ∧ coreUp s = false ∧ s.rst.pllInput = some 0 ∧
    s.rst.refOk.getLsbD 0 = false ∧ lowestRef s.rst.refOk = some 1 ∧
    (∀ g, State.reset.rst.pllInput = some g → State.reset.rst.refOk.getLsbD g = true) ∧ keeperRuns (at_ .pll) = false := by
  refine ⟨rfl, rfl, rfl, rfl, rfl, rfl, by decide, ?_, rfl⟩
  intro g h
  obtain rfl : 0 = g := by simpa [State.reset, ResetUnit.initial] using h
  decide

/-- The setting and the present core clock in MHz. -/
def clock (set now : Nat) : State :=
  setFld Reg.RST_CLK_STATUS 0 12 now (setFld Reg.RST_CLK_CTL 0 12 set up)

theorem test_clocks_hyps :
    (15, 1) ∈ { up with rst := { up.rst with bursts := [(15, 1)] } }.rst.bursts ∧
    (State.reset.rst.refOk.getLsbD 8 = true ∧ State.reset.rst.pllInput ≠ some 8 ∧ coreUp State.reset = false) ∧
    ((at_ .pll).rst.pllInput = some 0 ∧ lowestRef ((at_ .pll).rst.refOk &&& ~~~(1#9 <<< 0)) = some 1) ∧
    { up with rst := { up.rst with pllInput := none } }.rst.pllInput = none ∧
    (1200 ≤ 1200 ∧ 2000 ≤ 2000 ∧ 2000 % 25 = 0 ∧ 1200 % 25 = 0) ∧ (1199 < 1200 ∧ 2000 < 2001 ∧ 1213 % 25 ≠ 0) ∧
    fld (clock 1225 1200) Reg.RST_CLK_STATUS 0 12 + 25 ≤ fld (clock 1225 1200) Reg.RST_CLK_CTL 0 12 ∧
    fld (clock 1200 1225) Reg.RST_CLK_CTL 0 12 + 25 ≤ fld (clock 1200 1225) Reg.RST_CLK_STATUS 0 12 := by
  and_intros <;> decide +kernel

/-- An input is lost while the core runs: one that the core PLL does not use, the one it uses with others left, and its
last one; the links of input 8 are up. -/
theorem test_input_loss_hyps :
    let one : State := { up with rst := { up.rst with refOk := 0x100#9, pllInput := some 8 } }
    (up.rst.refOk.getLsbD 8 = true ∧ coreUp up = true ∧ up.rst.porLow = false ∧ up.rst.pllInput ≠ some 8) ∧
    (up.rst.pllInput = some 0 ∧ lowestRef (up.rst.refOk &&& ~~~(1#9 <<< 0)) = some 1) ∧
    (one.rst.refOk.getLsbD 8 = true ∧ one.rst.pllInput = some 8 ∧ lowestRef (one.rst.refOk &&& ~~~(1#9 <<< 8)) = none) ∧
    (((List.range 4).map (4 * 8 + ·)).filter fun k => tileUp up k) = [32, 33, 34, 35] ∧
    (0xFFFF04B0#32).toNat % 4096 = 1200 ∧ (0x000004AF#32).toNat % 4096 < 1200 := by
  and_intros <;> decide +kernel

/-- The watchdog has expired `n` times at time 0. -/
def expired (n : Nat) : State := { up with rst := { up.rst with wdExpiries := List.replicate n 0 } }

theorem test_watchdog_hyps :
    (up.rst.keeperUp = true ∧ (up.keeper.running || up.keeper.recovery) = true) ∧
    3 ≤ ((expired 3).rst.wdExpiries.filter fun t => (expired 3).now < t + 60000000000).length ∧
    ((expired 2).rst.wdExpiries.filter fun t => (expired 2).now < t + 60000000000).length < 3 ∧
    bit (raise Reg.RST_STATUS 5 up) Reg.RST_STATUS 5 = true := by
  and_intros <;> decide +kernel

/-! ### Hypotheses that are met: configuration -/

/-- Whether an address names word `w` of a register of `n` words at `a`. -/
def names (addr a n w : Nat) : Bool :=
  match findReg addr with
  | some (d, b, v) => b == a && v == w && d.words == n
  | none => false

theorem test_port_hyps :
    names Reg.GEN_CTL Reg.GEN_CTL 1 0 = true ∧ names Reg.XLT_INV_ADDR Reg.XLT_INV_ADDR 2 0 = true ∧
    names (Reg.XLT_INV_ADDR + 4) Reg.XLT_INV_ADDR 2 1 = true ∧ portAnswers up Reg.GEN_CTL = true ∧
    portAnswers up Reg.XLT_INV_ADDR = true ∧ findReg 0xFFFFC = none ∧
    names (0x8000 + 0x200 * 255 + 0x10) (Reg.Q_RING_SIZE 255) 1 0 = true ∧
    names (0x6000 + 0xC) Reg.MGT_STEER_CTL 1 0 = true ∧
    { up with staged := Tbl.empty.set (Reg.XLT_DIR_BASE 63) 7 }.staged.find (Reg.XLT_DIR_BASE 63) = some 7 ∧
    { up with captured := Tbl.empty.set Reg.XLT_INV_ADDR 7 }.captured.find Reg.XLT_INV_ADDR = some 7 := by
  and_intros <;> decide +kernel

/-- The upper word of a register of tile 35: staged where the tile is out of reset, refused where it is not. -/
theorem test_port_tile_hyps :
    names (Reg.LNK_FEC_UNCORR_CW 35 + 4) (Reg.LNK_FEC_UNCORR_CW 35) 2 1 = true ∧
    registerTile (Reg.LNK_FEC_UNCORR_CW 35) = some 35 ∧ tileUp up 35 = true ∧
    (coreUp up = true ∧ tileUp { up with rst := { up.rst with tiles := 35 } } 35 = false) ∧
    registerTile Reg.XLT_INV_ADDR = none := by
  and_intros <;> decide +kernel

/-- A configuration image of one entry, which writes `v` to the register at `off`. -/
def image (off v : Nat) : List Byte :=
  let b := leBytes 4 0x4B5A4349 ++ leBytes 2 1 ++ [0xB0, 0] ++ leBytes 4 1 ++ leBytes 4 56 ++ leBytes 4 9 ++ zeros 12
    ++ leBytes 4 off ++ leBytes 4 v
  b ++ leBytes 4 (crc32c b).toNat ++ leBytes 4 0xA5C33C5A ++ zeros 8

/-- One read is outstanding on port 15, job 7, of what one command brings whole; its data is to be dropped, or not. -/
def withWhole (w : Whole) (drop : Bool) (s : State) : State :=
  { s with mem := { s.mem with
      out := [⟨15, 4095, false, 0, 1, 0, false, 7, 0, false, [], drop⟩]
      rjobs := Tbl.empty.set 7 ⟨.whole w, [⟨0, 64, none⟩], none⟩ } }

theorem test_image_hyps :
    (masterEn on = true ∧ on.qe.descs = Tbl.empty ∧ on.qe.queues = Tbl.empty ∧ on.mem.rjobs = Tbl.empty) ∧
    masterEn up = false ∧ cfgState up = 0 ∧ cfgState (setReg Reg.GEN_CFG_STATUS 3 on) = 3 ∧
    cfgState (setReg Reg.GEN_CFG_STATUS 1 on) = 1 ∧ masterEn (setReg Reg.GEN_CFG_STATUS 1 on) = true ∧
    (imageCause (image Reg.GEN_OP_TMO 1000)).1 = 0 ∧ (imageCause (image 0xFFFFC 0)).1 ≠ 0 ∧
    (∀ h ∈ up.txn.held, h.packet.win ≠ 4095) ∧
    (let s := withWhole (.image false) false (setReg Reg.GEN_CFG_STATUS 1 on)
     findWhole (fun w => w == .image true) s = none ∧
     (wholeBack Whole.isImage s).1 = some (.image false, false)) := by
  and_intros <;> decide +kernel

/-! ### Hypotheses that are met: queues and descriptors -/

/-- Queue 0 is enabled, with a ring of 16 slots and a completion ring of 16. -/
def queueOn : State :=
  setReg (Reg.Q_CR_SIZE 0) 4 (setReg (Reg.Q_RING_SIZE 0) 4 (setFld (Reg.Q_CTL 0) 18 11 4 (raise (Reg.Q_CTL 0) 0 mapped)))

theorem test_queue_hyps :
    (unitsUp up = true ∧ queueEn up 0 = false ∧ queueIdle up 0 = true ∧ (1#32).getLsbD 0 = true) ∧
    (queueEn queueOn 0 = true ∧ natField (0#32).toNat 7 6 = queuePart queueOn 0 ∧ (0#32).getLsbD 0 = false) ∧
    (natField (0x81#32).toNat 7 6 ≠ queuePart queueOn 0 ∧ natField (0x80#32).toNat 7 6 ≠ queuePart queueOn 0) ∧
    (15 < ringSize queueOn 0 ∧ ringSize queueOn 0 ≤ 16) ∧
    (0 < crSize queueOn 0 ∧ (0 + crSize queueOn 0 - (queue queueOn 0).crHead % crSize queueOn 0) % crSize queueOn 0 ≤
      crUnread queueOn 0) ∧ crSize queueOn 0 ≤ 16 := by
  and_intros <;> decide +kernel

/-- Two descriptors in progress: number 0 in cancel group 3, number 1 in group 4. -/
def grouped : State :=
  setDesc 1 { (descOf opREAD .running) with bits := BitVec.ofNat 512 (opREAD + 2 ^ 14 + 4 * 2 ^ 16) }
    (setDesc 0 { (descOf opREAD .running) with bits := BitVec.ofNat 512 (opREAD + 2 ^ 14 + 3 * 2 ^ 16) } queueOn)

theorem test_cancel_hyps :
    (match desc grouped 0 with
      | some v => decide (v.part = 0 ∧ dCgEn v.bits = true ∧ dGroup v.bits = 3 ∧ v.disabled = false)
      | none => false) = true ∧
    (match desc grouped 1 with
      | some v => decide (¬(v.part = 0 ∧ dCgEn v.bits = true ∧ dGroup v.bits = 3))
      | none => false) = true ∧
    (∀ e ∈ grouped.qe.descs.entries, e.1 = 1 →
      ¬(e.2.part = 0 ∧ dCgEn e.2.bits = true ∧ dGroup e.2.bits = 3)) := by
  and_intros <;> decide +kernel

/-- Queue 0 is fetching eight slots in two reads, the first of which is outstanding. -/
def fetching (drop : Bool) : State :=
  withWhole (.slots 0 0 4) drop
    (modQueue 0 (fun v => { v with fetching := [(0, 4), (4, 4)], reserved := 8, fetchDrop := drop }) queueOn)

/-- Queue 0 has fetched descriptor 0. -/
def fetched : State := modQueue 0 (fun v => { v with fetched := [0] }) (setDesc 0 (descOf opREAD .fetched) queueOn)

/-- Descriptor 0 has accounted every packet. -/
def drained : State := setDesc 0 (descOf opREAD .drain) queueOn

/-- Tile queue 0 holds one token whose template is loaded, and is bound to queue 0. -/
def tokenIn : State :=
  modTq 0 (fun v => { v with tokens := [0], templates := Tbl.empty.set 0 (BitVec.ofNat 512 opREAD) })
    (raise Reg.GEN_TQ_CTL 0 queueOn)

theorem test_descriptor_hyps :
    (∀ drop ∈ [false, true],
      (wholeBack (Whole.ofQueue 0) (fetching drop)).1 = some (.slots 0 0 4, drop) ∧
      (queue (wholeBack (Whole.ofQueue 0) (fetching drop)).2 0).fetchDrop = drop) ∧
    (findWhole (Whole.ofQueue 0) (fetching true) =
      some (7, .slots 0 0 4, [⟨15, 4095, false, 0, 1, 0, false, 7, 0, false, [], true⟩]) ∧
      (fetching true).mem.queue = []) ∧
    (nextTurn fetched = some 0 ∧ headDesc fetched 0 = some (0, descOf opREAD .fetched)) ∧
    recordDue drained 0 (descOf opREAD .drain) = true ∧
    (tileQueue up 7).tokens.length < 64 ∧ 64 ≤ (List.replicate 64 (0 : BitVec 256)).length := by
  and_intros <;> decide +kernel

theorem test_token_hyps :
    let v := Desc.new 0 (BitVec.ofNat 16 (natField (tokWord 0 0) 16 16)) true
      (tokenBits 0 (BitVec.ofNat 512 opREAD)) false (queuePart tokenIn 0) (partOf tokenIn (queuePart tokenIn 0)).key
    masterEn tokenIn = true ∧ tqEn tokenIn 0 = true ∧ boundQueue tokenIn 0 = 0 ∧ queueEn tokenIn 0 = true ∧
    (tileQueue tokenIn 0).tokens = [0] ∧
    (tileQueue tokenIn 0).templates.find (natField (tokWord 0 0) 0 6) = some (BitVec.ofNat 512 opREAD) ∧
    disabledLeft tokenIn = false ∧ inFlight tokenIn 0 + (queue tokenIn 0).reading < maxInflight tokenIn 0 ∧
    tokenIn.qe.descs.entries.length + slotsReading tokenIn < 8192 ∧ 0 < crFree tokenIn 0 ∧
    (isCancelled tokenIn v = false ∧ nextTurn tokenIn = some (256 + 0)) := by
  and_intros <;> decide +kernel

/-- GEN_TQ_CTL with LOAD set and a count of `n` templates. -/
def loadWord (n : Nat) : Word := BitVec.ofNat 32 (2 ^ 31 + n * 2 ^ 18)

theorem test_template_hyps :
    (0#32).getLsbD 31 = false ∧ ((loadWord 0).getLsbD 31 = true ∧ natField (loadWord 0).toNat 18 7 = 0) ∧
    (let u := storeReg Reg.GEN_TQ_CTL (loadWord 64).toNat up
     (loadWord 64).getLsbD 31 = true ∧ 0 < natField (loadWord 64).toNat 18 7 ∧
     natField (loadWord 64).toNat 12 6 + natField (loadWord 64).toNat 18 7 ≤ 64 ∧
     tqEn u (natField (loadWord 64).toNat 8 3) = false ∧ (tileQueue u (natField (loadWord 64).toNat 8 3)).tokens = [] ∧
     (∀ x, x < 8 → (tileQueue u x).loading = none)) ∧
    (∀ drop ∈ [false, true],
      let r := wholeBack Whole.isTemplates
        (withWhole (.templates 7) drop (modTq 7 (fun v => { v with loading := some (0, 64) }) on))
      r.1 = some (.templates 7, drop) ∧ (tileQueue r.2 7).loading = some (0, 64)) := by
  and_intros <;> decide +kernel

/-- A slot that could not be read, and one whose opcode is unknown. -/
theorem test_start_hyps :
    ({ (descOf 0 .fetched) with bad := true }.bad = true) ∧
    (let s := setDesc 0 (descOf 0x7F .fetched) queueOn
     let n := s.qe.starts + 1
     let u : State := { s with qe := { s.qe with starts := n } }
     let w : Desc := { (descOf 0x7F .fetched) with startNo := n, chain := [], pkey := (partOf u 0).key }
     desc s 0 = some (descOf 0x7F .fetched) ∧ startFault u w = some stBADOP) := by
  and_intros <;> decide +kernel

/-! ### Hypotheses that are met: memory ports, the target, the initiator -/

/-- A request of one line on port 15. -/
def request (write walk drop : Bool) (job : Nat) : MemReq :=
  ⟨15, 4095, write, 0, 1, 0, false, job, 0, walk, [], drop⟩

/-- What a reset left of a request. -/
def stale : StaleReq := ⟨15, 4095, 7, none⟩

/-- Port 15 has one request outstanding, a read of `n` parts. -/
def reading (drop : Bool) (n : Nat) : State :=
  { on with mem := { on.mem with
      out := [request false false drop 7]
      rjobs := Tbl.empty.set 7 ⟨.target (packetOf tRD), List.replicate n ⟨0, 64, none⟩, none⟩ } }

/-- Port 15 has one request outstanding, a write of `n` parts. -/
def writing (what : WrWhat) (n : Nat) : State :=
  { on with mem := { on.mem with
      out := [request true false false 7], wjobs := Tbl.empty.set 7 ⟨what, n, 0, 0, none⟩ } }

/-- One line read. -/
def line : Beat := ⟨zeros 64, 0, false⟩

theorem test_read_hyps :
    findReq (reading false 1) 15 4095 false false = some (request false false false 7) ∧
    (readReturn (request false false false 7) line (reading false 1)).1.isSome = true ∧
    (readReturn (request false false false 7) line (reading false 2)).1 = none ∧
    findReq (reading true 1) 15 4095 false false = some (request false false true 7) ∧
    (coreUp State.reset = false ∧
      { State.reset with rst := { State.reset.rst with stale := [stale] } }.rst.stale.find?
        (fun x => x.port == 15 && x.id == 4095) = some stale) ∧
    (request false false false 7).isWhole (reading false 1) = false ∧
    (request false false true 7).isWhole (reading true 1) = false ∧
    findReq { on with mem := { on.mem with out := [request false true false 0] } } 15 4095 false true =
      some (request false true false 0) := by
  and_intros <;> decide +kernel

theorem test_write_hyps :
    findReq (writing .security 1) 15 4095 true false = some (request true false false 7) ∧
    (writeReturn (request true false false 7) false (writing .security 1)).1.map (·.2) = some true ∧
    (∀ p, WrWhat.security ≠ .posted p) ∧
    (writeReturn (request true false false 7) false (writing (.posted (packetOf tWR)) 1)).1.map (·.2) = some true ∧
    (writeReturn (request true false false 7) true
      (bump Reg.GEN_MEM_WERR_CNT { on with mem := { on.mem with out := [request true false false 7] } })).1 = none ∧
    (writing .security 2).mem.wjobs.find (request true false false 7).job = some ⟨.security, 2, 0, 0, none⟩ ∧
    (writeReturn (request true false false 7) false (writing (.posted (packetOf tWR)) 2)).1.map (·.2) = some false := by
  refine ⟨?_, ?_, ?_, ?_, ?_, ?_, ?_⟩
  all_goals first | (intro p h; cases h) | decide +kernel

/-- The operation that an ATOM enters with. -/
def atomOpOf : AtomOp :=
  { packet := packetOf tATOM, pa := 64, off := 0, mattr := 0, part := 0, gen := 0, stage := 0, old := [], bad := false,
    group := 0 }

theorem test_atomic_hyps :
    let s := { on with txn := { on.txn with atoms := Tbl.empty.set 3 atomOpOf } }
    s.txn.atoms.find 3 = some atomOpOf ∧ atomicReady s 3 atomOpOf = true := by decide +kernel

/-- The whole range of partition 0 is readable and writable, so every request of key 5 finds its bytes. -/
def served : State := setReg (Reg.XLT_DIR_BASE 0) 1 mapped

/-- A packet of each type the target takes, well formed as a request. -/
def requestOf (ty : BitVec 6) : Packet :=
  if ty = tGRD then { (packetOf ty) with len := 0, expect := 65536 }
  else if ty = tATOM then { (packetOf ty) with len := 32 }
  else if ty = tMSG then { (packetOf ty) with ff := true }
  else packetOf ty

theorem test_request_hyps :
    unitsUp served = true ∧ masterEn served = true ∧
    (∀ ty ∈ [tRD, tPRD, tGRD, tWR, tPWR, tMSG, tATOM, tVACC],
      (requestOf ty).abt = false ∧ ejectHeld served (requestOf ty) = false ∧ partOfKey served (requestOf ty).pkey = some 0 ∧ requestFault (requestOf ty) = none ∧
      (match lookBlocks (takeEjected (requestOf ty) served) 0 (requestPerm (requestOf ty))
          (blocks4k (requestOf ty).addr.toNat (requestBytes (requestOf ty))) with
        | .ok (_ :: _) _ => true
        | _ => false) = true) := by
  and_intros <;> decide +kernel

theorem test_refused_hyps :
    { (packetOf tRD) with abt := true }.abt = true ∧ partOfKey served 6 = none ∧ partOfKey served 5 ≠ none ∧
    (masterEn up = false ∧ partOfKey { served with regs := up.regs } 5 ≠ none) ∧
    (∀ ty ∈ [tRD, tPRD, tWR, tPWR, tVACC], requestFault { (packetOf ty) with len := 0 } ≠ none) ∧
    requestFault { (packetOf tGRD) with addr := 2 } = some stALIGN ∧
    requestFault (packetOf tMSG) = some stBADOP ∧ requestFault (packetOf tATOM) = some stBADOP ∧
    (∀ ty ∈ [tRD, tPRD, tGRD, tWR, tPWR, tMSG, tATOM, tVACC],
      (writeClass ty = false ∨ writeClass ty = true) ∧
      (match lookBlocks (takeEjected (requestOf ty) mapped) 0 (requestPerm (requestOf ty))
          (blocks4k (requestOf ty).addr.toNat (requestBytes (requestOf ty))) with
        | .fault st va => decide (st = stXLT ∧ va = 64) | _ => false) = true ∧
      (let p : Packet := { (requestOf ty) with addr := BitVec.ofNat 52 (2 ^ 20) }
       requestFault p = none ∧
       (match lookBlocks (takeEjected p served) 0 (requestPerm p) (blocks4k p.addr.toNat (requestBytes p)) with
         | .miss va => va == 2 ^ 20 | _ => false) = true)) ∧
    served.txn.miss.length < 64 ∧
    64 ≤ { served with txn := { served.txn with
      miss := List.replicate 64 ⟨0, packetOf tWR⟩ } }.txn.miss.length ∧
    ejectHeld { served with txn := { served.txn with stopVcs := [0] } } (packetOf tWR) = true ∧ listedType 0x3F = false := by
  and_intros <;> decide +kernel

/-- A fence-final write of one line with an EXPECT. -/
def fence (e : Word) : Packet := { (packetOf tWR) with ff := true, expect := e }

/-- 1,024 writes are held. -/
def holdFull : State := { on with txn := { on.txn with held := List.replicate 1024 ⟨0, fence 2, 0, 0, 0, 0⟩ } }

theorem test_fence_hyps :
    (fence 2).ff = true ∧
    classify (winCount on 0) (packetLines (fence 1)) (fence 1).expect.toNat = .reached ∧
    classify (winCount on 0) (packetLines (fence 2)) (fence 2).expect.toNat = .pending ∧
    classify (winCount on 0) (packetLines (fence 0x80000001)) (fence 0x80000001).expect.toNat = .pending ∧
    classify (winCount on 0) (packetLines (fence 0x80000002)) (fence 0x80000002).expect.toNat = .fault ∧
    classify (winCount on 0) (packetLines (fence 0xC0000000)) (fence 0xC0000000).expect.toNat = .fault ∧
    on.txn.held.length < 1024 ∧ 1024 ≤ holdFull.txn.held.length ∧ holdFull.router.inject ≠ [] ∧ masterEn on = true := by
  refine ⟨rfl, ?_, ?_, ?_, ?_, ?_, ?_, by simp [holdFull], ?_, ?_⟩ <;> decide +kernel

/-- Tag 7 waits for one answer and for the lines of one element, for descriptor 0 of opcode `o`. -/
def tagged (o : Nat) (q : Bool) (len : Nat) : State :=
  setTag 7 ⟨0, q, true, Tbl.empty.set 0 ⟨2, 2, 0, 128⟩, [⟨o == opATOMIC, 0, 0, len, 0, [], 0, none⟩], none, false⟩
    (setDesc 0 (descOf o .running) on)

theorem test_answer_hyps :
    (∀ ty ∈ [tRDR, tATOMR], { (packetOf ty) with tag := 7 }.abt = false ∧ { (packetOf ty) with tag := 7 }.status = stOK) ∧
    (∀ x ∈ (tagOf (tagged opREAD false 64) 7).toList, x.quarantine = false ∧
      sealedOk x { (packetOf tRDR) with tag := 7 } = true ∧ (x.expects.find? (fits false (packetOf tRDR))).isSome = true ∧
      (x.lines.find 0).isSome = true) ∧
    (tagOf (tagged opREAD false 64) 7).isSome = true ∧ desc (tagged opREAD false 64) 0 = some (descOf opREAD .running) ∧
    opcode (descOf opREAD .running).bits ≠ opGATHER ∧
    (∀ x ∈ (tagOf (tagged opATOMIC false 16) 7).toList,
      x.quarantine = false ∧ sealedOk x { (packetOf tATOMR) with tag := 7 } = true ∧
      (x.expects.find? (fun e => e.atom && e.seq == 0)).isSome = true) ∧
    (tagOf (tagged opATOMIC false 16) 7).isSome = true ∧ (desc (tagged opATOMIC false 16) 0).isSome = true ∧
    (stPOISONED ≠ stOK ∧ stXLT ≠ stOK ∧ stXLT ≠ stPOISONED ∧ stXLT ≠ stHOLDFULL ∧ stXLT ≠ stSUMP) ∧
    (∀ x ∈ (tagOf (tagged opREAD false 64) 7).toList, ∀ a ∈ (x.lines.find 0).toList, 2 ≤ a.left) ∧
    tagOf on 7 = none ∧ (tagOf (tagged opREAD true 64) 7).map (·.quarantine) = some true := by
  and_intros <;> decide +kernel

/-- A descriptor whose fence-final packet was refused. -/
def refused : Desc := { (descOf opWRITE .running) with resend := some ⟨fence 2, 1, 0, 0, none, none, 1⟩ }

theorem test_timer_hyps :
    (desc (setDesc 0 refused on) 0 = some refused ∧ refused.resend.map (·.stage) = some 1 ∧ refused.disabled = false ∧
      refused.stopped = false) ∧
    (holdFull.txn.held.find? (fun x => x.no == 0)).isSome = true ∧
    (([⟨3, 5, false, [⟨stOK, 7, 0, 1⟩], 1⟩] : List RecSet).find?
      (fun x => x.node == 3 && x.pkey == 5 && x.vc7 == false)).isSome = true ∧
    (∀ o ∈ [opREAD, opGATHER, opRESUME, opALLREDUCE], (desc (freeTag 7 true (tagged o false 64)) 0).isSome = true) ∧
    (isCollective opREAD = false ∧ isElement (descOf opREAD .running).bits = false) ∧
    (isElement (descOf opGATHER .running).bits = true ∧ isCollective opALLREDUCE = true) := by
  and_intros <;> decide +kernel

/-! ### Hypotheses that are met: translation and the impeller -/

/-- The length of a translation command. -/
def invLen (n : Nat) : State := setReg Reg.XLT_INV_LEN (BitVec.ofNat 64 n) up

/-- A translation command is in progress, and the accesses it waits for have ended. -/
def invRuns : State := { up with xlt := { up.xlt with inv := some ⟨2, 0, [(0, 1)]⟩ } }

theorem test_translation_hyps :
    up.xlt.inv = none ∧ (0 < fld (invLen 1) Reg.XLT_INV_LEN 0 47 ∧ fld (invLen (2 ^ 46)) Reg.XLT_INV_LEN 0 47 ≤ 2 ^ 46) ∧
    fld (invLen 0) Reg.XLT_INV_LEN 0 47 = 0 ∧ dirEn served 0 = true ∧ dirEn served 63 = false ∧ served.xlt.inv = none ∧
    invRuns.xlt.inv ≠ none ∧ drainEnded invRuns = true := by
  and_intros <;> decide +kernel

theorem test_invalidate_hyps :
    (List.range 64).Nodup ∧
    (let s := setWalk 0 (Walk.new .target 0 64 3 []) served
     ∀ e ∈ s.xlt.walks.entries, dirEn s e.2.part = true) := by
  refine ⟨List.nodup_range, ?_⟩
  decide +kernel

/-- The value of IMP_CHAIN_CTL that loads `n` programs from slot `i` on. -/
def chainWord (i n : Nat) : Word := BitVec.ofNat 32 (1 + i * 2 ^ 8 + n * 2 ^ 16)

theorem test_chain_hyps :
    (natField (chainWord 0 64).toNat 0 2 = 1 ∧ on.imp.loading = none ∧ 0 < natField (chainWord 0 64).toNat 16 7 ∧
      natField (chainWord 0 64).toNat 8 6 + natField (chainWord 0 64).toNat 16 7 ≤ 64 ∧
      masterEn (storeReg Reg.IMP_CHAIN_CTL (chainWord 0 64).toNat on) = true) ∧
    natField (chainWord 0 0).toNat 16 7 = 0 ∧
    64 < natField (chainWord 1 64).toNat 8 6 + natField (chainWord 1 64).toNat 16 7 ∧
    (∀ drop ∈ [false, true],
      let r := wholeBack (fun w => w == .programs)
        (withWhole .programs drop { on with imp := { on.imp with loading := some (63, 1) } })
      r.1 = some (.programs, drop) ∧ r.2.imp.loading = some (63, 1)) ∧
    progCause (zeros 256) = 0 ∧ progCause (leBytes 4 (2 ^ 31) ++ zeros 252) = 1 := by
  and_intros <;> decide +kernel

/-- A descriptor with a chain that waits for a pipe. -/
def piping (o : Nat) : Desc := { (descOf o .pipe) with bits := BitVec.ofNat 512 (o + 2 ^ 238) }

/-- A NOP, which passes every start check. -/
def nop : Desc := descOf opNOP .pipe

theorem test_pipe_hyps :
    (let s := setDesc 0 (piping opALLREDUCE) queueOn
     (s.qe.descs.entries.filter fun e => wantsPipe s e.1 e.2 && !slotLoading s e.2.bits) = [(0, piping opALLREDUCE)] ∧
     isCollective (opcode (piping opALLREDUCE).bits) = true ∧ choosePipe s true = some 6 ∧
     chainBad s (piping opALLREDUCE).bits = true) ∧
    (let s := setDesc 0 (piping opWRITE) queueOn
     (s.qe.descs.entries.filter fun e => wantsPipe s e.1 e.2 && !slotLoading s e.2.bits) = [(0, piping opWRITE)] ∧
     isCollective (opcode (piping opWRITE).bits) = false ∧
     collFormat (opcode (piping opWRITE).bits) = false ∧ choosePipe s false = some 0 ∧
     startFault s { (piping opWRITE) with chain := (slotProgram s (piping opWRITE).bits).getD [] } ≠ none) ∧
    (let s := setDesc 0 nop queueOn
     (s.qe.descs.entries.filter fun e => wantsPipe s e.1 e.2 && !slotLoading s e.2.bits) = [(0, nop)] ∧
     collFormat (opcode nop.bits) = false ∧ choosePipe s false = some 0 ∧
     startFault s { nop with chain := (slotProgram s nop.bits).getD [] } = none) := by
  and_intros <;> decide +kernel

/-- A chain program of one stage that adds the second operand, in FP32. -/
def addProgram : List Byte := fit 256 (leBytes 4 (2 ^ 12) ++ zeros 12 ++ leBytes 4 0x8010)

/-- A collective that may run its chain, and a RESUME without one, wait for a pipe alone. -/
theorem test_pipe_job_hyps :
    (let v : Desc := { (descOf opALLREDUCE .pipe) with
       bits := BitVec.ofNat 512 (opALLREDUCE + 1024 * 2 ^ 192 + 2 ^ 238) }
     let s := setDesc 0 v { queueOn with imp := { queueOn.imp with chains := Tbl.empty.set 0 addProgram } }
     (s.qe.descs.entries.filter fun e => wantsPipe s e.1 e.2 && !slotLoading s e.2.bits) = [(0, v)] ∧
     isCollective (opcode v.bits) = true ∧ choosePipe s true = some 6 ∧ progCause addProgram = 0 ∧
     chainBad s v.bits = false) ∧
    (let v : Desc := { (descOf opRESUME .pipe) with bits := BitVec.ofNat 512 (opRESUME + 1024 * 2 ^ 192) }
     let s := setDesc 0 v queueOn
     (s.qe.descs.entries.filter fun e => wantsPipe s e.1 e.2 && !slotLoading s e.2.bits) = [(0, v)] ∧
     isCollective (opcode v.bits) = false ∧ choosePipe s (collFormat (opcode v.bits)) = some 6 ∧
     startFault s { v with chain := (slotProgram s v.bits).getD [] } = none) := by
  and_intros <;> decide +kernel

/-! ### Hypotheses that are met: collectives -/

/-- A collective with identifier 9 and member 1 that waits for the arrivals of step `st`. -/
def collAt (ph : CollPhase) (st : Nat) (landed : Nat) : Coll :=
  { cid := 9, tag := 7, sig := 0x12345678, members := Tbl.empty.set 1 ⟨none, false, false, false, none, 0⟩, phase := ph,
    step := st,
    landed := Tbl.empty.set st landed, cursor := 0, row := 0, busy := false, a := none, b := none, list := none,
    listAt := 0, waiting := [], writes := 0, reads := 0, received := 0, issued := false, chunks := Tbl.empty, chunk := 0 }

/-- The words of a collective descriptor over dimension 0, of 128 bytes, with rows of 64 bytes, one row and one token. -/
def collBits (o : Nat) : BitVec 512 :=
  BitVec.ofNat 512 (o + 128 * 2 ^ 192 + 1 * 2 ^ 248 + 9 * 2 ^ 308 + 2 ^ 448 + 2 ^ 464 + 2 ^ 480)

/-- Descriptor 0 runs collective `o`. -/
def collective (o : Nat) (c : Coll) : State :=
  { (setDesc 0 { (descOf o .running) with bits := collBits o } served) with
    seq := { served.seq with colls := Tbl.empty.set 0 c } }

/-- A packet of a collective from member 1 with an address and a length. -/
def collPkt (ty : BitVec 6) (a n : Nat) : Packet :=
  { blankPacket with ptype := ty, src := 1, pkey := 5, win := 9, addr := BitVec.ofNat 52 a, len := BitVec.ofNat 12 n,
                     payload := zeros n }

/-- Member 1 is found, has no tag yet, and the descriptor runs. -/
def finds (ty : BitVec 6) (s : State) : Bool :=
  match memberPacket (collPkt ty 0 64) s with
  | some (_, v, _, m) => !v.stopped && m.tag.isNone
  | none => false

theorem test_member_hyps :
    memberPacket (collPkt tCDATA 0 64) up = none ∧
    (let s := collective opALLREDUCE (collAt .await 0 0)
     finds tCJOIN s = true ∧
     (match desc s 0 with
      | some v => opcode v.bits != opBROADCAST && (cdataPlace s v (collPkt tCDATA 0 64)).isSome
          && (cdataPlace s v (collPkt tCDATA 64 64)).isNone
      | none => false) = true) ∧
    { (collPkt tCABORT 0 4) with payload := [stPOISONED] }.payload.headD 0 ≠ stSUMP := by
  and_intros <;> decide +kernel

/-- A CJOIN may carry any signature: the one it is compared with, with bit 12 after it, or another. -/
theorem test_join_hyps (x : Word) :
    sliceNat (leBytes 4 x.toNat ++ leBytes 4 (2 ^ 12)) 0 4 = x.toNat ∧
    (sliceNat (leBytes 4 x.toNat ++ leBytes 4 (2 ^ 12)) 4 4).testBit 12 = true ∧
    sliceNat (leBytes 4 (~~~x).toNat) 0 4 ≠ x.toNat := by
  refine ⟨Laws.sliceNat_append [] _ 4 _ x.isLt, ?_, ?_⟩
  · have := Laws.sliceNat_append (leBytes 4 x.toNat) [] 4 (2 ^ 12) (by decide)
    simp only [Laws.length_leBytes, List.append_nil] at this
    rw [this]; decide
  · have := Laws.sliceNat_append [] [] 4 (~~~x).toNat (~~~x).isLt
    simp only [List.nil_append, List.append_nil, List.length_nil] at this
    rw [this]
    intro h
    exact absurd (BitVec.eq_of_toNat_eq h) (by bv_omega)

/-- Member 1 has tag 3 already, and sends another. -/
theorem test_member_tag_hyps :
    let s := collective opALLREDUCE
      { (collAt .await 0 0) with members := Tbl.empty.set 1 ⟨some 3, false, false, false, none, 0⟩ }
    (match memberPacket (collPkt tCJOIN 0 8) s with
      | some (_, v, _, m) => !v.stopped && m.tag == some 3 && m.tag != some (collPkt tCJOIN 0 8).tag
      | none => false) = true := by
  decide +kernel

/-- A broadcast of node 1 over a row and a column: the copy that comes here goes on; in a broadcast over the row alone it
does not. A CABORT from the sump names the collective's tag. -/
theorem test_broadcast_hyps :
    (let s := setReg Reg.FAB_ROW_MASK 1 served
     let b : BitVec 512 := BitVec.ofNat 512 ((collBits opBROADCAST).toNat + 2 ^ 296 + 2 * 2 ^ 248)
     let v : Desc := { (descOf opBROADCAST .running) with bits := b }
     cdataPlace s v (collPkt tCDATA 0 64) = some (0, 0) ∧ bcastForwards s b = true) ∧
    (let s := setReg Reg.FAB_ROW_MASK 1 served
     let b : BitVec 512 := BitVec.ofNat 512 ((collBits opBROADCAST).toNat + 2 ^ 296)
     let v : Desc := { (descOf opBROADCAST .running) with bits := b }
     cdataPlace s v (collPkt tCDATA 0 64) = some (0, 0) ∧ bcastForwards s b = false) ∧
    (let p : Packet := { (collPkt tCABORT 0 4) with tag := 7, payload := [stSUMP, 0, 0, 0] }
     ∀ x ∈ (slotOf (collective opALLREDUCE (collAt .await 0 0)) p.win.toNat).toList,
       p.payload.headD 0 = stSUMP ∧ p.tag.toNat = x.2.tag) ∧
    (slotOf (collective opALLREDUCE (collAt .await 0 0)) 9).isSome = true := by
  and_intros <;> decide +kernel

theorem test_exchange_hyps :
    (let s := collective opDISPATCH (collAt .await 0 0)
     finds tEDSP s = true ∧ (∀ v ∈ (desc s 0).toList, opcode v.bits = opDISPATCH ∧
       16 / rowBytes v.bits < dNrow v.bits ∧ 16 % rowBytes v.bits ≠ 0 ∧ 16 % rowBytes v.bits + 48 ≤ rowBytes v.bits ∧
       0 % rowBytes v.bits + 64 ≤ rowBytes v.bits ∧ rowBytes v.bits < 16 % rowBytes v.bits + 64)) ∧
    (let s := collective opCOMBINE (collAt .await 0 0)
     finds tECMB s = true ∧ (∀ v ∈ (desc s 0).toList, opcode v.bits = opCOMBINE ∧
       0 / rowBytes v.bits < dNtok v.bits ∧ requestFault { (collPkt tECMB 0 64) with ptype := tVACC } = none ∧
       (match lookLocal s v permLW (dYaddr v.bits % 2 ^ 52) 64 with
         | .ok (_ :: _) fs ms _ => (collOf (useLook 0 fs ms s) 0).isSome | _ => false) = true ∧
       (match lookLocal s v permLW (2 ^ 20) 64 with | .miss w => w == 2 ^ 20 | _ => false) = true ∧
       (match lookLocal { s with xlt := { s.xlt with frags := [⟨0, 0, 0, 2 ^ 20, 0, 1, 0, false, 0⟩] } } v permLW 0 64 with
         | .fault w => w == 0 | _ => false) = true)) := by
  and_intros <;> decide +kernel

/-- A CJOIN that wants an answer, one of a wrong length, and ECMBs that name no place: in another collective, beyond the
tokens, and of no lines. -/
theorem test_refused_member_hyps :
    (natField (sliceNat (leBytes 4 0 ++ leBytes 4 0) 4 4) 12 1 = 0) ∧ (collPkt tCJOIN 0 8).len = 8 ∧
    (collPkt tCJOIN 0 4).len ≠ 8 ∧ (collPkt tETALLY 0 8).len = 8 ∧ (collPkt tCABORT 0 8).len ≠ 4 ∧
    finds tECMB (collective opALLREDUCE (collAt .await 0 0)) = true ∧ opALLREDUCE ≠ opCOMBINE ∧
    (let s := collective opCOMBINE (collAt .await 0 0)
     ∀ v ∈ (desc s 0).toList, dNtok v.bits ≤ (collPkt tECMB 64 64).addr.toNat / rowBytes v.bits) ∧
    requestFault { (collPkt tECMB 0 0) with ptype := tVACC } ≠ none ∧
    (let s := collective opDISPATCH (collAt .await 0 0)
     ∀ v ∈ (desc s 0).toList, dNrow v.bits ≤ (collPkt tEDSP 64 64).addr.toNat / rowBytes v.bits) := by
  and_intros <;> decide +kernel

theorem test_park_hyps :
    let s := setTag 7 ⟨0, false, true, Tbl.empty, [⟨false, 0, 0, 64, 0, [], 0, none⟩], none, false⟩
      (setDesc 0 (piping opRESUME) on)
    (packetOf tPRDR).status = stOK ∧ (piping opRESUME).stopped = false ∧ dChainEn (piping opRESUME).bits = true ∧
    (∀ x ∈ (tagOf s 7).toList, x.quarantine = false ∧ sealedOk x (packetOf tPRDR) = true ∧
      (x.expects.find? (fits false (packetOf tPRDR))).isSome = true) ∧
    (tagOf s 7).isSome = true ∧ (desc s 0).isSome = true := by
  and_intros <;> decide +kernel

/-- The parts of the hypotheses about a step that waits. -/
def stepReady (o st : Nat) : Bool :=
  let s := collective o (collAt .await st 64)
  match desc s 0, collOf s 0 with
  | some v, some c => mayIssue s v && v.phase == .running && c.phase == .await && c.writes == 0
      && opcode v.bits != opBROADCAST && decide (stepLines s v.bits c.step ≤ c.landed.get c.step 0)
  | _, _ => false

theorem test_step_hyps :
    (stepReady opALLREDUCE 0 = true ∧ isReduceStep (collBits opALLREDUCE) 0 = true) ∧
    (stepReady opALLREDUCE 1 = true ∧ isReduceStep (collBits opALLREDUCE) 1 = false ∧
      totalSteps (collBits opALLREDUCE) ≤ 1 + 1) ∧
    (let b : BitVec 512 := BitVec.ofNat 512 ((collBits opALLGATHER).toNat + 2 ^ 249)
     isReduceStep b 0 = false ∧ 0 + 1 < totalSteps b) := by
  and_intros <;> decide +kernel

theorem test_resume_hyps :
    let bits : BitVec 512 := BitVec.ofNat 512 (opRESUME + 1024 * 2 ^ 192 + 2 ^ 238)
    let v : Desc := { (descOf opRESUME .running) with bits := bits, chain := zeros 256 }
    let c : Coll := { (collAt .send 0 0) with chunks := Tbl.empty.set 0 32768 }
    let s : State := { (setDesc 0 v served) with seq := { served.seq with colls := Tbl.empty.set 0 c } }
    collOf s 0 = some c ∧ mayIssue s v = true ∧ c.phase = .send ∧ opcode v.bits = opRESUME ∧
    chunkAt v c.chunk < chunkAt v (c.chunk + 1) ∧
    chunkAt v (c.chunk + 1) - chunkAt v c.chunk ≤ c.chunks.get c.chunk 0 := by
  and_intros <;> decide +kernel

/-- The value of GEN_EXP_CTL that loads `n` entries from entry `i` on. -/
def expertWord (i n : Nat) : Word := BitVec.ofNat 32 (2 ^ 31 + i + n * 2 ^ 10)

theorem test_expert_hyps :
    ((expertWord 0 1024).getLsbD 31 = true ∧ exchangeRuns up = false ∧ up.seq.loading = none ∧
      0 < natField (expertWord 0 1024).toNat 10 11 ∧
      natField (expertWord 0 1024).toNat 0 10 + natField (expertWord 0 1024).toNat 10 11 ≤ 1024) ∧
    exchangeRuns (collective opDISPATCH (collAt .await 0 0)) = true ∧
    (∀ drop ∈ [false, true],
      let r := wholeBack (fun w => w == .experts)
        (withWhole .experts drop { on with seq := { on.seq with loading := some (1023, 1) } })
      r.1 = some (.experts, drop) ∧ r.2.seq.loading = some (1023, 1)) ∧
    natField (sliceNat (zeros 8) 0 8) 40 23 = 0 := by
  and_intros <;> decide +kernel

/-! ### Hypotheses that are met: router and fabric -/

/-- Link 0 runs in service to a verified, ready neighbour; port 0 holds link 0, is in dimension 0 and admits key 5;
both routing tables send node 1 to port 0. -/
def wired (l : Link) : State :=
  setReg (Reg.FAB_RT_A 1) 0x80000001 (setReg (Reg.FAB_RT_B 1) 0x80000001 (setReg (pkeyEntry 0 0) 0x80000005
    (setReg (Reg.FAB_LPORT_LINKS 0) 1 (setReg (Reg.FAB_LPORT_CTL 0) 1 (setReg (Reg.FAB_LINK_STATUS 0) 1
      (setReg (Reg.FAB_LINK_NBR 0) (2 ^ 30) (setFld (Reg.LNK_CTL 0) 8 2 1
        (raise Reg.FAB_CTL 1 (raise Reg.FAB_CTL 0 (setLink 0 l served))))))))))

/-- A packet with key 5 for a node. -/
def toNode (n : NodeId) : Packet := { (packetOf tWR) with dst := n, vc := 1 }

/-- A link with a packet in its input buffer. -/
def brings (l : Link) (p : Packet) : State := wired { l with inbuf := [⟨p, false⟩] }

/-- A link that runs, with a packet for a node in its input buffer. -/
def bringing (n : NodeId) : State := brings running (toNode n)

/-- The first packet of VC 1 in the buffer of link 0, which the router may take. -/
def takes (s : State) (p : Packet) : Bool :=
  (link s 0).inbuf.find? (fun a => a.packet.vc == 1 && !isControl a.packet.ptype) == some ⟨p, false⟩ &&
    mayTake s 0 ⟨p, false⟩

theorem test_routes_hyps :
    (match decide1 (wired running) (toNode 1) true false with | .go k _ => k == 0 | _ => false) = true ∧
    (match decide1 (wired running) (toNode 1) false true with | .go k _ => k == 0 | _ => false) = true := by
  and_intros <;> decide +kernel

theorem test_fabric_route_hyps :
    (∀ n ∈ [0, 1, 2], takes (bringing n) (toNode n) = true) ∧
    (let p : Packet := { (toNode 3) with mcast := true }
     takes (brings running p) p = true ∧ ejectRoom (brings running p) p = true ∧
     localAdmits (takeFromLink 0 ⟨p, false⟩ (brings running p)) p = true ∧
     localAdmits (takeFromLink 0 ⟨p, false⟩ (brings running p)) { p with pkey := 6 } = false) ∧
    ((toNode 0).dst = ownId (bringing 0) ∧ ejectRoom (bringing 0) (toNode 0) = true) ∧
    (toNode 1).dst ≠ ownId (bringing 1) ∧
    (match decide1 (bringing 1) (toNode 1) false false with | .go .. => true | _ => false) = true ∧
    decide1 (bringing 2) (toNode 2) false false = .noroute ∧
    decide1 (bringing 1) { (toNode 1) with pkey := 6, vc := 0 } false false = .barred 0 ∧
    (let s := raise (Reg.FAB_SUMP_DST 0) 1 (setReg (Reg.FAB_LPORT_CTL 0) 0 (bringing 1))
     decide1 s (toNode 1) false false = .flush 0) ∧
    (let s := setReg (Reg.FAB_LPORT_CTL 0) 0 (bringing 1)
     decide1 s { (toNode 1) with epoch := true } false false = .restamp ∧
     decide1 s (toNode 1) false false = .hold { (toNode 1) with vc := 0 }) := by
  and_intros <;> decide +kernel

theorem test_fabric_wait_hyps :
    (let s := brings { running with stopIn := 0xFF } (toNode 1)
     decide1 s (toNode 1) false false = .wait ∧
     decide1 s (toNode 1) false true = .hold { (toNode 1) with vc := 0 }) ∧
    (let s := brings { running with stopIn := 2 } (toNode 1)
     decide1 s (toNode 1) false false = .wait ∧
     (match decide1 s (toNode 1) false true with | .go .. => true | _ => false) = true) ∧
    (let s := { up with router := { up.router with inject := [[], [], [toNode 0]] } }
     ((s.router.inject.getD 2 []).find? (fun p => injectReady s p false)) = some (toNode 0)) ∧
    (let s := wired running
     let u := { s with router := { s.router with inject := [[toNode 1], [], []] } }
     ((u.router.inject.getD 0 []).find? (fun p => injectReady u p false)) = some (toNode 1) ∧
     (match decide1 (takeFromInject 0 (toNode 1) u) { (toNode 1) with epoch := epochInj u } true false with
       | .go .. => true | _ => false) = true) ∧
    (let s := wired running
     let u := { s with router := { s.router with waiting := [⟨toNode 1, some 0, none⟩, ⟨toNode 1, none, none⟩] } }
     u.router.waiting[0]? = some ⟨toNode 1, some 0, none⟩ ∧ u.router.waiting[1]? = some ⟨toNode 1, none, none⟩ ∧
     (match decideCopy u (toNode 1) 0 with | .go .. => true | _ => false) = true ∧
     (match decide1 u (toNode 1) false false with | .go .. => true | _ => false) = true) := by
  and_intros <;> decide +kernel

theorem test_fabric_register_hyps :
    waitsFor (bringing 1) 0 1 = true ∧ (fabReady (wired running) = true ∧ epochInj up = false) ∧ fabReady up = false ∧
    epochInj (raise Reg.FAB_EPOCH_CTL 0 up) = true ∧ (0x8000FFFF#32).toNat % 65536 ≠ 0 ∧
    fabReady (storeReg Reg.FAB_CTL 0 up) = fabReady up ∧ fabReady (storeReg Reg.FAB_CTL 3 up) = true ∧
    fabReady (storeReg Reg.FAB_CTL 0 (wired running)) = false ∧ fabEn (wired running) = true ∧ fabEn up = false ∧
    (255#32).toNat % 256 ≠ 0 := by
  and_intros <;> decide +kernel

theorem test_neighbour_hyps :
    (link (wired running) 0).state = .active ∧ tileUp (wired running) 35 = true ∧ (packetOf tHELLO).abt = false ∧
    verified (wired running) 0 = true ∧ portOfLink (wired running) 0 = some 0 ∧
    (let s (w : Bool) : State := { (wired running) with router := { up.router with probe := some ⟨0, 1, true, w⟩ } }
     (s true).router.probe = some ⟨0, 1, true, true⟩ ∧ (s false).router.probe = some ⟨0, 1, true, false⟩ ∧
     BitVec.ofNat 16 (sliceNat [0, 0, 0, 0, 1, 0] 4 2) = (1 : BitVec 16)) ∧
    10 * coverNs running < 64 * 1000000 ∧ 64 * 1 ≤ 10 * coverNs running ∧
    { (packetOf tHELLO) with abt := true }.abt = true ∧
    probeWaits (wired running) = false ∧ (link up 0).state ≠ .active ∧ keeperRuns (wired running) = true := by
  and_intros <;> decide +kernel

/-! ### Hypotheses that are met: links and lanes -/

/-- The checksum of a flit that the sender framed holds. -/
theorem flit_sound (l : Link) (seq : BitVec 12) (ty : Nat)
    (h : ((flitOf seq ty).ftype == 0 || decide (ftINIT < (flitOf seq ty).ftype)) = false)
    (hc : (flitOf seq ty).cws.any (fun c => c.holds && c.bad l) = false) : flitError l (flitOf seq ty) = false := by
  have c : sliceNat (flitOf seq ty).bytes 252 4 = (crc32c ((flitOf seq ty).bytes.take 252)).toNat := by
    unfold flitOf flitBytes
    exact Laws.crc_matches _ 252 (by simp)
  have e : (leNat (slice (flitOf seq ty).bytes 252 4) != (crc32c ((flitOf seq ty).bytes.take 252)).toNat) = false :=
    bne_eq_false_iff_eq.mpr c
  unfold flitError
  rw [e, hc, Bool.false_or, Bool.false_or]
  exact h

/-- A flit of each type arrives without an error, and one with a codeword that cannot be corrected with one. -/
theorem test_flit_hyps :
    (link (withLink 0 running) 0).state = .active ∧ (link (withLink 0 running) 0).rxSleep = false ∧
    flitError running (flitOf 0 ftDATA) = false ∧ flitError running (flitOf 0 ftIDLE) = false ∧
    flitError running (flitOf 0 ftCTRL) = false ∧ flitError running (flitOf 0 ftREPLAY) = false ∧
    flitError running (flitOf 0 ftAUDIT) = false ∧ flitError running (flitOf 0 ftINIT) = false ∧
    flitError running { (flitOf 0 ftDATA) with cws := [⟨100, 0, true⟩] } = true := by
  refine ⟨rfl, rfl, flit_sound _ _ _ ?_ ?_, flit_sound _ _ _ ?_ ?_, flit_sound _ _ _ ?_ ?_, flit_sound _ _ _ ?_ ?_,
    flit_sound _ _ _ ?_ ?_, flit_sound _ _ _ ?_ ?_, ?_⟩
  iterate 12 (on_goal 1 => decide +kernel)
  have e : ([⟨100, 0, true⟩] : List Codeword).any (fun c => c.holds && c.bad running) = true := by decide +kernel
  unfold flitError
  rw [e, Bool.or_true, Bool.true_or, Bool.true_or]

theorem test_flit_fields :
    ((flitOf 0 ftDATA).seq = running.rxSeq ∧ (flitOf 1 ftDATA).seq ≠ running.rxSeq ∧ (flitOf 0 ftDATA).slp = false) ∧
    (flitOf 0 ftDATA).ftype = ftDATA ∧ (flitOf 0 ftIDLE).ftype = ftIDLE ∧ (flitOf 0 ftCTRL).ftype = ftCTRL ∧
    (flitOf 0 ftREPLAY).ftype = ftREPLAY ∧ (flitOf 0 ftAUDIT).ftype = ftAUDIT ∧ (flitOf 0 ftINIT).ftype = ftINIT ∧
    (takeAck 0 0xFFF (withLink 0 running)).1 = false ∧ (takeAck 0 5 (withLink 0 running)).1 = true ∧
    (sliceNat (flitOf 0 ftAUDIT).payload 0 4 = running.accepted.toNat ∧
      (running.accepted - running.relOut).toNat = running.landing.length ∧
      sliceNat (flitOf 0 ftAUDIT).payload 0 4 ≠ ({ running with accepted := 1 } : Link).accepted.toNat) ∧
    initMatches Link.initial (fit 248 [1, 3]) = true ∧ initMatches Link.initial (fit 248 [1, 2]) = false := by
  and_intros <;> decide +kernel

/-- The INIT flit of a partner in a retrain, which names flit 5: a flit not yet sent. -/
theorem test_retrain_init_hyps :
    let l : Link := { running with state := .retrain, rtStep := 4, fresh := false, partner := some (0, 0) }
    let f : RxFlit := ⟨flitBytes 0 5 ftINIT false false false (fit 248 [1, 3]), [⟨0, 0, true⟩]⟩
    let s := withLink 0 l
    let v := modLink 0 (fun l => { l with
      rxOk := true, initWord := some f.payload, initSeen := l.initSeen || (f.payload.getD 1 0).getLsbD 5 }) s
    (link s 0).state = .retrain ∧ 4 ≤ (link s 0).rtStep ∧ (link s 0).rxSleep = false ∧ f.ftype = ftINIT ∧
    initMatches (link s 0) f.payload = true ∧ startsFresh (link v 0) = false ∧ (takeAck 0 f.ack v).1 = true := by
  and_intros <;> decide +kernel

/-- A link in a state. -/
def linkIn (st : LinkState) : State := withLink 0 { Link.initial with state := st, frameLock := true, rtStep := 4 }

theorem test_link_hyps :
    ((link (linkIn .init) 0).state = .init ∧ (link (linkIn .retrain) 0).state = .retrain ∧
      4 ≤ (link (linkIn .retrain) 0).rtStep ∧ (link (linkIn .active) 0).frameLock = true) ∧
    dutyOf (storeReg (Reg.LNK_DUTY_CTL 0) 1 (withLink 0 running)) 0 ≠ 0 ∧ dutyOf (storeReg (Reg.LNK_DUTY_CTL 0) 0 on) 0 = 0 ∧
    running.txSleep = .awake ∧ { running with awaiting := true }.awaiting = true ∧
    (hasCredit { running with sent := 1024 } = false ∧ { running with txq := [packetOf tWR] }.txq ≠ []) ∧
    sleepEn (storeReg (Reg.LNK_SLEEP_CFG 0) (2 ^ 30) on) 0 = true ∧
    { running with hold := true }.hold = true ∧ { running with rxSleep := true }.rxSleep = true ∧
    tileUp { on with rst := { on.rst with tiles := 35 } } 35 = false := by
  and_intros <;> decide +kernel

/-- A replay that is being sent from flit 1 on, and what a REPLAY_REQ for it, or for another flit, meets. -/
theorem test_replay_hyps :
    (let r : Replay := ⟨1, 0, 5, false⟩
     let l : Link := { running with rpl := some r }
     replayRuns l 0 = true ∧ (0 < r.until_ ∧ r.first = (flitOf 0 ftREPLAY).ack + 1) ∧ replayRuns l 5 = false ∧ r.until_ ≤ 5) ∧
    (let r : Replay := ⟨2, 0, 5, false⟩
     1 < r.until_ ∧ r.first ≠ (flitOf 0 ftREPLAY).ack + 1 ∧ r.byTmo = false) ∧
    (let r : Replay := ⟨2, 0, 5, true⟩
     0 < r.until_ ∧ r.byTmo = true ∧ r.since = 0 ∧ r.since ≠ 1 ∧ 1 < r.until_) ∧
    (replayRuns running 0 = false ∧ running.rpl = none) := by
  and_intros <;> decide +kernel

/-- Flits with SLP, a link that stays in INIT, and one that is in no state to take flits. -/
theorem test_flit_state_hyps :
    (let f : RxFlit := ⟨flitBytes 0 0 ftIDLE false true false (zeros 248), [⟨0, 0, true⟩]⟩
     f.slp = true ∧ f.ftype = ftIDLE ∧ f.seq = running.rxSeq) ∧
    (link (tryActive 0 (modLink 0 (fun l => { l with initSeen := true }) (linkIn .init))) 0).state ≠ .active ∧
    tileUp { up with rst := { up.rst with tiles := 0 } } 0 = false ∧
    (link (withLink 0 { running with rxSleep := true }) 0).rxSleep = true ∧
    (link (withLink 0 { running with awaiting := true }) 0).awaiting = true := by
  and_intros <;> decide +kernel

/-- Link 0 of port 0 may sleep. -/
def sleepy (l : Link) (bits : Nat) : State := setReg (Reg.LNK_SLEEP_CFG 0) (BitVec.ofNat 64 (2 ^ 30 + bits)) (wired l)

/-- Port 0 has link 1 as well, which is awake. -/
def paired : State :=
  setReg (Reg.FAB_LPORT_LINKS 0) 3 (setLink 1 running (sleepy running 0))

theorem test_sleep_hyps :
    (maySleep paired 0 = true ∧ lastAwake paired 0 = false ∧ (link paired 0).state = .active) ∧
    (maySleep (sleepy running 0) 0 = true ∧ lastAwake (sleepy running 0) 0 = true ∧ running.drainTold = false ∧
      holding running = false ∧ portOfLink (sleepy running 0) 0 = some 0) ∧
    (let l : Link := { running with txSleep := .doze, rxSleep := true }
     maySleep (sleepy l 0) 0 = true ∧ bit (sleepy l 0) (Reg.LNK_SLEEP_CFG 0) 31 = false) ∧
    wakeCause (sleepy { running with txSleep := .drain, txq := [packetOf tWR] } 0) 0 = true := by
  and_intros <;> decide +kernel

/-- The last usable link of a port, and one that serves none; a link that awaits a replay as it wakes. -/
theorem test_last_usable_hyps :
    ((link (wired running) 0).state = .active ∧ lastUsable (wired running) 0 = some 0) ∧
    ((link (withLink 0 running) 0).state = .active ∧ lastUsable (withLink 0 running) 0 = none) ∧
    (link (linkIn .init) 0).state ≠ .active ∧
    (let l : Link := { running with txSleep := .drain, awaiting := true }
     l.txSleep ≠ .awake ∧ wakeCause (sleepy l 0) 0 = true ∧ l.awaiting = true) ∧
    (let l : Link := { running with hold := true, txq := [packetOf tWR] }
     l.txSleep = .awake ∧ holding l = true ∧ wakeCause (sleepy l 0) 0 = true) := by
  and_intros <;> decide +kernel

theorem test_link_control_hyps :
    (natField (lnkCtlNow on 0) 2 2 ≠ 3 ∧ natField (lnkCtlNow on 0) 8 2 ≠ 3) ∧
    linkMode (storeReg (Reg.LNK_CTL 0) (lnkCtlNow (withLink 0 running) 0 + 2 ^ 17) (withLink 0 running)) 0 =
      linkMode (withLink 0 running) 0 ∧
    linkMode (storeReg (Reg.LNK_CTL 0) (lnkCtlNow (wired running) 0 + 2 ^ 16) (wired running)) 0 = 1 ∧
    linkMode (wired running) 0 = 1 ∧
    (linkMode (storeReg (Reg.LNK_CTL 0) (lnkCtlNow on 0 + 2 ^ 16) on) 0 = linkMode on 0 ∧ linkMode on 0 ≠ 1) := by
  and_intros <;> decide +kernel

/-- Link 0 primes, at step `n`. -/
def priming (n : Nat) (re : Bool) : State :=
  withLink 0 { Link.initial with state := .priming, step := n, reprime := re }

theorem test_priming_hyps :
    (linkInTest (priming 7 false) 0 = false ∧ (link (priming 7 true) 0).reprime = true) ∧
    on.rst.refOk.getLsbD (35 / 4) = true ∧ (activeLanes (priming 3 false) 0).contains 7 = true ∧
    (natField ((blockOf 1 7 3).getD 1 0).toNat 0 3 = 7 % 8 ∧
      natField ((blockOf 1 7 3).getD 2 0).toNat 0 2 = (link (priming 3 false) 0).rate.toNat) ∧
    natField ((blockOf 1 0 3).getD 1 0).toNat 0 3 ≠ 7 % 8 ∧
    natField ((blockOf 1 7 0).getD 2 0).toNat 0 2 ≠ (link (priming 3 false) 0).rate.toNat ∧
    (let s := setReg (Reg.LANE_TEST 0) 1 (priming 2 false)
     linkInTest s 0 = true ∧ (link s 0).state = .priming) ∧
    (let s := setReg (Reg.LANE_TEST 0) 1 (priming 7 false)
     linkInTest s 0 = true ∧ (link s 0).state = .priming ∧ (link s 0).step = 7) ∧
    laneActive (priming 0 false) 0 = true := by
  and_intros <;> decide +kernel

/-- A block that the sender framed is one of its type. -/
theorem test_block_hyps (ty : Nat) (w1 w2 : Byte) (h : ((blockOf ty w1 w2).getD 0 0).toNat == ty) :
    blockIs ty (blockOf ty w1 w2) = true := by
  have c : sliceNat (blockOf ty w1 w2) 12 4 = (crc32c ((blockOf ty w1 w2).take 12)).toNat := by
    unfold blockOf
    exact Laws.crc_matches _ 12 (by simp)
  unfold blockIs
  rw [h, Bool.true_and]
  exact beq_iff_eq.mpr c

/-- A wake burst whose lanes all end with WAKE. -/
theorem test_wake_hyps (b : CtrlBlock) (h : blockIs 3 b = true) :
    wakeOk (withLink 0 { running with rxSleep := true }) 0 (List.replicate 8 b) = true := by
  unfold wakeOk
  rw [List.length_replicate, List.all_replicate, h]
  decide +kernel

theorem test_block_types :
    (∀ ty ∈ [1, 2, 3, 4, 5], ((blockOf ty 0 0).getD 0 0).toNat == ty) ∧
    (∀ n ∈ [0, 287], (activeLanes on (n / 8)).contains n = true ∧ tileUp on (n / 8) = true) ∧
    (let s := withLink 0 { running with rxSleep := true }
     (link s 0).rxSleep = true) := by
  and_intros <;> decide +kernel

/-- Lane 0 in a test with a loop, its link out of service. -/
def testing (loop : Nat) : State :=
  setReg (Reg.LANE_TEST 0) (BitVec.ofNat 64 (1 + loop * 2)) (raise (Reg.LANE_SQ_CTL 0) 0 (withLink 0 running))

theorem test_lane_test_hyps :
    (testAllowed (wired running) 0 = false ∧ bit (wired running) (Reg.LANE_TEST 0) 0 = false) ∧
    (testAllowed (withLink 0 running) 0 = true ∧ bit (withLink 0 running) (Reg.LANE_TEST 0) 0 = false ∧
      (1#32).getLsbD 0 = true ∧ natField (1#32).toNat 1 2 ≠ 3) ∧
    laneInTest (withLink 0 running) 0 = false ∧ laneInTest (testing 0) 0 = true ∧
    bit (testing 0) (Reg.LANE_SQ_CTL 0) 0 = true ∧
    bit (raise (Reg.LANE_PRBS_STATUS 0) 0 (testing 0)) (Reg.LANE_PRBS_STATUS 0) 0 = true ∧
    bit (raise (Reg.LANE_TEST 0) 4 (withLink 0 running)) (Reg.LANE_TEST 0) 4 = true ∧
    farAsked (modLane 0 (fun x => { x with sends := .training 4 }) (testing 3)) 0 = true ∧
    (laneActive (storeReg (Reg.LANE_TEST 0) 1 (withLink 0 running)) 0 = true ∧
      laneActive (storeReg (Reg.LANE_TEST 7) 1 (withLink 0 { running with width := 1 })) 7 = false) ∧
    (testAllowed (testing 1) 0 = true ∧ bit (testing 1) (Reg.LANE_TEST 0) 0 = true ∧
      natField (3#32).toNat 1 2 = fld (testing 1) (Reg.LANE_TEST 0) 1 2 ∧
      natField (1#32).toNat 1 2 ≠ fld (testing 1) (Reg.LANE_TEST 0) 1 2 ∧
      laneActive (storeReg (Reg.LANE_TEST 0) 3 (testing 1)) 0 = true) ∧
    (∀ loop ∈ [0, 1, 3], bit (testing loop) (Reg.LANE_TEST 0) 0 = true ∧
      natField (BitVec.ofNat 32 (2 * loop)).toNat 1 2 = fld (testing loop) (Reg.LANE_TEST 0) 1 2 ∧
      (BitVec.ofNat 32 (2 * loop)).getLsbD 0 = false ∧
      laneActive (storeReg (Reg.LANE_TEST 0) (2 * loop) (testing loop)) 0 = true) := by
  and_intros <;> decide +kernel

/-- Link 0 was captured at 0 and its tile now reads `t`, in steps of 0.25 °C. -/
def warm (t : Int) : State :=
  { setLane 0 { Lane.initial with capture := some 0 } (withLink 0 running) with
    rst := { on.rst with sensors := ⟨[t], [], []⟩ } }

theorem test_temperature_hyps :
    (activeLanes (warm 0) 0).findSome? (fun n => (lane (warm 0) n).capture) = some 0 ∧
    (activeLanes (withLink 0 running) 0).findSome? (fun n => (lane (withLink 0 running) n).capture) = none ∧
    ((link (warm 0) 0).state ≠ .down ∧ (link (warm 0) 0).state ≠ .failed) ∧
    isStale (setStale 0 true (warm 101)) 0 = true ∧
    (100 < (tileTemp (warm 101) 0 - 0).natAbs ∧ isStale (warm 101) 0 = false) ∧
    (tileTemp (warm (-80)) 0 - 0).natAbs ≤ 80 ∧
    (80 < (tileTemp (warm 81) 0 - 0).natAbs ∧ (tileTemp (warm 100) 0 - 0).natAbs ≤ 100) := by
  and_intros <;> decide +kernel

/-! ### Hypotheses that are met: security -/

/-- A command block with a code. -/
def cmd (code : Byte) : Blob := ⟨code :: zeros 191, false⟩

/-- A security command is under way. -/
def secBusy : State := raise Reg.SEC_CMD_STATUS 0 served

/-- Its block has been read. -/
def cmdRead : State := (wholeBack (fun w => w == .command) (withWhole .command false secBusy)).2

/-- Partition 0 in a state. -/
def partIn (st : PartState) (dr : Bool) : State :=
  { served with sec := { served.sec with parts := Tbl.empty.set 0 ⟨st, 5, zeros 48, [], [], dr⟩ } }

theorem test_partition_hyps :
    ((partOf on 0).state = .free ∧
      (let u := setFld Reg.SEC_PART_CTL 0 6 0 (setReg Reg.SEC_PART_KEY 5 on)
       keyFree u 0 (BitVec.ofNat 16 (fld u Reg.SEC_PART_KEY 0 16)) = true)) ∧
    (partOf served 0).state = .active ∧
    ((partOf (partIn .teardown false) 0).state = .teardown ∧ (partOf (partIn .teardown false) 0).drained = false ∧
      partDrained (partIn .teardown false) 0 = true) ∧
    (partOf (partIn .teardown true) 0).drained = true := by
  and_intros <;> decide +kernel

theorem test_command_hyps :
    (∀ drop ∈ [false, true],
      (wholeBack (fun w => w == .command) (withWhole .command drop secBusy)).1 = some (.command, drop)) ∧
    (∀ c ∈ [1#8, 2#8, 4#8], secCheck true true (cmd c) cmdRead = none) ∧ secCheck true false (cmd 5) cmdRead = none ∧
    (partOf cmdRead (cmdPart (cmd 5))).state = .active ∧ (partOf (raise Reg.SEC_CMD_STATUS 0 on) 0).state ≠ .active ∧
    (∀ c ∈ [3#8, 6#8], secCheck false false (cmd c) cmdRead = none) ∧
    (∀ c ∈ [7#8, 8#8], secCheck false true (cmd c) cmdRead = none) ∧ keeperRuns secBusy = true ∧
    secCheck true true { (cmd 1) with bad := true } cmdRead = some resMEMERR ∧
    (cmdPart (cmd 1) < 64 ∧ allZero (slice (cmd 1).data 5 3) = true ∧ allZero (slice (cmd 1).data 16 48) = true) ∧
    (let u := { cmdRead with sec := { cmdRead.sec with openBit := true } }
     u.sec.openBit = true ∧ (secCheck true true (cmd 2) u).isSome = true ∧ (chanOf u (cmdChan (cmd 2))).state ≠ .pending ∧
     (chanOf (setChan (cmdChan (cmd 2)) { Chan.initial with state := .pending } u) (cmdChan (cmd 2))).state =
       .pending) ∧
    (chanOf (setChan 255 { Chan.initial with state := .pending } on) 255).state = .pending := by
  and_intros <;> decide +kernel

/-- The block of command `c` has been read, and its argument is being read; the read is dropped or not. -/
def argRead (c : Byte) (drop : Bool) : State :=
  withWhole .argument drop { secBusy with sec := { secBusy.sec with cmdBlock := some (cmd c).data } }

theorem test_argument_hyps :
    secBusy.sec.cmdBlock = none ∧
    (∀ c ∈ [4#8, 8#8], ∀ drop ∈ [false, true],
      (argRead c drop).sec.cmdBlock = some (cmd c).data ∧ ((cmd c).data.getD 0 0).toNat = c.toNat ∧
      (wholeBack (fun w => w == .argument) (argRead c drop)).1 = some (.argument, drop)) ∧
    (let x (c : Byte) := modSec (fun x => { x with cmdBlock := none })
       (wholeBack (fun w => w == .argument) (argRead c false)).2
     secCheck true true ⟨(cmd 4).data, false⟩ (x 4) = none ∧ secCheck false true ⟨(cmd 8).data, false⟩ (x 8) = none ∧
     (secCheck true true ⟨(cmd 4).data, false⟩ { (x 4) with sec := { (x 4).sec with openBit := true } }).isSome = true) ∧
    keeperRuns (argRead 8 false) = true := by
  and_intros <;> decide +kernel

theorem test_scrub_hyps :
    masterEn on = true ∧ masterEn up = false ∧ bit up Reg.SEC_SCRUB_STATUS 0 = false ∧
    (let s := raise Reg.SEC_SCRUB_STATUS 0 served
     bit s Reg.SEC_SCRUB_STATUS 0 = true ∧ (∀ p ∈ livePart s, partDrained s p = true) ∧ markedDue s = true) := by
  and_intros <;> decide +kernel

/-- Fuses with DBG_LOCK blown, in force. -/
def locked : State := { up with shadow := some { Fuses.blank with dbgLock := true } }

theorem test_debug_hyps :
    (fuseView locked).dbgLock = true ∧ (fuseView up).dbgLock = false ∧
    (up.sec.granted = false ∧ up.sec.opening = false ∧ coreUp up = true ∧ coreUp (at_ .pll) = false ∧
      (fuseView (at_ .pll)).dbgLock = false) ∧
    { up with sec := { up.sec with granted := true } }.sec.granted = true ∧
    (let s := { up with sec := { up.sec with opening := true } }
     s.sec.opening = true ∧ bit s Reg.SEC_SCRUB_STATUS 0 = false) ∧
    (let s := { up with flash := { up.flash with bundle := sealBundle [1] } }
     keeperRuns s = true ∧ bundleOf s ≠ [] ∧ s.sec.openBit = false ∧ s.keeper.sessions < 4) ∧
    bundleOf { up with flash := { up.flash with bundle := [1, 0, 0, 0, 0] } } = [] ∧
    (Fuses.blank.opens ≠ 4 ∧ (4 : Nat).testBit 2 = true) ∧
    keeperRuns State.reset = false ∧ State.reset.rst.hardLow = false ∧
    { State.reset with rst := { State.reset.rst with hardLow := true } }.rst.hardLow = true := by
  and_intros <;> decide +kernel

/-! ### Hypotheses that are met: the keeper -/

/-- An event of class 1. -/
def event : Event := { (parseEvent []) with cls := 1, cause := 0x0104 }

/-- The keeper's policies are enabled, link 0 is wired, and tile 0 reads 200 °C. -/
def policies : State :=
  raise Reg.MGT_STEER_CTL 0 (raise Reg.MGT_THERM_CTL 0 (raise Reg.MGT_MARGIN_CTL 0 (raise Reg.MGT_CAL_CTL 0
    (raise (Reg.LANE_CAL_STATUS 0) 2 { (wired { running with starts := [0], staleAt := some 0 }) with
      now := 200000000, rst := { up.rst with sensors := ⟨[800], [], []⟩ } }))))

theorem test_keeper_hyps :
    ({ up with evq := [event] }.evq = [event] ∧
      slotFor { up with keeper := { up.keeper with coal := [⟨0x0104, 0, 0, event⟩] } } 0x0104 0 =
        some ⟨0x0104, 0, 0, event⟩) ∧
    (packetOf tMEVT).abt = false ∧ up.keeper.lostNote = false ∧ bit policies Reg.MGT_STEER_CTL 0 = true ∧
    (bit policies Reg.MGT_THERM_CTL 0 = true ∧ passesLimit policies 0 = true ∧ policies.keeper.throttle.find 0 = none) ∧
    recovered policies 0 = false ∧
    (let s := { policies with keeper := { up.keeper with throttle := Tbl.empty.set 0 0 } }
     s.keeper.throttle.find 0 = some 0 ∧ recovered (noteLimits 0 s) 0 = false ∧ passesLimit s 0 = true ∧
     recovered (noteLimits 0 { s with rst := up.rst }) 0 = true) ∧
    bit (setReg Reg.MGT_STEER_CTL 0 up) Reg.MGT_STEER_CTL 0 = false := by
  and_intros <;> decide +kernel

theorem test_retrain_policy_hyps :
    (bit policies Reg.MGT_MARGIN_CTL 0 = true ∧ (activeLanes policies 0).contains 0 = true ∧
      fld policies (Reg.LANE_MARGIN 0) 0 16 < marginFloor policies ∧ recentStarts policies 0 = []) ∧
    (bit policies Reg.MGT_CAL_CTL 0 = true ∧ isStale policies 0 = true) ∧
    ((link policies 0).state = .active ∧ lastUsable policies 0 = some 0 ∧
      lastUsable (setReg (Reg.FAB_LPORT_LINKS 0) 0 policies) 0 = none) ∧
    (let s := setReg Reg.MGT_MARGIN_CTL 1 policies
     captureDue s 0 = true ∧ storing s = false ∧ gapForbids s = false ∧ bit s Reg.MGT_CAL_CTL 0 = true) := by
  and_intros <;> decide +kernel

theorem test_steer_hyps :
    (let s := setReg Reg.MGT_STEER_CTL 0x100 on
     worstMargin s 0 < fld s Reg.MGT_STEER_CTL 8 7) ∧
    (let s := setReg Reg.MGT_STEER_CTL 0x10000 (withLink 0 { running with uncorrAt := [0, 0] })
     fld s Reg.MGT_STEER_CTL 16 16 < ((link s 0).uncorrAt.filter fun t => s.now < t + 100000).length) ∧
    (let s := setReg Reg.MGT_STEER_CTL 0x10000 { (withLink 0 { running with uncorrAt := [0, 0], noisyAt := some 0 }) with
       now := 10000000, keeper := { on.keeper with steered := [0] } }
     ((link s 0).uncorrAt.filter fun t => s.now < t + 100000) = [] ∧ 0 + 10000000 ≤ s.now ∧ 0 ∈ s.keeper.steered) ∧
    (let s := setReg Reg.MGT_STEER_CTL 0 on
     fld s Reg.MGT_STEER_CTL 8 7 ≤ worstMargin s 0 ∧ worstMargin s 0 < fld s Reg.MGT_STEER_CTL 8 7 + 3 ∧
     0 ∉ s.keeper.steered ∧ (link s 0).uncorrAt = []) ∧
    (let s := (List.range 8).foldl (fun s i => setReg (Reg.LANE_MARGIN i) 3 s) (setReg Reg.MGT_STEER_CTL 0 on)
     fld s Reg.MGT_STEER_CTL 8 7 + 3 ≤ worstMargin s 0) := by
  and_intros <;> decide +kernel

/-- Both banks erased, the keeper restarting. -/
def booting : State := { up with keeper := Keeper.initial }

/-- The firmware in bank A runs on trial, or not. -/
def trial (t : Bool) : State := { on with keeper := { on.keeper with trial := t } }

theorem test_boot_hyps :
    (booting.rst.keeperUp = true ∧ booting.keeper.running = false) ∧
    (trialBank booting = none ∧ newest booting (fun b => b.isConfirmed (rollback booting)) = none) ∧
    Bank.erased.bootsUsed < 3 ∧ (fwReady (trial true) = true ∧ keeperRuns (trial true) = true) ∧
    ((trial false).keeper.trial = false ∧ masterEn (trial false) = true ∧ masterEn up = false) ∧
    (let u := aimStage ⟨64, 4095⟩ on
     coreUp u = true ∧ fwReady u = true ∧ fwBusy u = false ∧ u.keeper.trial = false ∧ masterEn u = true ∧
     fld u Reg.MGT_FW_LEN 0 21 < 4096) ∧
    ((aimStage ⟨64, 4096⟩ (trial true)).keeper.trial = true ∧ masterEn (aimStage ⟨64, 4096⟩ up) = false ∧
     fwReady (aimStage ⟨64, 4096⟩ up) = true ∧ (aimStage ⟨64, 4096⟩ up).keeper.trial = false ∧ coreUp up = true) ∧
    (fld (aimStage ⟨64, 4096⟩ on) Reg.MGT_FW_LEN 0 21 = 4096) ∧
    fld (aimStage ⟨64, 4096 + 1572864⟩ on) Reg.MGT_FW_LEN 0 21 = 4096 + 1572864 ∧
    (bankOf on (spareBank on)).verified ≠ markVERIFIED ∧
    (let s := { on with mem := { on.mem with rjobs := Tbl.empty.set 7 ⟨.firmware, [⟨0, 64, none⟩], none⟩ } }
     fwReady s = true ∧ fwBusy s = true ∧ fwBusy on = false ∧ fwBusy (aimStage ⟨64, 4096⟩ s) = true) ∧
    (([⟨0, true⟩] : List PByte).any (·.p) = true ∧ ([⟨0, false⟩] : List PByte).any (·.p) = false) := by
  and_intros <;> decide +kernel

/-- Where the manifest of a bank is one the keeper accepts, a bank with its marks is on trial, or confirmed, and a staged
image ends as each clause says: the answers of the opaque checks are the only other hypotheses. -/
theorem test_bank_hyps (b : Bank) (h : b.sound = true) (hs : b.seqN = ~~~b.seq)
    (hv : b.verified = markVERIFIED) (hn : b.retired = 0xFFFFFFFF) :
    b.seqOk = true ∧ b.retired ≠ markRETIRED ∧
    (b.active = markACTIVE → b.confirmed = 0xFFFFFFFF → b.onTrial 0 = true) ∧
    (b.confirmed = markCONFIRMED → b.isConfirmed 0 = true) := by
  have hg : b.good 0 = true := by simp [Bank.good, Bank.seqOk, hs, hv, hn, h]
  refine ⟨by simp [Bank.seqOk, hs], by rw [hn]; decide, ?_, ?_⟩
  · intro ha hc; simp [Bank.onTrial, hg, ha, hc]
  · intro hc; simp [Bank.isConfirmed, hg, hc]

/-- The head of an image of a user calibration for a chip whose serial number is 0. -/
def calHead : List Byte := leBytes 4 0x4B43414C ++ leBytes 2 1 ++ [0xB0]

/-- A calibration was stored at time 0, with a gap of 1 s asked for. -/
def stored : State := setFld Reg.MGT_CAL_CTL 15 17 1 { on with keeper := { on.keeper with lastStore := some 0 } }

theorem test_calibration_hyps :
    (calReady (aimImport 64 on) = true ∧ masterEn (aimImport 64 on) = true ∧ gapForbids (aimImport 64 on) = false ∧
     calReady (aimImport 64 stored) = true ∧ gapForbids (aimImport 64 stored) = true ∧
     coreUp up = true ∧ calReady (aimImport 64 up) = true ∧ masterEn (aimImport 64 up) = false) ∧
    calReady on = true ∧ gapForbids stored = true ∧ gapForbids on = false ∧ masterEn up = false ∧
    calBodyOk on (fit 4736 []) = false ∧ presentedCal on = none ∧
    presentedCal { on with keeper := { on.keeper with presented := some true } } = some [] ∧
    { on with keeper := { on.keeper with store := some ⟨true, [], false⟩ } }.keeper.store = some ⟨true, [], false⟩ ∧
    storing { on with keeper := { on.keeper with store := some ⟨true, [], false⟩ } } = true ∧ storing on = false := by
  and_intros <;> decide +kernel

/-- The keeper restarts from its own REVERT: it takes no command, and a CONFIRM that comes now is answered later. -/
theorem test_late_confirm_hyps :
    let s := { booting with keeper := { booting.keeper with reverted := true } }
    coreUp s = true ∧ fwReady s = false ∧ s.keeper.reverted = true := by decide

/-- An image whose deltas are all zero passes the check of R406. -/
theorem test_calibration_image (n : Nat) (h : calHead.length + n = 4736) :
    calBodyOk on (fit 4736 (calHead ++ zeros n)) = true := by
  have f : fit 4736 (calHead ++ zeros n) = calHead ++ zeros n := by
    have l : (calHead ++ zeros n).length = 4736 := by rw [List.length_append, Laws.length_zeros]; exact h
    unfold fit
    rw [List.take_of_length_le (Nat.le_of_eq l), l]
    exact List.append_nil _
  have z : ∀ j, 7 ≤ j → (calHead ++ zeros n).getD j 0 = 0 := by
    intro j hj
    rw [List.getD_eq_getElem?_getD, List.getElem?_append_right (by simpa [calHead] using hj), zeros,
      List.getElem?_replicate]
    split <;> rfl
  have d : deltasOk (calHead ++ zeros n) = true := by
    simp only [deltasOk, List.all_eq_true, List.mem_range, decide_eq_true_eq]
    intro m _ i hi
    have u : (userDeltas (calHead ++ zeros n) m).getD i 0 = 0 := by
      simp only [userDeltas, List.getD_eq_getElem?_getD, List.getElem?_map, List.getElem?_range hi, Option.map_some,
        Option.getD_some]
      have := z (128 + 16 * m + i) (by omega)
      rw [List.getD_eq_getElem?_getD] at this
      rw [this]; rfl
    rw [u]; exact Nat.zero_le _
  rw [f]
  unfold calBodyOk
  rw [d, Bool.and_true]
  have e : n = 4729 := by
    have : calHead.length = 7 := by decide
    omega
  subst e
  decide +kernel

end Sys2Proof.Tests
end

/-! ### PERMUTE (R177) -/

namespace Sys2Proof.Proofs

open Sys2Proof Sys2Proof.Machine

/-! #### A list made of pieces of one length -/

section UniformPieces

variable {α : Type*} {f : Nat → List α} {k m : Nat}

theorem map_length_range_of_uniform (hf : ∀ j < m, (f j).length = k) :
    ((List.range m).map f).map List.length = List.replicate m k := by
  rw [List.map_map, List.eq_replicate_iff]
  exact ⟨by simp, by simpa using hf⟩

theorem length_flatMap_range_of_uniform (hf : ∀ j < m, (f j).length = k) :
    ((List.range m).flatMap f).length = k * m := by
  rw [List.flatMap_def, List.length_flatten, map_length_range_of_uniform hf, List.sum_replicate, smul_eq_mul,
    Nat.mul_comm]

/-- The slice of `k` elements at `k * j` is the whole of piece `j`. -/
theorem take_drop_flatMap_range_of_uniform (hf : ∀ j < m, (f j).length = k) {j : Nat} (hj : j < m) :
    (((List.range m).flatMap f).drop (k * j)).take k = f j := by
  have slice := List.drop_take_succ_flatten_eq_getElem ((List.range m).map f) j (by simpa using hj)
  have piecesBefore (i : Nat) (hi : i ≤ m) : ((List.replicate m k).take i).sum = k * i := by
    rw [List.take_replicate, List.sum_replicate, Nat.min_eq_left hi, smul_eq_mul, Nat.mul_comm]
  rw [map_length_range_of_uniform hf, piecesBefore (j + 1) hj, piecesBefore j hj.le, List.drop_take,
    ← Nat.mul_sub, Nat.add_sub_cancel_left, Nat.mul_one, ← List.flatMap_def] at slice
  simpa using slice

end UniformPieces

/-! #### The units of a window -/

/-- Unit `j` that PERMUTE emits for the window `w`. -/
def permutedUnit (map : List Nat) (w : List PByte) (j : Nat) : List PByte :=
  if map.getD j 0 < w.length / 8 then ((w.drop (8 * map.getD j 0)).take 8).map fun b => ⟨b.b, w.any (·.p)⟩
  else List.replicate 8 ⟨0, w.any (·.p)⟩

theorem permuteWindow_eq_flatMap_permutedUnit (map : List Nat) (w : List PByte) :
    permuteWindow map w = (List.range (w.length / 8)).flatMap (permutedUnit map w) := rfl

theorem length_permutedUnit (map : List Nat) (w : List PByte) (j : Nat) : (permutedUnit map w j).length = 8 := by
  unfold permutedUnit
  split
  case isTrue inside =>
    rw [List.length_map, List.length_take, List.length_drop]
    omega
  case isFalse => exact List.length_replicate

/-- The bytes of an emitted unit, without the poison that R193 spreads over the window. -/
theorem map_b_permutedUnit (map : List Nat) (w : List PByte) (j : Nat) :
    (permutedUnit map w j).map (·.b) =
      if map.getD j 0 < w.length / 8 then ((w.drop (8 * map.getD j 0)).take 8).map (·.b) else List.replicate 8 0 := by
  unfold permutedUnit
  split
  case isTrue => rw [List.map_map]; rfl
  case isFalse => rw [List.map_replicate]

theorem length_permuteWindow (map : List Nat) (w : List PByte) :
    (permuteWindow map w).length = 8 * (w.length / 8) :=
  length_flatMap_range_of_uniform fun j _ => length_permutedUnit map w j

theorem take_drop_permuteWindow (map : List Nat) (w : List PByte) {j : Nat} (hj : j < w.length / 8) :
    ((permuteWindow map w).drop (8 * j)).take 8 = permutedUnit map w j :=
  take_drop_flatMap_range_of_uniform (fun j _ => length_permutedUnit map w j) hj

/-- Settles O27: the emitted window is the concatenation of its units, each of 8 B, so its slice at `8 * j` is unit `j`;
the model's PERMUTE counts the units by `w.length / 8`, which the window's length makes `m`. -/
theorem permuteMovesUnits : Obligations.PermuteMovesUnits := by
  intro map w m hlen _
  have units : w.length / 8 = m := by omega
  refine ⟨?_, fun j hj => ?_⟩
  · rw [length_permuteWindow, units]
  · rw [take_drop_permuteWindow map w (by omega), map_b_permutedUnit, units]

end Sys2Proof.Proofs

/-! ### The reserved key (R243, R322) -/

namespace Sys2Proof.Proofs

open Sys2Proof Sys2Proof.Machine Sys2Proof.Laws

/-! #### What a set table holds -/

theorem mem_insertIn {α : Type} {l : List (Nat × α)} {k : Nat} {v : α} {e : Nat × α} (h : e ∈ insertIn l k v) :
    e = (k, v) ∨ e ∈ l := by
  induction l with
  | nil => exact .inl (List.mem_singleton.mp h)
  | cons head tail ih =>
    obtain ⟨j, w⟩ := head
    simp only [insertIn] at h
    split_ifs at h
    case pos => exact List.mem_cons.mp h
    case pos => exact (List.mem_cons.mp h).imp_right (List.mem_cons_of_mem _)
    case neg =>
      rcases List.mem_cons.mp h with here | later
      · exact .inr (here ▸ List.mem_cons_self)
      · exact (ih later).imp_right (List.mem_cons_of_mem _)

theorem mem_entries_set {α : Type} {t : Tbl α} {k : Nat} {v : α} {e : Nat × α} (h : e ∈ (t.set k v).entries) :
    e = (k, v) ∨ e ∈ t.entries :=
  mem_insertIn h

/-! #### Partitions and the reserved key -/

theorem keyFree_ne_zero {s : State} {p : Nat} {k : PKey} (h : keyFree s p k = true) : k ≠ 0 := by
  simp only [keyFree, Bool.and_eq_true, bne_iff_ne] at h
  obtain ⟨⟨nonzero, -⟩, -⟩ := h
  exact nonzero

/-- R322: ENABLE makes a FREE partition ACTIVE under the key asked for, where that key is free, and is otherwise an
overrun. -/
theorem partEnable_cases (p : Nat) (s : State) :
    (∃ k, k = BitVec.ofNat 16 (fld s Reg.SEC_PART_KEY 0 16) ∧ (partOf s p).state = .free ∧ keyFree s p k = true ∧
      partEnable p s = modPart p (fun _ => ⟨.active, k, ownerDigest s, [], [], false⟩) s) ∨
    partEnable p s = partOverrun s := by
  unfold partEnable
  dsimp only
  split
  case isTrue admitted =>
    simp only [Bool.and_eq_true, decide_eq_true_eq] at admitted
    obtain ⟨free, fresh⟩ := admitted
    exact .inl ⟨_, rfl, free, fresh, rfl⟩
  case isFalse => exact .inr rfl

theorem partOverrun_sec (s : State) : (partOverrun s).sec = s.sec := rfl

theorem keysNonzero_modPart {s : State} {p : Nat} {f : Part → Part} (hs : KeysNonzero s)
    (hf : (f (partOf s p)).key ≠ 0) : KeysNonzero (modPart p f s) := by
  intro e he hfree
  rcases mem_entries_set he with rfl | old
  · exact hf
  · exact hs e old hfree

theorem keysNonzero_partEnable {s : State} (p : Nat) (hs : KeysNonzero s) : KeysNonzero (partEnable p s) := by
  rcases partEnable_cases p s with ⟨k, -, -, fresh, enabled⟩ | overrun
  · rw [enabled]
    exact keysNonzero_modPart hs (keyFree_ne_zero fresh)
  · rw [overrun, KeysNonzero, partOverrun_sec]
    exact hs

theorem partOfKey_zero {s : State} (hs : KeysNonzero s) : partOfKey s 0 = none := by
  have noHolder : (s.sec.parts.filterV fun p => p.state == .active && p.key == 0) = [] := by
    refine List.filter_eq_nil_iff.mpr fun e he holds => ?_
    simp only [Bool.and_eq_true, beq_iff_eq] at holds
    obtain ⟨active, zero⟩ := holds
    exact hs e he (by rw [active]; decide) zero
  rw [partOfKey, noHolder]
  rfl

/-! #### The admission lists -/

theorem portAdmits_zero (s : State) (port : Nat) (ty : BitVec 6) : portAdmits s port ty 0 = isRelay ty := if_pos rfl

theorem pkeyListWrite_zero {v : Nat} {s : State} (valid : v.testBit 31 = true) (zero : v % 65536 = 0) :
    pkeyListWrite v s = raise Reg.FAB_STATUS 0 s :=
  if_pos (by rw [valid, decide_eq_true zero]; rfl)

theorem exec_pkeyListWrite {s : State} (v : Word) (hs : coreUp s = true) :
    exec (.pkeyListWrite v) s = .next (pkeyListWrite v.toNat s) := by
  change Host.Outcome.next (onlyIf (coreUp s) (pkeyListWrite v.toNat) s) = _
  rw [hs, onlyIf_true]

/-- Settles O28: a logical port looks at the type alone under key 0; ENABLE takes only a key that is free, and 0 never
is, so no ACTIVE partition answers to it; the refused write is `pkeyListWrite`'s first branch. -/
theorem keyZeroIsReserved : Obligations.KeyZeroIsReserved := by
  refine ⟨portAdmits_zero, fun p s hs => ⟨partOfKey_zero hs, keysNonzero_partEnable p hs⟩, ?_⟩
  intro s v hs valid zero
  rw [exec_pkeyListWrite v hs, pkeyListWrite_zero valid zero]

end Sys2Proof.Proofs

/-! ### The watchdog (R384, R385) -/

namespace Sys2Proof.Proofs

open Sys2Proof Sys2Proof.Machine Sys2Proof.Laws

/-! #### Registers and their flags -/

theorem reg_eq_of_regs_eq {s t : State} (h : t.regs = s.regs) (a : Nat) : reg t a = reg s a := by
  rw [reg, reg, h]

theorem reg_modRst (f : ResetUnit → ResetUnit) (s : State) (a : Nat) : reg (modRst f s) a = reg s a := rfl

/-- R353: a cleared register reads its reset value, any other keeps what it held. -/
theorem reg_clearRegs (p : Nat → Bool) (s : State) (a : Nat) :
    reg (clearRegs p s) a = if p a then resetValue a else reg s a := by
  change (((s.regs.keep fun b => !p b).find a).getD (resetValue a)) = _
  rw [find_keep]
  cases p a <;> rfl

theorem getLsbD_ofNat_mul_two_pow (n : Nat) {i : Nat} (hi : i < 64) :
    (BitVec.ofNat 64 (n * 2 ^ i)).getLsbD i = n.testBit 0 := by
  rw [BitVec.getLsbD_ofNat, decide_eq_true hi, Bool.true_and, Nat.testBit_mul_two_pow, Nat.sub_self,
    decide_eq_true le_rfl, Bool.true_and]

theorem getLsbD_withField_bit (v : BitVec 64) {i : Nat} (hi : i < 64) (x : Nat) :
    (withField v i 1 x).getLsbD i = (x % 2 ^ 1).testBit 0 := by
  simp only [withField, BitVec.getLsbD_or, BitVec.getLsbD_and, BitVec.getLsbD_not, getLsbD_ofNat_mul_two_pow _ hi]
  rw [show Nat.testBit (2 ^ 1 - 1) 0 = true from rfl, Bool.not_true, Bool.and_false, Bool.and_false, Bool.false_or]

theorem bit_raise_same (a : Nat) {i : Nat} (hi : i < 64) (s : State) : bit (raise a i s) a i = true := by
  rw [bit, raise, setFld, reg_setReg_same, getLsbD_withField_bit _ hi]
  rfl

theorem bit_lower_same (a : Nat) {i : Nat} (hi : i < 64) (s : State) : bit (lower a i s) a i = false := by
  rw [bit, lower, setFld, reg_setReg_same, getLsbD_withField_bit _ hi]
  rfl

theorem lower_rst (a i : Nat) (s : State) : (lower a i s).rst = s.rst := rfl

/-! #### A restart of the keeper -/

/-- The entries that a restart loses are counted before the keeper is reset: the first part of `resetKeeper`. -/
def countLost (s : State) : State :=
  if s.keeper.toCopy.length = 0 then s else bumpBy Reg.MGT_EVT_LOST s.keeper.toCopy.length s

theorem countLost_rst (s : State) : (countLost s).rst = s.rst := by
  unfold countLost
  split <;> rfl

theorem countLost_links (s : State) : (countLost s).links = s.links := by
  unfold countLost
  split <;> rfl

theorem reg_countLost (s : State) {a : Nat} (ha : a ≠ Reg.MGT_EVT_LOST) : reg (countLost s) a = reg s a := by
  unfold countLost
  split
  case isTrue => rfl
  case isFalse => exact reg_setReg_ne _ _ _ _ ha

theorem resetKeeper_regs (s : State) : (resetKeeper s).regs = (countLost s).regs := rfl
theorem resetKeeper_rst (s : State) : (resetKeeper s).rst = (countLost s).rst := rfl
theorem resetKeeper_links (s : State) : (resetKeeper s).links = (countLost s).links := rfl

theorem restartKeeper_running (reason : Nat) (s : State) : (restartKeeper reason s).keeper.running = false := rfl

theorem restartKeeper_rst (reason : Nat) (s : State) : (restartKeeper reason s).rst = s.rst := by
  rw [restartKeeper, resetKeeper_rst, countLost_rst]
  rfl

theorem restartKeeper_links (reason : Nat) (s : State) : (restartKeeper reason s).links = s.links := by
  rw [restartKeeper, resetKeeper_links, countLost_links]
  rfl

theorem reg_restartKeeper (reason : Nat) (s : State) {a : Nat} (ha : a ≠ Reg.MGT_EVT_LOST) :
    reg (restartKeeper reason s) a = reg s a := by
  rw [restartKeeper, reg_eq_of_regs_eq (resetKeeper_regs _), reg_countLost _ ha]
  rfl

/-! #### An expiry of the watchdog -/

/-- The times of the expiries within 10 minutes, with the one that comes now (R385). -/
def expiriesWithNow (s : State) : List Nat :=
  (s.rst.wdExpiries.filter fun t => s.now < t + 60000000000) ++ [s.now]

/-- The keeper restarts for its watchdog, and the expiry is counted (R384, R385). -/
def watchdogRestart (s : State) : State :=
  restartKeeper 2 { s with rst := { s.rst with wdExpiries := expiriesWithNow s } }

/-- The restarted keeper is held in reset, with KEEPER_HALT set (R385). -/
def watchdogHalt (s : State) : State :=
  raise Reg.RST_STATUS 5 (modRst (fun x => { x with keeperUp := false }) (watchdogRestart s))

theorem exec_watchdogExpiry {s : State} (hs : fwReady s = true) :
    exec .watchdogExpiry s =
      .next (if 4 ≤ (expiriesWithNow s).length then watchdogHalt s else watchdogRestart s) := by
  change Host.Outcome.next (onlyIf (fwReady s) _ s) = _
  rw [hs, onlyIf_true]
  rfl

theorem length_expiriesWithNow (s : State) :
    (expiriesWithNow s).length = (s.rst.wdExpiries.filter fun t => s.now < t + 60000000000).length + 1 := by
  rw [expiriesWithNow, List.length_append, List.length_singleton]

theorem watchdogRestart_rst (s : State) :
    (watchdogRestart s).rst = { s.rst with wdExpiries := expiriesWithNow s } :=
  restartKeeper_rst _ _

theorem reg_watchdogRestart_status (s : State) : reg (watchdogRestart s) Reg.RST_STATUS = reg s Reg.RST_STATUS :=
  (reg_restartKeeper _ _ (by decide)).trans (reg_eq_of_regs_eq rfl _)

theorem watchdogRestart_running (s : State) : (watchdogRestart s).keeper.running = false :=
  restartKeeper_running _ _

theorem watchdogRestart_links (s : State) : (watchdogRestart s).links = s.links :=
  restartKeeper_links _ _

theorem watchdogHalt_keeperUp (s : State) : (watchdogHalt s).rst.keeperUp = false := rfl

theorem watchdogHalt_running (s : State) : (watchdogHalt s).keeper.running = false :=
  watchdogRestart_running s

theorem keeperHalt_watchdogHalt (s : State) : bit (watchdogHalt s) Reg.RST_STATUS 5 = true :=
  bit_raise_same _ (by decide) _

/-! #### What ends a halt -/

theorem exec_keeperRestart_halted {s : State} (hs : bit s Reg.RST_STATUS 5 = true) :
    exec .keeperRestart s = .next (lower Reg.RST_STATUS 5
      (restartKeeper 4 { s with rst := { s.rst with keeperUp := true, wdExpiries := [] } })) := by
  change Host.Outcome.next (keeperRestart s) = _
  rw [keeperRestart, if_pos (by rw [hs, Bool.or_true])]

/-- R351: a pulse of 80 ns or more is honoured. -/
theorem pulse_long {w : Nat} (hw : 80 ≤ w) (s : State) : pulse w s = (true, s) := by
  rw [pulse, if_neg (by omega), if_neg (by omega)]

theorem exec_powerOn_long {w : Nat} (hw : 80 ≤ w) (s : State) :
    exec (.powerOn w) s =
      .next (takeReset .power causePOR (modRst (fun x => { x with porLow := true, trip := false }) s)) := by
  change Host.Outcome.next (if (pulse w s).1 then _ else _) = _
  rw [pulse_long hw, if_pos rfl]

theorem exec_hardReset_long {w : Nat} (hw : 80 ≤ w) {s : State} (hs : s.rst.porLow = false) :
    exec (.hardReset w) s =
      .next (takeReset .hard causeHARD
        (modRst (fun x => { x with hardLow := true, trip := x.trip && !allCool s }) s)) := by
  change Host.Outcome.next (if !(pulse w s).1 then _ else _) = _
  rw [pulse_long hw, if_neg (by simp), if_neg (by rw [rst_modRst, hs]; decide)]

theorem wdExpiries_takeReset {sc : Scope} (hsc : sc ≠ .soft) (cause : Nat) (s : State) :
    (takeReset sc cause s).rst.wdExpiries = [] := by
  cases sc with
  | power => rfl
  | hard => rfl
  | soft => exact absurd rfl hsc

/-- What a hard reset or a power-on has cleared, with its code in RST_CAUSE (R353). -/
def clearedByReset (cause : Nat) (s : State) : State :=
  setReg Reg.RST_CAUSE (BitVec.ofNat 64 cause)
    (clearRegs (fun a => 0x1000 ≤ a && a < 0x2000 && a != Reg.RST_CAUSE)
      (resetKeeperIsland (resetLinks false (resetCore s))))

/-- Every register of the reset manager but RST_CAUSE takes its reset value. -/
theorem reg_clearedByReset (cause : Nat) (s : State) {a : Nat} (lo : 0x1000 ≤ a) (hi : a < 0x2000)
    (ha : a ≠ Reg.RST_CAUSE) : reg (clearedByReset cause s) a = resetValue a := by
  rw [clearedByReset, reg_setReg_ne _ _ _ _ ha, reg_clearRegs, if_pos (by simp [lo, hi, ha])]

/-- What a power-on loses besides: the fuse shadow, the time, the clock and sensor history, debug access (R353). -/
def losePower (s : State) : State :=
  { s with shadow := none, now := 0, rst := { s.rst with pllInput := some 0, hot := [], tripDue := false },
           sec := { s.sec with openBit := false, opening := false, granted := false } }

theorem reg_losePower (s : State) (a : Nat) : reg (losePower s) a = reg s a := rfl

theorem takeReset_power (cause : Nat) (s : State) :
    takeReset .power cause s =
      modRst (fun r => { r with step := .held, soft := false })
        (losePower (setReg Reg.FAB_INCARN 0 (clearedByReset cause s))) := rfl

/-- R352: a hard reset advances the incarnation by one, modulo 2^16. -/
def nextIncarn (s : State) : BitVec 64 := BitVec.ofNat 64 ((fld s Reg.FAB_INCARN 0 16 + 1) % 2 ^ 16)

theorem takeReset_hard (cause : Nat) (s : State) :
    takeReset .hard cause s =
      modRst (fun r => { r with step := .held, soft := false })
        (setReg Reg.FAB_INCARN (nextIncarn (clearedByReset cause s)) (clearedByReset cause s)) := rfl

/-- R353: every register of the reset manager but RST_CAUSE takes its reset value, except at a soft reset. -/
theorem reg_takeReset {sc : Scope} (hsc : sc ≠ .soft) (cause : Nat) (s : State) {a : Nat} (lo : 0x1000 ≤ a)
    (hi : a < 0x2000) (ha : a ≠ Reg.RST_CAUSE) : reg (takeReset sc cause s) a = resetValue a := by
  have notIncarn : a ≠ Reg.FAB_INCARN := Nat.ne_of_lt (Nat.lt_trans hi (by decide))
  cases sc with
  | power =>
    rw [takeReset_power, reg_modRst, reg_losePower, reg_setReg_ne _ _ _ _ notIncarn, reg_clearedByReset _ _ lo hi ha]
  | hard =>
    rw [takeReset_hard, reg_modRst, reg_setReg_ne _ _ _ _ notIncarn, reg_clearedByReset _ _ lo hi ha]
  | soft => exact absurd rfl hsc

theorem keeperHalt_takeReset {sc : Scope} (hsc : sc ≠ .soft) (cause : Nat) (s : State) :
    bit (takeReset sc cause s) Reg.RST_STATUS 5 = false := by
  rw [bit, reg_takeReset hsc cause s (by decide) (by decide) (by decide)]
  decide

/-- Settles O33: an expiry restarts the keeper with the expiry counted, and holds it in reset where the count has come
to 4; a keeper restart, a hard reset and a power-on each empty the list of expiries and clear KEEPER_HALT. -/
theorem watchdogHalts : Obligations.WatchdogHalts := by
  refine ⟨?fourth, ?earlier, ?restart, ?hard, ?power⟩
  case fourth =>
    intro s up runs three
    have ready : fwReady s = true := by rw [fwReady, up, runs]; rfl
    have fourth : 4 ≤ (expiriesWithNow s).length := by rw [length_expiriesWithNow]; omega
    exact ⟨watchdogHalt s, by rw [exec_watchdogExpiry ready, if_pos fourth], watchdogHalt_keeperUp s,
      keeperHalt_watchdogHalt s, watchdogHalt_running s⟩
  case earlier =>
    intro s up runs fewer
    have ready : fwReady s = true := by rw [fwReady, up, runs]; rfl
    have earlier : ¬ 4 ≤ (expiriesWithNow s).length := by rw [length_expiriesWithNow]; omega
    refine ⟨watchdogRestart s, by rw [exec_watchdogExpiry ready, if_neg earlier], ?_, watchdogRestart_running s, ?_,
      reg_watchdogRestart_status s, watchdogRestart_links s⟩
    · rw [watchdogRestart_rst, up]
    · rw [watchdogRestart_rst, expiriesWithNow]
  case restart =>
    intro s halted
    refine ⟨_, exec_keeperRestart_halted halted, ?_, ?_, bit_lower_same _ (by decide) _,
      restartKeeper_running _ _⟩ <;>
      rw [lower_rst, restartKeeper_rst]
  case hard =>
    intro s w long released
    exact ⟨_, exec_hardReset_long long released, wdExpiries_takeReset (by decide) _ _,
      keeperHalt_takeReset (by decide) _ _⟩
  case power =>
    intro s w long
    exact ⟨_, exec_powerOn_long long s, wdExpiries_takeReset (by decide) _ _, keeperHalt_takeReset (by decide) _ _⟩

end Sys2Proof.Proofs

/-! ### The release and debug access (R345, R346, R353, R354, R375) -/

namespace Sys2Proof.Proofs

open Sys2Proof Sys2Proof.Machine Sys2Proof.Laws

/-! #### Commands that leave the base of the state alone -/

/-- Every register of a family is of one word or of two. -/
def ShortRows (rows : List RegDesc) : Prop := rows.all (fun d => d.words ≤ 2) = true

theorem shortRows_familyOf (addr : Nat) : ShortRows (familyOf addr) := by
  unfold familyOf
  repeat' refine iteInduction (motive := ShortRows) (fun _ => ?_) (fun _ => ?_)
  all_goals exact rfl

theorem words_le_two {addr : Nat} {d : RegDesc} (hd : d ∈ familyOf addr) : d.words ≤ 2 :=
  of_decide_eq_true (List.all_eq_true.mp (shortRows_familyOf addr) d hd)

theorem place_word_lt {d : RegDesc} {a i j w : Nat} (h : d.place a = some (i, j, w)) : w < d.words := by
  unfold RegDesc.place at h
  grind

/-- A register's base address lies at most one word below the address that found it. -/
theorem findReg_base {addr : Nat} {d : RegDesc} {a w : Nat} (h : findReg addr = some (d, a, w)) : addr ≤ a + 4 := by
  obtain ⟨d', hd, hx⟩ := List.exists_of_findSome?_eq_some h
  obtain ⟨⟨i, j, w'⟩, hp, hr⟩ := Option.map_eq_some_iff.mp hx
  have := words_le_two hd
  have := place_word_lt hp
  cases hr
  dsimp only at *
  omega

/-- A write of the configuration port above the `RST_` registers. -/
theorem base_configWrite_above (addr : Nat) (v : Word) (s : State) (ha : 0x2000 ≤ addr) :
    base (configWrite addr v s) = base s := by
  refine base_configWrite addr v s fun d a w found => ?_
  have := findReg_base found
  have : Reg.RST_CTL < 0x1FFC := by decide
  omega

theorem base_execQSetupWrite {q off v} {s t : State} (h : execQSetupWrite q off v s = .next t) : base t = base s := by
  cases h
  exact base_configWrite_above _ _ _ (by omega)

theorem base_execXltDirBaseWrite {part v} {s t : State} (h : execXltDirBaseWrite part v s = .next t) :
    base t = base s := by
  cases h
  exact base_configWrite_above _ _ _ (by rw [Reg.XLT_DIR_BASE]; omega)

theorem base_execLportWrite {links p v} {s t : State} (h : execLportWrite links p v s = .next t) :
    base t = base s := by
  cases h
  refine base_configWrite_above _ _ _ ?_
  cases links
  · change 0x2000 ≤ Reg.FAB_LPORT_CTL p.val
    rw [Reg.FAB_LPORT_CTL]; omega
  · change 0x2000 ≤ Reg.FAB_LPORT_LINKS p.val
    rw [Reg.FAB_LPORT_LINKS]; omega

theorem base_execMgtPolicyWrite {off v} {s t : State} (h : execMgtPolicyWrite off v s = .next t) : base t = base s := by
  cases h
  exact base_configWrite_above _ _ _ (by omega)

/-- The commands that touch no island leave the base of the state alone, each by its own lemma. -/
theorem base_exec {c : Instr} {s t : State} (hc : touchesIslands c = false) (h : exec c s = .next t) :
    base t = base s := by
  cases c with
  | powerOn | hardReset | resetRelease | fuseShadowValid | corePllLocked | releaseGapExpiry | thermalTrip
  | softReset | configWrite | cfgImageReadDone | debugAccessRequest | debugAccessGranted | fuseProgram => cases hc
  | resetBurstTimeout => exact base_execResetBurstTimeout h
  | keeperRestart => exact base_execKeeperRestart h
  | refInputLoss => exact base_execRefInputLoss h
  | refInputReturn => exact base_execRefInputReturn h
  | coreMhzWrite => exact base_execCoreMhzWrite h
  | coreClockStep => exact base_execCoreClockStep h
  | vcoreSample => exact base_execVcoreSample h
  | sensorSample => exact base_execSensorSample h
  | keeperThrottle => exact base_execKeeperThrottle h
  | throttleDutyStep => exact base_execThrottleDutyStep h
  | eccError => exact base_execEccError h
  | reg64UpperWrite => exact base_execReg64UpperWrite h
  | reg64LowerRead => exact base_execReg64LowerRead h
  | unimplementedRead => exact base_execUnimplementedRead h
  | masterEnClear => exact base_execMasterEnClear h
  | masterEnSet => exact base_execMasterEnSet h
  | cfgLoad => exact base_execCfgLoad h
  | cfgDirect => exact base_execCfgDirect h
  | cfgImageReadTimeout => exact base_execCfgImageReadTimeout h
  | winReset => exact base_execWinReset h
  | qEnable => exact base_execQEnable h
  | qDisable => exact base_execQDisable h
  | qSetupWrite => exact base_execQSetupWrite h
  | sqTail => exact base_execSqTail h
  | cqHead => exact base_execCqHead h
  | cancel => exact base_execCancel h
  | rearm => exact base_execRearm h
  | descriptorFetch => exact base_execDescriptorFetch h
  | descriptorStart => exact base_execDescriptorStart h
  | writeCompletionRecord => exact base_execWriteCompletionRecord h
  | tileTokenPush => exact base_execTileTokenPush h
  | tileTokenStart => exact base_execTileTokenStart h
  | tqTemplateLoad => exact base_execTqTemplateLoad h
  | tqTemplateLoadDone => exact base_execTqTemplateLoadDone h
  | memReadResponse => exact base_execMemReadResponse h
  | memWriteResponse => exact base_execMemWriteResponse h
  | atomicUnitIssue => exact base_execAtomicUnitIssue h
  | rdReceive => exact base_execRdReceive h
  | grdReceive => exact base_execGrdReceive h
  | wrReceive => exact base_execWrReceive h
  | msgReceive => exact base_execMsgReceive h
  | atomReceive => exact base_execAtomReceive h
  | vaccReceive => exact base_execVaccReceive h
  | unknownTypeReceive => exact base_execUnknownTypeReceive h
  | rdrReceive => exact base_execRdrReceive h
  | atomrReceive => exact base_execAtomrReceive h
  | lackReceive => exact base_execLackReceive h
  | holdFullResend => exact base_execHoldFullResend h
  | holdTimeout => exact base_execHoldTimeout h
  | lackCoalesceTimeout => exact base_execLackCoalesceTimeout h
  | operationTimeout => exact base_execOperationTimeout h
  | tagQuarantineEnd => exact base_execTagQuarantineEnd h
  | walkReadReturn => exact base_execWalkReadReturn h
  | invRange => exact base_execInvRange h
  | invPart => exact base_execInvPart h
  | invAll => exact base_execInvAll h
  | preload => exact base_execPreload h
  | invDrainComplete => exact base_execInvDrainComplete h
  | xltDirBaseWrite => exact base_execXltDirBaseWrite h
  | chainLoad => exact base_execChainLoad h
  | chainLoadDone => exact base_execChainLoadDone h
  | pipeRsvWrite => exact base_execPipeRsvWrite h
  | pipeBind => exact base_execPipeBind h
  | cjoinReceive => exact base_execCjoinReceive h
  | cdataReceive => exact base_execCdataReceive h
  | cabortReceive => exact base_execCabortReceive h
  | collectiveStep => exact base_execCollectiveStep h
  | edspReceive => exact base_execEdspReceive h
  | ecmbReceive => exact base_execEcmbReceive h
  | etallyReceive => exact base_execEtallyReceive h
  | prdrReceive => exact base_execPrdrReceive h
  | resumeChunk => exact base_execResumeChunk h
  | expertTableLoad => exact base_execExpertTableLoad h
  | expertTableLoadDone => exact base_execExpertTableLoadDone h
  | routePacket => exact base_execRoutePacket h
  | escWaitExpiry => exact base_execEscWaitExpiry h
  | outputStallTimeout => exact base_execOutputStallTimeout h
  | sumpDstWrite => exact base_execSumpDstWrite h
  | routeTableWrite => exact base_execRouteTableWrite h
  | epochInjWrite => exact base_execEpochInjWrite h
  | epochClear => exact base_execEpochClear h
  | lportWrite => exact base_execLportWrite h
  | pkeyListWrite => exact base_execPkeyListWrite h
  | fabCtlWrite => exact base_execFabCtlWrite h
  | nodeIdWrite => exact base_execNodeIdWrite h
  | helloTimer => exact base_execHelloTimer h
  | helloReceive => exact base_execHelloReceive h
  | nbrLost => exact base_execNbrLost h
  | drainReceive => exact base_execDrainReceive h
  | probeGo => exact base_execProbeGo h
  | probeReceive => exact base_execProbeReceive h
  | probeReplyReceive => exact base_execProbeReplyReceive h
  | probeTimeout => exact base_execProbeTimeout h
  | keeperProbe => exact base_execKeeperProbe h
  | flitReceive => exact base_execFlitReceive h
  | ctrlFlitReceive => exact base_execCtrlFlitReceive h
  | replayReqReceive => exact base_execReplayReqReceive h
  | auditReceive => exact base_execAuditReceive h
  | initFlitReceive => exact base_execInitFlitReceive h
  | initFlitTimer => exact base_execInitFlitTimer h
  | initTimeout => exact base_execInitTimeout h
  | replayReqRepeat => exact base_execReplayReqRepeat h
  | ackTimeout => exact base_execAckTimeout h
  | creditTimeout => exact base_execCreditTimeout h
  | ctrlFlitDue => exact base_execCtrlFlitDue h
  | frameLockLoss => exact base_execFrameLockLoss h
  | partnerRetrainDetect => exact base_execPartnerRetrainDetect h
  | retrainAttemptTimeout => exact base_execRetrainAttemptTimeout h
  | lnkRetrain => exact base_execLnkRetrain h
  | fullLinkReset => exact base_execFullLinkReset h
  | lnkModeWrite => exact base_execLnkModeWrite h
  | txSleepEnter => exact base_execTxSleepEnter h
  | txWake => exact base_execTxWake h
  | dutyPeriodStart => exact base_execDutyPeriodStart h
  | lnkSleepCfgWrite => exact base_execLnkSleepCfgWrite h
  | lnkDutyCtlWrite => exact base_execLnkDutyCtlWrite h
  | rxWake => exact base_execRxWake h
  | sleepCommaRetrain => exact base_execSleepCommaRetrain h
  | wakeMissingTimeout => exact base_execWakeMissingTimeout h
  | losAssert => exact base_execLosAssert h
  | lolAssert => exact base_execLolAssert h
  | losClear => exact base_execLosClear h
  | primeStart => exact base_execPrimeStart h
  | pllLock => exact base_execPllLock h
  | cdrLock => exact base_execCdrLock h
  | laneAligned => exact base_execLaneAligned h
  | train => exact base_execTrain h
  | adaptationDone => exact base_execAdaptationDone h
  | endBlock => exact base_execEndBlock h
  | primeTimeout => exact base_execPrimeTimeout h
  | loopReq => exact base_execLoopReq h
  | loopAck => exact base_execLoopAck h
  | farLoopTimeout => exact base_execFarLoopTimeout h
  | laneTestWrite => exact base_execLaneTestWrite h
  | laneSqCtlWrite => exact base_execLaneSqCtlWrite h
  | prbsClr => exact base_execPrbsClr h
  | prbsInj => exact base_execPrbsInj h
  | calTempCheck => exact base_execCalTempCheck h
  | marginUpdate => exact base_execMarginUpdate h
  | enable => exact base_execEnable h
  | teardown => exact base_execTeardown h
  | teardownDrainEnd => exact base_execTeardownDrainEnd h
  | teardownDone => exact base_execTeardownDone h
  | pkeyQuarantineEnd => exact base_execPkeyQuarantineEnd h
  | ephGen => exact base_execEphGen h
  | chanOpen => exact base_execChanOpen h
  | chanClose => exact base_execChanClose h
  | wsealOpen => exact base_execWsealOpen h
  | attest => exact base_execAttest h
  | cert => exact base_execCert h
  | mgmtKeygen => exact base_execMgmtKeygen h
  | mgmtLoad => exact base_execMgmtLoad h
  | chanPendingTimeout => exact base_execChanPendingTimeout h
  | scrubAll => exact base_execScrubAll h
  | scrubDone => exact base_execScrubDone h
  | jtagIdcode => exact base_execJtagIdcode h
  | jtagBypass => exact base_execJtagBypass h
  | jtagSamplePreload => exact base_execJtagSamplePreload h
  | mgmtDtlsHandshake => exact base_execMgmtDtlsHandshake h
  | fuseRead => exact base_execFuseRead h
  | watchdogKick => exact base_execWatchdogKick h
  | watchdogExpiry => exact base_execWatchdogExpiry h
  | keeperBoot => exact base_execKeeperBoot h
  | keeperEventCopy => exact base_execKeeperEventCopy h
  | coalesceHolddownExpiry => exact base_execCoalesceHolddownExpiry h
  | mevt => exact base_execMevt h
  | evtConsWrite => exact base_execEvtConsWrite h
  | mgtPolicyWrite => exact base_execMgtPolicyWrite h
  | keeperSteer => exact base_execKeeperSteer h
  | keeperMarginRetrain => exact base_execKeeperMarginRetrain h
  | keeperStaleRetrain => exact base_execKeeperStaleRetrain h
  | keeperCalCapture => exact base_execKeeperCalCapture h
  | keeperSleepTune => exact base_execKeeperSleepTune h
  | stage => exact base_execStage h
  | activate => exact base_execActivate h
  | confirm => exact base_execConfirm h
  | revert => exact base_execRevert h
  | trialTimeout => exact base_execTrialTimeout h
  | capture => exact base_execCapture h
  | calImport => exact base_execCalImport h
  | calExport => exact base_execCalExport h
  | calStoreDone => exact base_execCalStoreDone h
  | frameLockGain => exact base_execFrameLockGain h
  | prbsLockGain => exact base_execPrbsLockGain h
  | prbsLockLoss => exact base_execPrbsLockLoss h
  | holdPhaseEnd => exact base_execHoldPhaseEnd h
theorem exec_answers (c : Instr) (s : State) : ∃ t, exec c s = .next t := by
  cases c
  case probeTimeout =>
    change ∃ t, execProbeTimeout s = .next t
    unfold execProbeTimeout
    split <;> exact ⟨_, rfl⟩
  case calStoreDone =>
    change ∃ t, execCalStoreDone s = .next t
    unfold execCalStoreDone
    split <;> exact ⟨_, rfl⟩
  all_goals exact ⟨_, rfl⟩

/-! #### The moves of the release and of debug access -/

/-- DBG_LOCK by the fuses in force. -/
def lockInForce (b : Base) : Bool := b.shadow.getD b.lock

/-- A reset puts every island that the release brings up into reset (R353). -/
def islandsHeld (b : Base) : Base := { b with coreUp := false, unitsUp := false, tiles := 0 }

/-- The step of the release that follows a gap (R354). -/
def nextTile (n : Nat) : RelStep := if n = 35 then .done else .tile (n + 1)

/-- What one command, or one entry of a configuration image, may do to the base of the state. -/
inductive Move : Base → Base → Prop
  | powerOn (b) :
      Move b { islandsHeld b with
        step := .held, soft := false, now := 0, shadow := none, openBit := false, opening := false, granted := false }
  | hardReset (b) : Move b { islandsHeld b with step := .held, soft := false }
  | softReset (b) : b.coreUp = true → Move b { islandsHeld b with step := .pll, soft := true }
  | porPin (b) (x : Bool) : Move b { b with porLow := x }
  | release (b) : b.step = .held → Move b { b with step := .fuse }
  | shadow (b) : b.step = .fuse → Move b { b with step := .pll, shadow := some (lockInForce b) }
  | core (b) : b.step = .pll →
      Move b { b with coreUp := true, step := .units, opening := b.opening && !lockInForce b }
  | units (b) : b.step = .units → Move b { b with unitsUp := true, step := .tile 0 }
  | tile (b) (n : Nat) : b.step = .tile n → Move b { b with tiles := n + 1, step := nextTile n }
  | blow (b) (x : Bool) : Move b { b with lock := b.lock || x }
  | request (b) : lockInForce b = false → Move b { b with opening := true }
  | grant (b) : b.coreUp = true → b.opening = true →
      Move b { b with openBit := true, opening := false, granted := true }

/-- A run of such moves. -/
abbrev Moves : Base → Base → Prop := Relation.ReflTransGen Move

/-- `ReleaseOrder`, of the base alone. -/
def Ordered (b : Base) : Prop :=
  match b.step with
  | .held | .fuse | .pll => b.coreUp = false ∧ b.unitsUp = false ∧ b.tiles = 0
  | .units => b.coreUp = true ∧ b.unitsUp = false ∧ b.tiles = 0
  | .tile n => b.coreUp = true ∧ b.unitsUp = true ∧ b.tiles = n ∧ n < 36
  | .done => b.coreUp = true ∧ b.unitsUp = true ∧ b.tiles = 36

theorem releaseOrder_iff (s : State) : ReleaseOrder s ↔ Ordered (base s) := Iff.rfl

/-- `DebugLock`, of the base alone. -/
structure Shut (b : Base) : Prop where
  blank  : b.shadow = none → (b.step = .held ∨ b.step = .fuse) ∧ b.openBit = false ∧ b.granted = false
  locked : lockInForce b = true → b.openBit = false ∧ b.granted = false ∧ (b.opening = true → b.coreUp = false)

theorem lockInForce_base (s : State) : lockInForce (base s) = (fuseView s).dbgLock := by
  rw [lockInForce, fuseView]
  cases h : s.shadow <;> simp [base, h]

theorem debugLock_iff (s : State) : DebugLock s ↔ Shut (base s) := by
  have blank : (base s).shadow = none ↔ s.shadow = none := Option.map_eq_none_iff
  constructor
  · rintro ⟨unloaded, locked⟩
    exact ⟨fun h => unloaded (blank.mp h), fun h => locked (by rwa [← lockInForce_base])⟩
  · rintro ⟨unloaded, locked⟩
    exact ⟨fun h => unloaded (blank.mpr h), fun h => locked (by rwa [lockInForce_base])⟩

/-- What the order of the release says of a core that runs. -/
theorem Ordered.not_early {b : Base} (hb : Ordered b) (up : b.coreUp = true) :
    ¬(b.step = .held ∨ b.step = .fuse ∨ b.step = .pll) := by
  rintro (h | h | h) <;>
  · rw [Ordered, h] at hb
    obtain ⟨down, -⟩ := hb
    exact absurd (up.symm.trans down) (by decide)

theorem Ordered.core_down {b : Base} (hb : Ordered b) (early : b.step = .held ∨ b.step = .fuse ∨ b.step = .pll) :
    b.coreUp = false := by
  cases up : b.coreUp
  · rfl
  · exact absurd early (hb.not_early up)

theorem Move.pending {b c : Base} (m : Move b c) : c.pending = b.pending := by cases m <;> rfl

theorem Move.ordered {b c : Base} (m : Move b c) (hb : Ordered b) : Ordered c := by
  cases m with
  | powerOn | hardReset | softReset => exact ⟨rfl, rfl, rfl⟩
  | porPin | blow | request | grant => exact hb
  | release h | shadow h => rw [Ordered, h] at hb; exact hb
  | core h =>
    rw [Ordered, h] at hb
    obtain ⟨-, units, tiles⟩ := hb
    exact ⟨rfl, units, tiles⟩
  | units h =>
    rw [Ordered, h] at hb
    obtain ⟨core, -, tiles⟩ := hb
    exact ⟨core, rfl, tiles, by decide⟩
  | tile n h =>
    rw [Ordered, h] at hb
    obtain ⟨core, units, -, lt⟩ := hb
    by_cases last : n = 35
    · subst last; exact ⟨core, units, rfl⟩
    · rw [Ordered, nextTile, if_neg last]
      exact ⟨core, units, rfl, by omega⟩

/-- A shadow is loaded before the core PLL has locked. -/
theorem Shut.loaded {b : Base} (hs : Shut b) (later : b.step ≠ .held ∧ b.step ≠ .fuse) : b.shadow ≠ none := by
  intro none
  obtain ⟨early, -⟩ := hs.blank none
  exact early.elim later.1 later.2

theorem Move.shut {b c : Base} (m : Move b c) (hb : Ordered b) (hs : Shut b) : Shut c := by
  obtain ⟨blank, locked⟩ := hs
  cases m with
  | powerOn => exact ⟨fun _ => ⟨.inl rfl, rfl, rfl⟩, fun _ => ⟨rfl, rfl, fun h => by cases h⟩⟩
  | hardReset =>
    refine ⟨fun none => ⟨.inl rfl, (blank none).2⟩, fun force => ?_⟩
    obtain ⟨shut, ungranted, -⟩ := locked force
    exact ⟨shut, ungranted, fun _ => rfl⟩
  | softReset up =>
    refine ⟨fun none => ?_, fun force => ?_⟩
    · obtain ⟨early, -⟩ := blank none
      exact absurd (early.imp_right .inl) (hb.not_early up)
    · obtain ⟨shut, ungranted, -⟩ := locked force
      exact ⟨shut, ungranted, fun _ => rfl⟩
  | porPin => exact ⟨blank, locked⟩
  | release => exact ⟨fun none => ⟨.inr rfl, (blank none).2⟩, locked⟩
  | shadow step =>
    refine ⟨fun none => (by cases none), fun force => ?_⟩
    have down := hb.core_down (.inr (.inl step))
    obtain ⟨shut, ungranted, -⟩ := locked force
    exact ⟨shut, ungranted, fun _ => down⟩
  | core step =>
    refine ⟨fun none => absurd none (Shut.loaded (b := b) ⟨blank, locked⟩ (by simp [step])), fun force => ?_⟩
    obtain ⟨shut, ungranted, -⟩ := locked force
    change lockInForce b = true at force
    exact ⟨shut, ungranted, fun opens => by simp [force] at opens⟩
  | units step =>
    exact ⟨fun none => absurd none (Shut.loaded (b := b) ⟨blank, locked⟩ (by simp [step])), locked⟩
  | tile n step =>
    exact ⟨fun none => absurd none (Shut.loaded (b := b) ⟨blank, locked⟩ (by simp [step])), locked⟩
  | blow x =>
    refine ⟨blank, fun force => ?_⟩
    cases loaded : b.shadow with
    | none =>
      obtain ⟨early, shut, ungranted⟩ := blank loaded
      exact ⟨shut, ungranted, fun _ => hb.core_down (early.imp_right .inl)⟩
    | some v => exact locked (by simpa [lockInForce, loaded] using force)
  | request free =>
    exact ⟨blank, fun force => absurd (free.symm.trans force) (by decide)⟩
  | grant up opening =>
    refine ⟨fun none => ?_, fun force => ?_⟩
    · obtain ⟨early, -⟩ := blank none
      exact absurd (early.imp_right .inl) (hb.not_early up)
    · obtain ⟨-, -, down⟩ := locked force
      exact absurd (down opening) (by simp [up])

theorem Moves.pending {b c : Base} (m : Moves b c) : c.pending = b.pending := by
  induction m with
  | refl => rfl
  | tail _ m ih => exact m.pending.trans ih

theorem Moves.ordered {b c : Base} (m : Moves b c) (hb : Ordered b) : Ordered c := by
  induction m with
  | refl => exact hb
  | tail _ m ih => exact m.ordered ih

theorem Moves.shut {b c : Base} (m : Moves b c) (hb : Ordered b) (hs : Shut b) : Shut c := by
  induction m with
  | refl => exact hs
  | tail before m ih => exact m.shut (Moves.ordered before hb) ih

/-! #### The commands that touch the islands -/

theorem Moves.of_eq {b c : Base} (h : c = b) : Moves b c := h ▸ .refl

theorem Moves.one {b c d : Base} (m : Move b c) (h : d = c) : Moves b d := h ▸ .single m

theorem base_resetCore (s : State) : base (resetCore s) = islandsHeld (base s) := by
  unfold resetCore
  dsimp only
  generalize cleared : setReg Reg.FAB_INCARN (reg s Reg.FAB_INCARN)
    (clearRegs isCoreReg (each (List.range 16) startedBurst s)) = u
  have same : base u = base s := by rw [← cleared]; simp
  rw [← same]
  rfl

theorem base_clearedByReset (cause : Nat) (s : State) : base (clearedByReset cause s) = islandsHeld (base s) := by
  simp [clearedByReset, base_resetCore]

theorem base_modRst_step (st : RelStep) (soft : Bool) (s : State) :
    base (modRst (fun r => { r with step := st, soft := soft }) s) = { base s with step := st, soft := soft } := rfl

theorem base_losePower (s : State) : base (losePower s) =
    { base s with now := 0, shadow := none, openBit := false, opening := false, granted := false } := rfl

theorem base_takeReset_power (cause : Nat) (s : State) :
    base (takeReset .power cause s) = { islandsHeld (base s) with
      step := .held, soft := false, now := 0, shadow := none, openBit := false, opening := false,
      granted := false } := by
  rw [takeReset_power, base_modRst_step, base_losePower, base_setReg, base_clearedByReset]

theorem base_takeReset_hard (cause : Nat) (s : State) :
    base (takeReset .hard cause s) = { islandsHeld (base s) with step := .held, soft := false } := by
  rw [takeReset_hard, base_modRst_step, base_setReg, base_clearedByReset]

theorem takeReset_soft (cause : Nat) (s : State) :
    takeReset .soft cause s = modRst (fun r => { r with step := .pll, soft := true })
      (setReg Reg.RST_CAUSE (BitVec.ofNat 64 cause) (resetLinks true (resetCore s))) := rfl

theorem base_takeReset_soft (cause : Nat) (s : State) :
    base (takeReset .soft cause s) = { islandsHeld (base s) with step := .pll, soft := true } := by
  rw [takeReset_soft, base_modRst_step, base_setReg, base_resetLinks, base_resetCore]

theorem moves_onlyIf (c : Bool) {f : State → State} {s : State} (h : Moves (base s) (base (f s))) :
    Moves (base s) (base (onlyIf c f s)) := by
  cases c
  · exact .refl
  · exact h

theorem moves_softReset (s : State) : Moves (base s) (base (softReset s)) := by
  unfold softReset
  split_ifs with low ready
  · exact .refl
  · simp only [Bool.and_eq_true] at ready
    obtain ⟨⟨up, -⟩, -⟩ := ready
    exact .one (.softReset _ up) (base_takeReset_soft _ _)
  · exact .of_eq (by simp)

/-- A write of the configuration port may be one of RST_CTL, which resets softly and restarts the keeper. -/
theorem moves_writeRst (a v : Nat) (s : State) : Moves (base s) (base (writeRst a v s)) := by
  unfold writeRst
  dsimp only
  split_ifs
  · rw [base_keeperRestart]; exact moves_softReset s
  · exact .of_eq (base_keeperRestart s)
  · exact moves_softReset s
  · exact .refl
  · exact .of_eq (base_coreMhzWrite _ _)
  · exact .of_eq (base_storeReg _ _ _)

theorem moves_portWrite (a v : Nat) (s : State) : Moves (base s) (base (portWrite a v s)) := by
  by_cases ctl : a = Reg.RST_CTL
  · subst ctl
    rw [portWrite, if_pos (by decide)]
    exact moves_onlyIf _ (moves_writeRst _ _ s)
  · exact .of_eq (base_portWrite a v s ctl)

theorem moves_configWrite (addr : Nat) (v : Word) (s : State) : Moves (base s) (base (configWrite addr v s)) := by
  unfold configWrite
  split
  case h_1 => exact .refl
  case h_2 d a w _ =>
    split_ifs
    · exact .refl
    · exact .of_eq (base_stageUpper a v s)
    · exact moves_portWrite a _ { s with staged := s.staged.erase a }
    · exact moves_portWrite a _ s

theorem moves_each {α : Type} (l : List α) (f : α → State → State) (hf : ∀ x s, Moves (base s) (base (f x s)))
    (s : State) : Moves (base s) (base (each l f s)) := by
  induction l generalizing s with
  | nil => exact .refl
  | cons x l ih => exact (hf x s).trans (ih (f x s))

/-- An image writes its entries through the configuration port. -/
theorem moves_applyImage (im : List Byte) (s : State) : Moves (base s) (base (applyImage im s)) := by
  unfold applyImage
  dsimp only
  rw [base_cfgLoaded, base_modSec _ _ rfl rfl rfl, base_setReg]
  exact moves_each _ _ (fun e s => moves_configWrite _ _ s) s

theorem moves_takeImage (image : Blob) (s : State) : Moves (base s) (base (takeImage image s)) := by
  unfold takeImage
  dsimp only
  split_ifs
  · exact .of_eq (base_refuseImage _ _ _)
  · exact .of_eq (base_refuseImage _ _ _)
  · exact moves_applyImage _ _

theorem moves_imageBack (image : Blob) (s : State) : Moves (base s) (base (imageBack image s)) := by
  have read : ∀ p q, base (wholeBack p (wholeBack q s).2).2 = base s := fun p q => by simp
  unfold imageBack
  dsimp only
  split_ifs
  · exact .refl
  · exact .of_eq (read _ _)
  · exact read _ _ ▸ moves_takeImage _ _

theorem moves_cfgImageReadDone (image : Blob) {s t : State} (h : execCfgImageReadDone image s = .next t) :
    Moves (base s) (base t) := by
  cases h
  unfold wholeCommand
  split_ifs
  · exact moves_onlyIf _ (moves_imageBack image s)
  · exact .of_eq (base_staleWhole _ _)

theorem moves_powerOn (width : Nat) {s t : State} (h : execPowerOn width s = .next t) : Moves (base s) (base t) := by
  cases h
  split_ifs
  · have low : Move (base s) { base s with porLow := true } := .porPin _ true
    refine .tail (.single low) ?_
    have pulsed : base (modRst (fun x => { x with porLow := true, trip := false }) (pulse width s).2) =
        { base s with porLow := true } := by
      rw [← base_pulse width s]
      rfl
    rw [base_takeReset_power, pulsed]
    exact .powerOn _
  · exact .of_eq (base_pulse _ _)

theorem moves_hardReset (width : Nat) {s t : State} (h : execHardReset width s = .next t) :
    Moves (base s) (base t) := by
  cases h
  have same (q r : State) :
      base (modRst (fun x => { x with hardLow := true, trip := x.trip && !allCool q }) r) = base r := rfl
  split_ifs
  · exact .of_eq (base_pulse _ _)
  · dsimp only
    split_ifs
    · exact .of_eq ((same _ _).trans (base_pulse _ _))
    · exact .one (.hardReset _) (by rw [base_takeReset_hard, same, base_pulse])

theorem moves_thermalTrip {s t : State} (h : execThermalTrip s = .next t) : Moves (base s) (base t) := by
  cases h
  refine moves_onlyIf _ (.one (.hardReset _) ?_)
  rw [base_takeReset_hard]
  rfl

/-- The sequence starts once no input and no trip holds it (R354). -/
def startsRelease (s : State) : Bool := !s.rst.porLow && !s.rst.hardLow && !s.rst.trip && s.rst.step == .held

theorem moves_startRelease (s : State) :
    Moves (base s) (base (if startsRelease s then modRst (fun x => { x with step := .fuse }) s else s)) := by
  split_ifs with starts
  · simp only [startsRelease, Bool.and_eq_true, beq_iff_eq] at starts
    obtain ⟨-, held⟩ := starts
    exact .one (.release _ held) rfl
  · exact .refl

theorem moves_resetRelease (pin : ResetPin) (width : Nat) {s t : State} (h : execResetRelease pin width s = .next t) :
    Moves (base s) (base t) := by
  cases h
  split_ifs
  · exact .of_eq (base_pulse _ _)
  · refine .trans ?_ (moves_startRelease _)
    cases pin with
    | por =>
      refine Moves.one (.porPin _ false) ?_
      rw [← base_pulse width s]
      exact base_leaveLostRef _
    | hard => exact Moves.of_eq (base_pulse width s)

theorem base_loadShadow (s : State) : base (loadShadow s) = { base s with shadow := some (lockInForce (base s)) } := by
  unfold loadShadow
  split
  case h_1 loaded => simp [base, loaded, lockInForce]
  case h_2 unloaded =>
    have blank : (base s).shadow = none := by simp [base, unloaded]
    dsimp only
    rw [lockInForce, blank]
    split_ifs
    · rw [← base_drawBytes 64 s]
      rfl
    · rfl

theorem moves_fuseShadowValid {s t : State} (h : execFuseShadowValid s = .next t) : Moves (base s) (base t) := by
  cases h
  rw [onlyIf]
  split_ifs with fuse
  · refine .one (.shadow _ (beq_iff_eq.mp fuse)) ?_
    change { base (loadShadow s) with step := .pll } = _
    rw [base_loadShadow]
  · exact .refl

theorem base_waitingDebug (s : State) :
    base (waitingDebug s) = { base s with opening := (base s).opening && !lockInForce (base s) } := by
  rw [lockInForce_base, waitingDebug]
  split_ifs with shut lock
  · have idle : (base s).opening = false := (Bool.not_eq_true' _).mp shut
    rw [idle, Bool.false_and, ← idle]
  · rw [lock, Bool.not_true, Bool.and_false]
    rfl
  · rw [eq_false_of_ne_true lock, Bool.not_false, Bool.and_true]
    exact base_startOpening s

theorem moves_corePllLocked {s t : State} (h : execCorePllLocked s = .next t) : Moves (base s) (base t) := by
  cases h
  rw [onlyIf]
  split_ifs with pll
  · refine .one (.core _ (beq_iff_eq.mp pll)) ?_
    rw [base_waitingDebug, base_keeperBounds, base_deriveKeys]
    rfl
  · exact .refl

theorem moves_releaseGapExpiry {s t : State} (h : execReleaseGapExpiry s = .next t) : Moves (base s) (base t) := by
  cases h
  refine moves_onlyIf _ ?_
  split
  case h_1 step => exact .one (.units _ step) rfl
  case h_2 n step => exact .one (.tile _ n step) (base_tryPrime _ _)
  case h_3 => exact .refl

theorem moves_debugAccessRequest (tap : TapPort) {s t : State} (h : execDebugAccessRequest tap s = .next t) :
    Moves (base s) (base t) := by
  cases h
  split_ifs with lock pending
  · exact .of_eq (base_setTap _ _ _)
  · exact .of_eq (base_setTap _ _ _)
  · refine .one (.request _ ?_) ?_
    · rw [lockInForce_base]; exact eq_false_of_ne_true lock
    · rw [base_onlyIf _ _ _ (base_startOpening _), ← base_setTap tap 3]
      rfl

theorem moves_debugAccessGranted {s t : State} (h : execDebugAccessGranted s = .next t) : Moves (base s) (base t) := by
  cases h
  rw [onlyIf]
  split_ifs with ready
  · simp only [Bool.and_eq_true] at ready
    obtain ⟨⟨up, opening⟩, -⟩ := ready
    refine .one (.grant _ up opening) ?_
    have opens :
        base (modFuses (fun x => { x with opens := programTo 32 (popcount 32 x.opens + 1) x.opens }) s) = base s :=
      base_modFuses _ s fun _ => rfl
    rw [base_postOwn, ← opens]
    rfl
  · exact .refl

theorem dbgLock_program (f : Fuses) (row : FuseRow) (v : Nat) :
    (f.program row v).dbgLock = (f.dbgLock || (row == .dbgLock && v.testBit 0)) := by
  cases row with
  | dbgLock => rfl
  | _ => exact (Bool.or_false _).symm

theorem moves_fuseProgram (row : FuseRow) (bits : Nat) {s t : State} (h : execFuseProgram row bits s = .next t) :
    Moves (base s) (base t) := by
  cases h
  refine moves_onlyIf _ (.one (.blow _ (row == .dbgLock && bits.testBit 0)) ?_)
  rw [base_mk, dbgLock_program]
  rfl

theorem moves_exec {c : Instr} {s t : State} (h : exec c s = .next t) : Moves (base s) (base t) := by
  cases untouched : touchesIslands c with
  | false => exact .of_eq (base_exec untouched h)
  | true =>
    cases c with
    | powerOn => exact moves_powerOn _ h
    | hardReset => exact moves_hardReset _ h
    | resetRelease => exact moves_resetRelease _ _ h
    | fuseShadowValid => exact moves_fuseShadowValid h
    | corePllLocked => exact moves_corePllLocked h
    | releaseGapExpiry => exact moves_releaseGapExpiry h
    | thermalTrip => exact moves_thermalTrip h
    | softReset => cases h; exact moves_softReset s
    | configWrite => cases h; exact moves_configWrite _ _ s
    | cfgImageReadDone => exact moves_cfgImageReadDone _ h
    | debugAccessRequest => exact moves_debugAccessRequest _ h
    | debugAccessGranted => exact moves_debugAccessGranted h
    | fuseProgram => exact moves_fuseProgram _ _ h
    | _ => cases untouched

/-! #### What every command and every step keeps -/

/-- Settles O3: every arm answers, and no move of the base touches the queue. -/
theorem commandsLeaveTheQueue : Obligations.CommandsLeaveTheQueue := by
  intro c s
  obtain ⟨t, answered⟩ := exec_answers c s
  exact ⟨t, answered, (moves_exec answered).pending⟩

/-- Settles O4: these commands leave the base as it is, and the fields named are fields of the base. -/
theorem datapathLeavesTheIslands : Obligations.DatapathLeavesTheIslands := by
  intro c s t untouched answered
  have same := base_exec untouched answered
  simp only [base, Base.mk.injEq] at same
  obtain ⟨-, now, step, soft, por, core, units, tiles, lock, shadow, shut, opening, granted⟩ := same
  exact ⟨step, soft, por, core, units, tiles, now, lock, shadow, shut, opening, granted⟩

/-- A step is a tick, or moves of the base once the front command has left the queue. -/
theorem step_cases {s t : State} (h : step s = .next t) :
    base t = { base s with now := s.now + 1 } ∨
      ∃ rest, Moves { base s with pending := rest } (base t) := by
  unfold step at h
  split at h
  case h_1 => cases h; exact .inl (base_tick s)
  case h_2 rest _ => exact .inr ⟨rest, moves_exec h⟩

/-- Settles O5: a tick leaves the islands as they are, and every move of the base keeps the order. -/
theorem releaseOrderKept : Obligations.ReleaseOrderKept := by
  intro s t ordered stepped
  rw [releaseOrder_iff] at ordered ⊢
  obtain tick | ⟨rest, moves⟩ := step_cases stepped
  · rw [tick]; exact ordered
  · exact moves.ordered ordered

/-- Settles O7: as O5, with the order of the release saying where the shadow is loaded before anything runs. -/
theorem debugLockKept : Obligations.DebugLockKept := by
  intro s t ordered shut stepped
  rw [releaseOrder_iff] at ordered
  rw [debugLock_iff] at shut ⊢
  obtain tick | ⟨rest, moves⟩ := step_cases stepped
  · rw [tick]; exact ⟨shut.blank, shut.locked⟩
  · exact moves.shut ordered ⟨shut.blank, shut.locked⟩

/-- Settles O6: State.reset holds every island, with no shadow and blank fuses. -/
theorem invariantsAtReset : Obligations.InvariantsAtReset := by
  rw [Obligations.InvariantsAtReset, debugLock_iff]
  exact ⟨⟨rfl, rfl, rfl⟩, ⟨fun _ => ⟨.inl rfl, rfl, rfl⟩, fun force => by cases force⟩⟩

end Sys2Proof.Proofs

/-! ### Encodings (R24, R255, R257, R259, R335, R388) -/

namespace Sys2Proof.Proofs

open Sys2Proof Sys2Proof.Machine Sys2Proof.Laws

/-! #### Numbers and slices of byte strings -/

theorem leNat_leBytes_mod (n v : Nat) : leNat (leBytes n v) = v % 256 ^ n := by
  induction n generalizing v with
  | zero => exact (Nat.mod_one v).symm
  | succ n ih =>
    have split : 256 ^ (n + 1) = 256 * 256 ^ n := Nat.pow_succ'
    rw [leBytes, leNat, ih, BitVec.toNat_ofNat, split, Nat.mod_mul]

/-- The number at the front of a string of bytes. -/
theorem sliceNat_head (n v : Nat) (rest : List Byte) : sliceNat (leBytes n v ++ rest) 0 n = v % 256 ^ n := by
  rw [sliceNat, slice, List.drop_zero, List.take_left' (length_leBytes n v), leNat_leBytes_mod]

theorem sliceNat_leBytes (n v : Nat) : sliceNat (leBytes n v) 0 n = v % 256 ^ n := by
  have := sliceNat_head n v []
  rwa [List.append_nil] at this

theorem slice_skip (a rest : List Byte) {off : Nat} (n : Nat) (h : a.length ≤ off) :
    slice (a ++ rest) off n = slice rest (off - a.length) n := by
  rw [slice, slice, List.drop_append, List.drop_of_length_le h, List.nil_append]

theorem sliceNat_skip (m v : Nat) (rest : List Byte) {off : Nat} (n : Nat) (h : m ≤ off) :
    sliceNat (leBytes m v ++ rest) off n = sliceNat rest (off - m) n := by
  rw [sliceNat, slice_skip _ _ _ (by rwa [length_leBytes]), length_leBytes, sliceNat]

/-- What lies within the front part of a string does not depend on the rest. -/
theorem slice_append_of_le {a : List Byte} (rest : List Byte) {off n : Nat} (h : off + n ≤ a.length) :
    slice (a ++ rest) off n = slice a off n := by
  rw [slice, slice, List.drop_append_of_le_length (by omega), List.take_append_of_le_length (by simp; omega)]

theorem fit_of_length {n : Nat} {bs : List Byte} (h : bs.length = n) : fit n bs = bs := by
  rw [fit, h, Nat.sub_self, List.replicate_zero, List.append_nil, List.take_of_length_le (Nat.le_of_eq h)]

/-- A flag in a word, as a number. -/
theorem flag_eq (x : Bool) (i : Nat) : (if x then 2 ^ i else 0) = x.toNat * 2 ^ i := by cases x <;> simp

theorem testBit_toNat {x : Bool} {v i : Nat} (h : v / 2 ^ i % 2 = x.toNat) : v.testBit i = x := by
  rw [Nat.testBit_eq_decide_div_mod_eq, h]
  cases x <;> rfl

theorem ofNat_of_mod {w v : Nat} {x : BitVec w} (h : v % 2 ^ w = x.toNat) : BitVec.ofNat w v = x :=
  BitVec.eq_of_toNat_eq (by rw [BitVec.toNat_ofNat, h])

/-- Word `i` of a string of 32-bit words. -/
theorem sliceNat_words (vs : List Nat) (i : Nat) :
    sliceNat (vs.flatMap (leBytes 4)) (4 * i) 4 = vs.getD i 0 % 2 ^ 32 := by
  induction vs generalizing i with
  | nil => simp [sliceNat, slice, leNat]
  | cons v vs ih =>
    cases i with
    | zero => exact sliceNat_head 4 v _
    | succ i =>
      rw [List.flatMap_cons, sliceNat_skip _ _ _ _ (by omega), List.getD_cons_succ, ← ih i]
      rfl

/-! #### Packets -/

/-- The header's words (R24), with each flag as a number. -/
def headerWords (p : Packet) : List Nat :=
  [p.ptype.toNat * 2 ^ 26 + p.ff.toNat * 2 ^ 25 + p.sealed.toNat * 2 ^ 24 + p.epoch.toNat * 2 ^ 23
    + p.mcast.toNat * 2 ^ 22 + p.poison.toNat * 2 ^ 21 + p.scope.toNat * 2 ^ 19 + p.vc.toNat * 2 ^ 16 + p.pkey.toNat,
   p.src.toNat * 2 ^ 24 + p.dst.toNat * 2 ^ 16 + p.seq.toNat,
   p.tag.toNat * 2 ^ 15 + p.win.toNat,
   p.addr.toNat,
   p.len.toNat * 2 ^ 20 + p.addr.toNat / 2 ^ 32,
   p.expect.toNat,
   p.chan.toNat * 2 ^ 24 + p.subop.toNat * 2 ^ 16 + p.aux.toNat,
   p.status.toNat * 2 ^ 24 + p.prior.toNat]

theorem header_eq (p : Packet) : p.header = (headerWords p).flatMap (leBytes 4) := by
  simp only [Packet.header, headerWords, flag_eq, List.flatMap_cons, List.flatMap_nil, List.append_nil,
    List.append_assoc]

theorem length_header (p : Packet) : p.header.length = 32 := by
  rw [header_eq]
  rfl

/-- The first header word gives back what it packs. -/
theorem typeWord_fields {ty ff se ep mc po sc vc key : Nat} (hty : ty < 64) (hff : ff ≤ 1) (hse : se ≤ 1)
    (hep : ep ≤ 1) (hmc : mc ≤ 1) (hpo : po ≤ 1) (hsc : sc < 4) (hvc : vc < 8) (hkey : key < 65536) :
    let w := (ty * 2 ^ 26 + ff * 2 ^ 25 + se * 2 ^ 24 + ep * 2 ^ 23 + mc * 2 ^ 22 + po * 2 ^ 21 + sc * 2 ^ 19
      + vc * 2 ^ 16 + key) % 2 ^ 32
    natField w 26 6 % 2 ^ 6 = ty ∧ w / 2 ^ 25 % 2 = ff ∧ w / 2 ^ 24 % 2 = se ∧ w / 2 ^ 23 % 2 = ep ∧
    w / 2 ^ 22 % 2 = mc ∧ w / 2 ^ 21 % 2 = po ∧ natField w 19 2 % 2 ^ 2 = sc ∧ natField w 16 3 % 2 ^ 3 = vc ∧
    w % 2 ^ 16 = key := by
  norm_num [natField]
  omega

/-- Fields of 8, 8 and 16 bits in one word. -/
theorem bytesWord_fields {a b c : Nat} (ha : a < 256) (hb : b < 256) (hc : c < 65536) :
    let w := (a * 2 ^ 24 + b * 2 ^ 16 + c) % 2 ^ 32
    natField w 24 8 % 2 ^ 8 = a ∧ natField w 16 8 % 2 ^ 8 = b ∧ w % 2 ^ 16 = c := by
  norm_num [natField]
  omega

/-- R24: the address lies in a word of its own and in the low part of the next one, under the length. -/
theorem addrWord_fields {addr len : Nat} (haddr : addr < 2 ^ 52) (hlen : len < 4096) :
    let w := (len * 2 ^ 20 + addr / 2 ^ 32) % 2 ^ 32
    (addr % 2 ^ 32 + natField w 0 20 * 2 ^ 32) % 2 ^ 52 = addr ∧ natField w 20 12 % 2 ^ 12 = len := by
  norm_num [natField] at *
  omega

theorem tagWord_fields {tag win : Nat} (htag : tag < 131072) (hwin : win < 4096) :
    let w := (tag * 2 ^ 15 + win) % 2 ^ 32
    natField w 15 17 % 2 ^ 17 = tag ∧ w % 2 ^ 12 = win := by
  norm_num [natField]
  omega

theorem statusWord_fields {status prior : Nat} (hstatus : status < 256) (hprior : prior < 16777216) :
    let w := (status * 2 ^ 24 + prior) % 2 ^ 32
    natField w 24 8 % 2 ^ 8 = status ∧ w % 2 ^ 24 = prior := by
  norm_num [natField]
  omega

theorem parseHeader_header (p : Packet) :
    parseHeader p.header = { p with payload := [], trailer := none, abt := false } := by
  have word (i : Nat) : sliceNat p.header (4 * i) 4 = (headerWords p).getD i 0 % 2 ^ 32 := by
    rw [header_eq, sliceNat_words]
  obtain ⟨ptype, ff, sealed, epoch, mcast, poison, scope, vc, pkey⟩ := typeWord_fields p.ptype.isLt p.ff.toNat_le
    p.sealed.toNat_le p.epoch.toNat_le p.mcast.toNat_le p.poison.toNat_le p.scope.isLt p.vc.isLt p.pkey.isLt
  obtain ⟨src, dst, seq⟩ := bytesWord_fields p.src.isLt p.dst.isLt p.seq.isLt
  obtain ⟨chan, subop, aux⟩ := bytesWord_fields p.chan.isLt p.subop.isLt p.aux.isLt
  obtain ⟨addr, len⟩ := addrWord_fields p.addr.isLt p.len.isLt
  obtain ⟨tag, win⟩ := tagWord_fields p.tag.isLt p.win.isLt
  obtain ⟨status, prior⟩ := statusWord_fields p.status.isLt p.prior.isLt
  simp only [parseHeader, word, Packet.mk.injEq]
  exact ⟨ofNat_of_mod ptype, testBit_toNat ff, testBit_toNat sealed, testBit_toNat epoch, testBit_toNat mcast,
    testBit_toNat poison, ofNat_of_mod scope, ofNat_of_mod vc, ofNat_of_mod pkey, ofNat_of_mod src, ofNat_of_mod dst,
    ofNat_of_mod seq, ofNat_of_mod tag, ofNat_of_mod win, ofNat_of_mod addr, ofNat_of_mod len,
    ofNat_of_mod ((Nat.mod_mod _ _).trans (Nat.mod_eq_of_lt p.expect.isLt)), ofNat_of_mod chan, ofNat_of_mod subop,
    ofNat_of_mod aux, ofNat_of_mod status, ofNat_of_mod prior, trivial, trivial, trivial⟩

/-- Settles O8: each word of the header gives back the fields that it packs. -/
theorem headerRoundTrip : Obligations.HeaderRoundTrip := parseHeader_header

/-- Only the first 32 bytes are read as the header. -/
theorem parseHeader_append {a : List Byte} (rest : List Byte) (h : a.length = 32) :
    parseHeader (a ++ rest) = parseHeader a := by
  have word (i : Nat) (hi : i < 8) : sliceNat (a ++ rest) (4 * i) 4 = sliceNat a (4 * i) 4 := by
    rw [sliceNat, slice_append_of_le rest (by omega), sliceNat]
  simp only [parseHeader, word 0 (by decide), word 1 (by decide), word 2 (by decide), word 3 (by decide),
    word 4 (by decide), word 5 (by decide), word 6 (by decide), word 7 (by decide)]

/-- What stands behind the payload in the stream: the seal trailer of a sealed packet (R335). -/
def sealBytes (p : Packet) : List Byte :=
  if p.sealed then
    match p.trailer with
    | some t => leBytes 8 t.ctr.toNat ++ zeros 8 ++ fit 16 t.tag
    | none => zeros 32
  else []

theorem length_sealBytes (p : Packet) : (sealBytes p).length = if p.sealed then 32 else 0 := by
  unfold sealBytes
  split_ifs
  · split
    · simp only [List.length_append, length_leBytes, length_zeros, length_fit]
    · exact length_zeros 32
  · rfl

theorem le_pad8 (n : Nat) : n ≤ pad8 n := by
  unfold pad8 ceilDiv
  omega

/-- A payload of the stated length is padded behind it. -/
theorem paddedPayload {p : Packet} (h : p.payload.length = p.payloadBytes) :
    ∃ pad, fit (pad8 p.payloadBytes) (p.payload.take p.payloadBytes) = p.payload ++ pad := by
  rw [← h, List.take_length, fit, List.take_of_length_le (le_pad8 _)]
  exact ⟨_, rfl⟩

theorem stream_eq (p : Packet) :
    p.stream = p.header ++ (fit (pad8 p.payloadBytes) (p.payload.take p.payloadBytes) ++ sealBytes p) :=
  List.append_assoc _ _ _

theorem length_stream (p : Packet) : p.stream.length = p.streamLen := by
  rw [stream_eq, List.length_append, List.length_append, length_header, length_fit, length_sealBytes, Packet.streamLen]
  omega

theorem slice_payload {p : Packet} (h : p.payload.length = p.payloadBytes) :
    slice p.stream 32 p.payloadBytes = p.payload := by
  obtain ⟨pad, padded⟩ := paddedPayload h
  rw [stream_eq, slice_skip _ _ _ (Nat.le_of_eq (length_header p)), length_header, Nat.sub_self, padded,
    List.append_assoc, ← h, slice, List.drop_zero, List.take_left]

theorem drop_stream (p : Packet) : p.stream.drop (32 + pad8 p.payloadBytes) = sealBytes p := by
  have front : (p.header ++ fit (pad8 p.payloadBytes) (p.payload.take p.payloadBytes)).length =
      32 + pad8 p.payloadBytes := by rw [List.length_append, length_header, length_fit]
  rw [stream_eq, ← List.append_assoc, List.drop_left' front]

/-- The trailer that a seal's bytes spell. -/
theorem sealBytes_trailer {p : Packet} {t : Trailer} (isSealed : p.sealed = true) (ht : p.trailer = some t)
    (len : t.tag.length = 16) :
    (⟨BitVec.ofNat 64 (sliceNat (sealBytes p) 0 8), slice (sealBytes p) 16 16⟩ : Trailer) = t := by
  have bytes : sealBytes p = leBytes 8 t.ctr.toNat ++ (zeros 8 ++ t.tag) := by
    simp only [sealBytes, if_pos isSealed, ht, fit_of_length len, List.append_assoc]
  have ctr : sliceNat (sealBytes p) 0 8 = t.ctr.toNat := by
    rw [bytes, sliceNat_head]
    exact Nat.mod_eq_of_lt t.ctr.isLt
  have tag : slice (sealBytes p) 16 16 = t.tag := by
    rw [bytes, slice_skip _ _ _ (by simp), slice_skip _ _ _ (by simp), length_leBytes, length_zeros, slice,
      List.drop_zero, List.take_of_length_le (by omega)]
  rw [ctr, tag, BitVec.ofNat_toNat, BitVec.setWidth_eq]

/-- Settles O9: the header is read back from the first 32 bytes, the payload from those behind it, and the trailer from
what stands behind its padding. -/
theorem packetStreamRoundTrip : Obligations.PacketStreamRoundTrip := by
  intro p len trailer
  refine ⟨length_stream p, ?_⟩
  have header : parseHeader p.stream = { p with payload := [], trailer := none, abt := false } := by
    rw [stream_eq, parseHeader_append _ (length_header p), parseHeader_header]
  rw [header]
  change { p with
    payload := slice p.stream 32 p.payloadBytes
    trailer := if p.sealed then
        some ⟨BitVec.ofNat 64 (sliceNat (p.stream.drop (32 + pad8 p.payloadBytes)) 0 8),
          slice (p.stream.drop (32 + pad8 p.payloadBytes)) 16 16⟩
      else none
    abt := false } = _
  rw [slice_payload len, drop_stream]
  split_ifs at trailer ⊢ with isSealed
  · obtain ⟨t, held, tag⟩ := trailer
    rw [sealBytes_trailer isSealed held tag, held]
  · rw [trailer]

/-! #### Events -/

theorem length_eventBytes (e : Event) : e.bytes.length = 32 := by
  simp only [Event.bytes, List.length_append, length_leBytes]

theorem eventBytes_eq (e : Event) : e.bytes =
    leBytes 4 (e.cls.toNat * 2 ^ 30 + e.summary.toNat * 2 ^ 29 + e.relayed.toNat * 2 ^ 28 + e.cause.toNat)
      ++ (leBytes 4 (e.node.toNat + 2 ^ 8 * e.reporter.toNat + 2 ^ 16 * e.part.toNat) ++ (leBytes 4 e.count.toNat
      ++ (leBytes 4 e.index.toNat ++ (leBytes 8 e.time.toNat ++ leBytes 8 e.data.toNat)))) := by
  simp only [Event.bytes, flag_eq, List.append_assoc]

theorem classWord_fields {cls su re cause : Nat} (hcls : cls < 4) (hsu : su ≤ 1) (hre : re ≤ 1)
    (hcause : cause < 65536) :
    let w := (cls * 2 ^ 30 + su * 2 ^ 29 + re * 2 ^ 28 + cause) % 2 ^ 32
    natField w 30 2 % 2 ^ 2 = cls ∧ w / 2 ^ 29 % 2 = su ∧ w / 2 ^ 28 % 2 = re ∧ w % 2 ^ 16 = cause := by
  norm_num [natField]
  omega

theorem nodeWord_fields {node reporter part : Nat} (hnode : node < 256) (hreporter : reporter < 256)
    (hpart : part < 256) :
    let w := (node + 2 ^ 8 * reporter + 2 ^ 16 * part) % 2 ^ 32
    w % 2 ^ 8 = node ∧ natField w 8 8 % 2 ^ 8 = reporter ∧ natField w 16 8 % 2 ^ 8 = part := by
  norm_num [natField]
  omega

/-- Settles O10: each of the eight words gives back the fields that it packs. -/
theorem eventRoundTrip : Obligations.EventRoundTrip := by
  intro e
  refine ⟨length_eventBytes e, ?_⟩
  have w0 : sliceNat e.bytes 0 4 = (e.cls.toNat * 2 ^ 30 + e.summary.toNat * 2 ^ 29 + e.relayed.toNat * 2 ^ 28
      + e.cause.toNat) % 256 ^ 4 := by
    rw [eventBytes_eq, sliceNat_head]
  have w1 : sliceNat e.bytes 4 4 = (e.node.toNat + 2 ^ 8 * e.reporter.toNat + 2 ^ 16 * e.part.toNat) % 256 ^ 4 := by
    simp (disch := decide) only [eventBytes_eq, sliceNat_skip, sliceNat_head, Nat.reduceSub]
  have w2 : sliceNat e.bytes 8 4 = e.count.toNat % 256 ^ 4 := by
    simp (disch := decide) only [eventBytes_eq, sliceNat_skip, sliceNat_head, Nat.reduceSub]
  have w3 : sliceNat e.bytes 12 4 = e.index.toNat % 256 ^ 4 := by
    simp (disch := decide) only [eventBytes_eq, sliceNat_skip, sliceNat_head, Nat.reduceSub]
  have time : sliceNat e.bytes 16 8 = e.time.toNat % 256 ^ 8 := by
    simp (disch := decide) only [eventBytes_eq, sliceNat_skip, sliceNat_head, Nat.reduceSub]
  have data : sliceNat e.bytes 24 8 = e.data.toNat % 256 ^ 8 := by
    simp (disch := decide) only [eventBytes_eq, sliceNat_skip, sliceNat_leBytes, Nat.reduceSub]
  obtain ⟨cls, summary, relayed, cause⟩ :=
    classWord_fields e.cls.isLt e.summary.toNat_le e.relayed.toNat_le e.cause.isLt
  obtain ⟨node, reporter, part⟩ := nodeWord_fields e.node.isLt e.reporter.isLt e.part.isLt
  have count : e.count.toNat % 256 ^ 4 % 2 ^ 32 = e.count.toNat :=
    (Nat.mod_mod _ _).trans (Nat.mod_eq_of_lt e.count.isLt)
  have index : e.index.toNat % 256 ^ 4 % 2 ^ 16 = e.index.toNat :=
    (Nat.mod_mod_of_dvd _ (by decide)).trans (Nat.mod_eq_of_lt e.index.isLt)
  have long (v : BitVec 64) : v.toNat % 256 ^ 8 % 2 ^ 64 = v.toNat := (Nat.mod_mod _ _).trans (Nat.mod_eq_of_lt v.isLt)
  simp only [parseEvent, w0, w1, w2, w3, time, data, Nat.reduceMul]
  exact (Event.mk.injEq ..).mpr ⟨ofNat_of_mod cls, testBit_toNat summary, testBit_toNat relayed,
    ofNat_of_mod cause, ofNat_of_mod node, ofNat_of_mod reporter, ofNat_of_mod part, ofNat_of_mod count,
    ofNat_of_mod index, ofNat_of_mod (long _),
    ofNat_of_mod (long _)⟩

/-! #### Flits -/

theorem flitWord_fields {seq ack ftype abt slp rpl : Nat} (hseq : seq < 4096) (hack : ack < 4096) (hftype : ftype < 16)
    (habt : abt ≤ 1) (hslp : slp ≤ 1) (hrpl : rpl ≤ 1) :
    let w := (seq * 2 ^ 20 + ack * 2 ^ 8 + ftype * 2 ^ 4 + abt * 2 ^ 2 + slp * 2 ^ 1 + rpl * 2 ^ 0) % 256 ^ 4
    natField w 20 12 % 2 ^ 12 = seq ∧ natField w 8 12 % 2 ^ 12 = ack ∧ natField w 4 4 = ftype ∧
    w / 2 ^ 2 % 2 = abt ∧ w / 2 ^ 1 % 2 = slp ∧ w / 2 ^ 0 % 2 = rpl := by
  norm_num [natField]
  omega

/-- A flit up to its checksum (R255). -/
def flitBody (seq ack : BitVec 12) (ftype : Nat) (abt slp rpl : Bool) (payload : List Byte) : List Byte :=
  leBytes 4 (seq.toNat * 2 ^ 20 + ack.toNat * 2 ^ 8 + ftype * 2 ^ 4 + abt.toNat * 2 ^ 2 + slp.toNat * 2 ^ 1
    + rpl.toNat * 2 ^ 0) ++ fit 248 payload

theorem length_flitBody (seq ack : BitVec 12) (ftype : Nat) (abt slp rpl : Bool) (payload : List Byte) :
    (flitBody seq ack ftype abt slp rpl payload).length = 252 := by
  rw [flitBody, List.length_append, length_leBytes, length_fit]

theorem flitBytes_eq (seq ack : BitVec 12) (ftype : Nat) (abt slp rpl : Bool) (payload : List Byte) :
    flitBytes seq ack ftype abt slp rpl payload = flitBody seq ack ftype abt slp rpl payload
      ++ leBytes 4 (crc32c (flitBody seq ack ftype abt slp rpl payload)).toNat := by
  simp only [flitBytes, flitBody, flag_eq]

/-- Settles O11: the header word gives back its fields, the payload stands behind it, and the checksum behind both is of
what it follows. -/
theorem flitRoundTrip : Obligations.FlitRoundTrip := by
  intro seq ack ftype abt slp rpl payload cws hftype f
  have length := length_flitBody seq ack ftype abt slp rpl payload
  have bytes : f.bytes = _ := flitBytes_eq seq ack ftype abt slp rpl payload
  have word : f.word = (seq.toNat * 2 ^ 20 + ack.toNat * 2 ^ 8 + ftype * 2 ^ 4 + abt.toNat * 2 ^ 2 + slp.toNat * 2 ^ 1
      + rpl.toNat * 2 ^ 0) % 256 ^ 4 := by
    rw [RxFlit.word, bytes, flitBody, List.append_assoc, sliceNat_head]
  obtain ⟨hseq, hack, htype, habt, hslp, hrpl⟩ :=
    flitWord_fields seq.isLt ack.isLt hftype abt.toNat_le slp.toNat_le rpl.toNat_le
  refine ⟨?_, ?_, ?_, ?_, ?_, ?_, ?_, ?_, ?_⟩
  · rw [bytes, List.length_append, length, length_leBytes]
  · rw [RxFlit.seq, word]; exact ofNat_of_mod hseq
  · rw [RxFlit.ack, word]; exact ofNat_of_mod hack
  · rw [RxFlit.ftype, word]; exact htype
  · rw [RxFlit.abt, word]; exact testBit_toNat habt
  · rw [RxFlit.slp, word]; exact testBit_toNat hslp
  · rw [word]; exact testBit_toNat hrpl
  · rw [RxFlit.payload, bytes, slice_append_of_le _ (by omega), flitBody,
      slice_skip _ _ _ (Nat.le_of_eq (length_leBytes 4 _)), length_leBytes, Nat.sub_self, slice, List.drop_zero,
      List.take_of_length_le (Nat.le_of_eq (length_fit 248 _))]
  · rw [bytes]; exact crc_matches _ _ length

end Sys2Proof.Proofs

/-! ### Register fields, events and keys (R4, R5, R322, R331, R336, R389) -/

namespace Sys2Proof.Proofs

open Sys2Proof Sys2Proof.Machine Sys2Proof.Laws

/-! #### Field writes -/

/-- Bits taken away one by one. -/
theorem testBit_sub_and (o x i : Nat) : (o - (o &&& x)).testBit i = (o.testBit i && !x.testBit i) := by
  induction i generalizing o x with
  | zero =>
    have le : o &&& x ≤ o := Nat.and_le_left
    have bit : (o &&& x).testBit 0 = (o.testBit 0 && x.testBit 0) := Nat.testBit_and o x 0
    simp only [Nat.testBit_zero, ← Bool.decide_and, ← decide_not, decide_eq_decide] at bit ⊢
    omega
  | succ i ih =>
    have half : (o - (o &&& x)) / 2 = o / 2 - (o / 2 &&& x / 2) := by
      have low : (o &&& x).testBit 0 = (o.testBit 0 && x.testBit 0) := Nat.testBit_and o x 0
      have le : o &&& x ≤ o := Nat.and_le_left
      simp only [Nat.testBit_zero, ← Bool.decide_and, decide_eq_decide] at low
      rw [← Nat.and_div_two]
      omega
    rw [Nat.testBit_succ, half, ih, Nat.testBit_succ, Nat.testBit_succ]

/-- Settles O24. -/
theorem fieldWrites : Obligations.FieldWrites := by
  intro f old new first o x r
  refine ⟨?_, ?_, ?_, ?_, ?_, ?_⟩
  · intro takes range
    have put : writeField f old new first =
        if x < f.min then (f.min, true) else if f.max < x then (f.max, true) else (x, false) := by
      rcases takes with acc | ⟨acc, rfl⟩
      · simp only [writeField, acc]; rfl
      · simp only [writeField, acc, if_true]; rfl
    simp only [r, put]
    split_ifs with below above
    · exact ⟨le_rfl, range, fun h => absurd below (by omega), fun _ => rfl, fun h => absurd below (by omega)⟩
    · exact ⟨range, le_rfl, fun _ h => absurd above (by omega), fun h => absurd h below, fun _ => rfl⟩
    · exact ⟨by omega, by omega, fun _ _ => rfl, fun h => absurd h below, fun h => absurd h above⟩
  · intro acc; simp only [writeField, acc]; rfl
  · intro acc again; simp only [writeField, acc, again]; rfl
  · intro acc i
    have stored : r = o - (o &&& x) := by simp only [r, writeField, acc]; rfl
    rw [stored, testBit_sub_and]
  · intro acc i
    have stored : r = o ||| x := by simp only [r, writeField, acc]; rfl
    rw [stored, Nat.testBit_or]
  · intro acc; simp only [r, writeField, acc]

/-! #### Partitions -/

theorem mem_of_lookupIn {α : Type} {l : List (Nat × α)} {k : Nat} {v : α} (h : lookupIn l k = some v) :
    (k, v) ∈ l := by
  induction l with
  | nil => cases h
  | cons e l ih =>
    rw [lookupIn] at h
    split_ifs at h with here
    · cases h; cases here; exact List.mem_cons_self
    · exact List.mem_cons_of_mem _ (ih h)

theorem mem_of_find {α : Type} {t : Tbl α} {k : Nat} {v : α} (h : t.find k = some v) : (k, v) ∈ t.entries :=
  mem_of_lookupIn h

/-- A partition that is not FREE is held in the table. -/
theorem partOf_mem {s : State} {q : Nat} (live : (partOf s q).state ≠ .free) :
    (q, partOf s q) ∈ s.sec.parts.entries := by
  cases found : s.sec.parts.find q with
  | none => rw [partOf, Tbl.get, found] at live; exact absurd rfl live
  | some v =>
    have : partOf s q = v := by rw [partOf, Tbl.get, found]; rfl
    rw [this]
    exact mem_of_find found

theorem keyFree_holders {s : State} {p : Nat} {k : PKey} (h : keyFree s p k = true) {q : Nat} (hq : q ≠ p)
    (live : (partOf s q).state ≠ .free) : (partOf s q).key ≠ k := by
  simp only [keyFree, Bool.and_eq_true, List.all_eq_true, Bool.or_eq_true, beq_iff_eq, bne_iff_ne] at h
  obtain ⟨-, holders⟩ := h
  rcases holders _ (partOf_mem live) with (same | free) | other
  · exact absurd same hq
  · exact absurd free live
  · exact other

/-- Settles O23: an ENABLE moves one partition only, and to a key that no other one holds. -/
theorem enableSharesNoKey : Obligations.EnableSharesNoKey := by
  intro p s distinct
  rcases partEnable_cases p s with ⟨k, -, -, fresh, enabled⟩ | overrun
  · rw [enabled]
    intro q r ne liveq liver
    by_cases hq : q = p
    · subst hq
      rw [partOf_modPart_ne _ _ _ _ (Ne.symm ne)] at liver ⊢
      rw [partOf_modPart_same]
      exact (keyFree_holders fresh (Ne.symm ne) liver).symm
    · rw [partOf_modPart_ne _ _ _ _ hq] at liveq ⊢
      by_cases hr : r = p
      · subst hr
        rw [partOf_modPart_same]
        exact keyFree_holders fresh hq liveq
      · rw [partOf_modPart_ne _ _ _ _ hr] at liver ⊢
        exact distinct q r ne liveq liver
  · rw [overrun]; exact distinct

/-! #### Events -/

theorem captureEvent_frame (e : Event) (s : State) : ∃ regs, captureEvent e s = { s with regs := regs } := by
  unfold captureEvent
  dsimp only
  split_ifs
  · exact ⟨_, rfl⟩
  · exact ⟨_, rfl⟩

/-- An event goes to registers and to the core's queue (R387). -/
theorem postEvent_frame (cause : Nat) (node : NodeId) (part index data : Nat) (s : State) :
    ∃ regs evq, postEvent cause node part index data s = { s with regs := regs, evq := evq } := by
  obtain ⟨regs, captured⟩ := captureEvent_frame (makeEvent s cause node part index data) s
  rcases postEvent_cases cause node part index data s with same | ⟨-, posted | lost⟩
  · exact ⟨s.regs, s.evq, same⟩
  · rw [captured] at posted; exact ⟨_, _, posted⟩
  · rw [captured] at lost; exact ⟨_, _, lost⟩

section
variable (cause : Nat) (node : NodeId) (part index data : Nat) (s : State)

@[simp] theorem postEvent_sec : (postEvent cause node part index data s).sec = s.sec := by
  obtain ⟨regs, evq, h⟩ := postEvent_frame cause node part index data s; rw [h]

@[simp] theorem postEvent_txn : (postEvent cause node part index data s).txn = s.txn := by
  obtain ⟨regs, evq, h⟩ := postEvent_frame cause node part index data s; rw [h]

@[simp] theorem postEvent_mem : (postEvent cause node part index data s).mem = s.mem := by
  obtain ⟨regs, evq, h⟩ := postEvent_frame cause node part index data s; rw [h]

@[simp] theorem postEvent_rst : (postEvent cause node part index data s).rst = s.rst := by
  obtain ⟨regs, evq, h⟩ := postEvent_frame cause node part index data s; rw [h]

@[simp] theorem postEvent_links : (postEvent cause node part index data s).links = s.links := by
  obtain ⟨regs, evq, h⟩ := postEvent_frame cause node part index data s; rw [h]

@[simp] theorem postEvent_qe : (postEvent cause node part index data s).qe = s.qe := by
  obtain ⟨regs, evq, h⟩ := postEvent_frame cause node part index data s; rw [h]

@[simp] theorem postEvent_keeper : (postEvent cause node part index data s).keeper = s.keeper := by
  obtain ⟨regs, evq, h⟩ := postEvent_frame cause node part index data s; rw [h]

end

/-! #### Sealed channels -/

theorem chanOf_setChan_same (c : Nat) (v : Chan) (s : State) : chanOf (setChan c v s) c = v := get_set_same _ _ _ _

/-- What a channel keeps of a counter once it has accepted it: it is in the window, or the window has passed it. -/
def Barred (c : Chan) (n : Nat) : Prop := ∃ h, c.rxHigh = some h ∧ (c.rxSeen.contains n = true ∨ n + 4096 ≤ h)

theorem barred_accept (c : Chan) (n : Nat) : Barred (c.accept n) n :=
  ⟨_, rfl, .inl (by simp [Chan.accept])⟩

/-- R336: what is barred stays barred. -/
theorem Barred.accept {c : Chan} {n : Nat} (h : Barred c n) (m : Nat) : Barred (c.accept m) n := by
  obtain ⟨high, held, seen⟩ := h
  refine ⟨max m high, by rw [Chan.accept, held]; rfl, ?_⟩
  by_cases passed : n + 4096 ≤ max m high
  · exact .inr passed
  · have inWindow : n ∈ c.rxSeen := by
      rcases seen with seen | old
      · exact List.contains_iff_mem.mp seen
      · exact absurd (le_trans old (le_max_right _ _)) passed
    refine .inl (List.contains_iff_mem.mpr ?_)
    simp only [Chan.accept, held, Option.getD_some]
    exact List.mem_cons_of_mem _ (List.mem_filter.mpr ⟨inWindow, by simpa using passed⟩)

/-- The counter that a packet's trailer carries. -/
def sealCtr (p : Packet) : Nat := (p.trailer.getD ⟨0, []⟩).ctr.toNat

theorem sealCtr_eq (p : Packet) (tag : List Byte) : (p.trailer.getD ⟨0, tag⟩).ctr.toNat = sealCtr p := by
  rw [sealCtr]
  cases p.trailer <;> rfl

/-- A packet under a counter that its channel has barred is dropped. -/
theorem openPacket_barred {p : Packet} {s : State} (h : Barred (chanOf s p.chan.toNat) (sealCtr p)) :
    (openPacket p s).1 = none := by
  obtain ⟨high, held, seen⟩ := h
  have refused : ∃ cause, openCheck s p = .inl cause := by
    unfold openCheck
    dsimp only
    rw [sealCtr_eq]
    split_ifs
    · exact ⟨_, rfl⟩
    · exact ⟨_, rfl⟩
    · exact ⟨_, rfl⟩
    · split
      · exact ⟨_, rfl⟩
      · rw [held]
        dsimp only
        rw [if_pos (by simpa using seen)]
        exact ⟨_, rfl⟩
  obtain ⟨cause, refused⟩ := refused
  rw [openPacket, refused]

theorem openPacket_accepts {p q : Packet} {s t : State} (h : openPacket p s = (some q, t)) :
    t = setChan p.chan.toNat ((chanOf s p.chan.toNat).accept (sealCtr p)) s := by
  unfold openPacket at h
  split at h
  · cases h
  · cases h; rfl

/-- Settles O21: accepting a counter bars it, no later acceptance lifts the bar, and a barred counter is refused. -/
theorem noSealCounterTwice : Obligations.NoSealCounterTwice := by
  refine ⟨fun p q s t opened => ?_, fun c n m h held seen => ?_⟩
  · rw [openPacket_accepts opened]
    refine openPacket_barred ?_
    rw [chanOf_setChan_same]
    exact barred_accept _ _
  · exact Barred.accept ⟨h, held, seen⟩ m

theorem sealPacket_sends {p q : Packet} {s t : State} (h : sealPacket p s = (some q, t)) :
    (chanOf s p.chan.toNat).state = .opened ∧
    q.trailer.map (·.ctr) = some (BitVec.ofNat 64 (chanOf s p.chan.toNat).sendCtr) ∧
    chanOf t p.chan.toNat = { chanOf s p.chan.toNat with
      sendCtr := (chanOf s p.chan.toNat).sendCtr + 1
      state := if (chanOf s p.chan.toNat).sendCtr + 1 == 2 ^ 60 then .exhausted else .opened } := by
  unfold sealPacket at h
  dsimp only at h
  by_cases unopened : (chanOf s p.chan.toNat).state = .opened
  case neg => rw [if_pos (by simpa using unopened)] at h; cases h
  case pos =>
    rw [if_neg (by simpa using unopened)] at h
    cases h
    refine ⟨unopened, rfl, ?_⟩
    split_ifs
    · rw [chanOf, postEvent_sec]
      exact get_set_same _ _ _ _
    · exact get_set_same _ _ _ _

theorem sealPacket_unopened {p : Packet} {s : State} (h : (chanOf s p.chan.toNat).state ≠ .opened) :
    (sealPacket p s).1 = none := by
  rw [sealPacket, if_pos (by simpa using h)]

/-- Settles O22: the channel's next state, with its counter one higher, refuses where it is EXHAUSTED. -/
theorem sendCounterAdvances : Obligations.SendCounterAdvances := by
  intro p q s t sent
  obtain ⟨opened, ctr, next⟩ := sealPacket_sends sent
  refine ⟨opened, ctr, by rw [next], ?_, fun exhausted => sealPacket_unopened (by rw [exhausted]; decide)⟩
  rw [next]
  by_cases full : (chanOf s p.chan.toNat).sendCtr + 1 = 2 ^ 60 <;> simp [full]

/-! #### The event ring -/

theorem reg_setFld_ne {a b : Nat} (lo w x : Nat) (s : State) (h : b ≠ a) : reg (setFld a lo w x s) b = reg s b :=
  reg_setReg_ne _ _ _ _ h

theorem reg_raise_ne {a b : Nat} (i : Nat) (s : State) (h : b ≠ a) : reg (raise a i s) b = reg s b :=
  reg_setReg_ne _ _ _ _ h

theorem reg_bump_same (a : Nat) (s : State) : reg (bump a s) a = BitVec.ofNat 64 ((fld s a 0 32 + 1) % 2 ^ 32) :=
  reg_setReg_same _ _ _

/-- The entries that may stand in the ring before one of its class (R389). -/
def ringLimit (e : Event) : Nat := if e.cls = 3 then 4096 else 4080

theorem writeEntry_full {e : Event} {s : State} (h : ringLimit e ≤ ringHeld s) :
    writeEntry e s = (false, modKeeper (fun k => { k with lostNote := true })
      (raise Reg.MGT_EVT_STATUS 1 (bump Reg.MGT_EVT_LOST s))) := if_pos h

theorem writeEntry_room {e : Event} {s : State} (h : ¬ringLimit e ≤ ringHeld s) : (writeEntry e s).1 = true := by
  rw [writeEntry, if_neg (by exact h)]

/-- Settles O25: the entry is written exactly where the ring stands below its limit, and is else a loss. -/
theorem ringKeepsRoomForFatal : Obligations.RingKeepsRoomForFatal := by
  intro e s
  change ((writeEntry e s).1 = true ↔ ringHeld s < ringLimit e) ∧ _
  by_cases full : ringLimit e ≤ ringHeld s
  · rw [writeEntry_full full]
    refine ⟨⟨fun h => (by cases h), fun h => absurd full (not_le.mpr h)⟩, fun _ => ⟨rfl, rfl, ?_, ?_⟩⟩
    · exact (reg_raise_ne 1 _ (by decide)).trans (reg_bump_same _ s)
    · exact bit_raise_same _ (by decide) _
  · have entered := writeEntry_room full
    exact ⟨⟨fun _ => not_le.mp full, fun _ => entered⟩,
      fun lost => absurd (lost.symm.trans entered) (by decide)⟩

end Sys2Proof.Proofs

/-! ### Memory requests, completion rings and record sets (R62, R97, R412) -/

namespace Sys2Proof.Proofs

open Sys2Proof Sys2Proof.Machine Sys2Proof.Laws

/-! #### The requests of an access -/

/-- What the cut of an access leaves: its bytes in order, each piece nonempty and within one aligned block of 256 B. -/
theorem extents_cover (fuel pa len : Nat) (h : len = 0 ∨ len + pa % 256 ≤ 256 * fuel) :
    (extents fuel pa len).flatMap (fun c => List.range' c.1 c.2) = List.range' pa len ∧
    ∀ c ∈ extents fuel pa len, 0 < c.2 ∧ c.1 / 256 = (c.1 + c.2 - 1) / 256 := by
  induction fuel generalizing pa len with
  | zero =>
    obtain rfl : len = 0 := by omega
    exact ⟨rfl, fun c hc => by cases hc⟩
  | succ fuel ih =>
    rw [extents]
    split_ifs with empty
    · subst empty; exact ⟨rfl, fun c hc => by cases hc⟩
    · dsimp only
      generalize piece : min len (256 - pa % 256) = n
      obtain ⟨covered, within⟩ := ih (pa + n) (len - n) (by omega)
      constructor
      · rw [List.flatMap_cons, covered, List.range'_append_1]
        congr 1; omega
      · intro c hc
        rcases List.mem_cons.mp hc with rfl | later
        · constructor <;> dsimp only <;> omega
        · exact within c later

theorem linesOf_le_four {pa len : Nat} (h : pa / 256 = (pa + len - 1) / 256) : linesOf pa len ≤ 4 := by
  rw [linesOf]
  split_ifs <;> omega

/-- Settles O17: each piece ends at the next multiple of 256, so enough of them cover the access. -/
theorem requestsCoverTheAccess : Obligations.RequestsCoverTheAccess := by
  intro pa len
  obtain ⟨covered, within⟩ := extents_cover (len / 256 + 2) pa len (by omega)
  refine ⟨covered, fun c hc => ?_⟩
  obtain ⟨nonempty, block⟩ := within c hc
  exact ⟨nonempty, block, linesOf_le_four block⟩

/-- A piece that stays within one block is one request. -/
theorem cutExtent_single {pa len : Nat} (pos : 0 < len) (fits : pa % 256 + len ≤ 256) :
    cutExtent pa len = [(pa, len)] := by
  have whole : min len (256 - pa % 256) = len := by omega
  change extents (len / 256 + 1 + 1) pa len = _
  rw [extents, if_neg (by omega), whole]
  dsimp only
  rw [extents, Nat.sub_self, if_pos rfl]

/-! #### Completion rings -/

theorem fld_setReg_same (a : Nat) (v : BitVec 64) (lo w : Nat) (s : State) :
    fld (setReg a v s) a lo w = natField v.toNat lo w := by
  rw [fld, reg_setReg_same]

theorem fld_raise_ne {a b : Nat} (i lo w : Nat) (s : State) (h : b ≠ a) : fld (raise a i s) b lo w = fld s b lo w := by
  rw [fld, reg_raise_ne _ _ h, fld]

theorem natField_lt (v lo w : Nat) : natField v lo w < 2 ^ w := Nat.mod_lt _ (Nat.two_pow_pos w)

/-- A tail below 2^16 and a phase in one register. -/
theorem tailWord_fields {tail phase : Nat} (htail : tail < 65536) (hphase : phase < 2) :
    natField (BitVec.ofNat 64 (tail + 2 ^ 16 * phase)).toNat 0 16 = tail ∧
    natField (BitVec.ofNat 64 (tail + 2 ^ 16 * phase)).toNat 16 1 = phase := by
  rw [BitVec.toNat_ofNat]
  norm_num [natField]
  omega

/-- The address of the record that is written next (R92, R97). -/
def recordPa (s : State) (q : Nat) : Nat := fld s (Reg.Q_CR_BASE q) 12 36 * 4096 + 32 * fld s (Reg.Q_CR_TAIL q) 0 16

/-- The record with the phase in the top bit of its first word (R97). -/
def recordBytes (s : State) (q word0 : Nat) (rest : List Byte) : List Byte :=
  leBytes 4 (word0 % 2 ^ 31 + fld s (Reg.Q_CR_TAIL q) 16 1 * 2 ^ 31) ++ fit 28 rest

theorem length_recordBytes (s : State) (q word0 : Nat) (rest : List Byte) :
    (recordBytes s q word0 rest).length = 32 := by
  rw [recordBytes, List.length_append, length_leBytes, length_fit]

/-- The slot that follows the tail, and its phase (R97). -/
def nextTail (s : State) (q : Nat) : Nat := (fld s (Reg.Q_CR_TAIL q) 0 16 + 1) % crSize s q

def nextPhase (s : State) (q : Nat) : Nat :=
  if nextTail s q = 0 then 1 - fld s (Reg.Q_CR_TAIL q) 16 1 else fld s (Reg.Q_CR_TAIL q) 16 1

theorem nextPhase_lt (s : State) (q : Nat) : nextPhase s q < 2 := by
  have : fld s (Reg.Q_CR_TAIL q) 16 1 < 2 ^ 1 := natField_lt _ _ _
  unfold nextPhase
  split_ifs <;> omega

/-- The write of one record (R97). -/
def writeRecord1 (q word0 : Nat) (rest : List Byte) (s : State) : State :=
  writeMem (.record q) [⟨recordPa s q, 0, allBytes (clean (recordBytes s q word0 rest))⟩] false none s

theorem pushRecord_eq (q word0 : Nat) (rest : List Byte) (irq : Bool) (s : State) :
    pushRecord q word0 rest irq s =
      let t := setReg (Reg.Q_CR_TAIL q) (BitVec.ofNat 64 (nextTail s q + 2 ^ 16 * nextPhase s q))
        (writeRecord1 q word0 rest s)
      if irq then raise (Reg.Q_STATUS q) 3 t else t := rfl

/-- A record is one request of one line. -/
theorem writeReqs_record (s : State) (q job word0 : Nat) (rest : List Byte) :
    writeReqs job false [⟨recordPa s q, 0, allBytes (clean (recordBytes s q word0 rest))⟩] = [{
      port := portOf (recordPa s q), id := 0, write := true, line := recordPa s q / 64, nline := 1, mattr := 0,
      lock := false, job := job, idx := 0, walk := false,
      data := List.replicate (recordPa s q % 64) none ++ allBytes (clean (recordBytes s q word0 rest)),
      drop := false }] := by
  have len : (allBytes (clean (recordBytes s q word0 rest))).length = 32 := by
    rw [allBytes, clean, List.length_map, List.length_map, length_recordBytes]
  have fits : recordPa s q % 256 + 32 ≤ 256 ∧ recordPa s q % 64 + 32 ≤ 64 := by
    rw [recordPa]; omega
  have oneLine : linesOf (recordPa s q) 32 = 1 := by
    rw [linesOf, if_neg (by decide)]
    omega
  rw [writeReqs, List.flatMap_cons, len, cutExtent_single (by decide) fits.1]
  simp only [List.map_cons, List.map_nil, List.flatMap_nil, List.append_nil, oneLine, Nat.sub_self, List.drop_zero]
  rw [List.take_of_length_le (by omega)]

/-- Settles O26: the record is one request of one line, and its tail and phase fit their fields. -/
theorem completionTailAndPhase : Obligations.CompletionTailAndPhase := by
  intro q word0 rest irq s size pos tail phase pa bytes t
  have inRing : nextTail s q < 65536 := lt_of_lt_of_le (Nat.mod_lt _ pos) size
  obtain ⟨hTail, hPhase⟩ := tailWord_fields inRing (nextPhase_lt s q)
  have statusOther : Reg.Q_CR_TAIL q ≠ Reg.Q_STATUS q := by rw [Reg.Q_CR_TAIL, Reg.Q_STATUS]; omega
  have tailField (lo w : Nat) : fld t (Reg.Q_CR_TAIL q) lo w =
      natField (BitVec.ofNat 64 (nextTail s q + 2 ^ 16 * nextPhase s q)).toNat lo w := by
    simp only [t, pushRecord_eq]
    split_ifs
    · rw [fld_raise_ne _ _ _ _ statusOther, fld_setReg_same]
    · rw [fld_setReg_same]
  have mem : t.mem = (writeRecord1 q word0 rest s).mem := by
    simp only [t, pushRecord_eq]
    split_ifs <;> rfl
  have reqs := writeReqs_record s q s.mem.jobNo word0 rest
  refine ⟨(tailField 0 16).trans hTail, (tailField 16 1).trans hPhase, length_recordBytes s q word0 rest, ?_, ?_, ?_⟩
  · rw [mem]
    exact congrArg (s.mem.queue ++ ·) reqs
  · rw [mem]
    refine (find_set_same _ _ _).trans ?_
    rw [reqs]
    rfl
  · rw [mem]; rfl

/-! #### Record sets -/

/-- Two records that merge (R62). -/
def Meets (r x : LackRec) : Prop := x.status = stOK ∧ r.status = stOK ∧ x.tag = r.tag ∧ x.elem = r.elem

theorem mergeRec_cons_of_meets {r x : LackRec} (l : List LackRec) (h : Meets r x) :
    mergeRec r (x :: l) = { x with lines := x.lines + r.lines } :: l := by
  obtain ⟨okx, okr, tag, elem⟩ := h
  rw [mergeRec, if_pos (by simp [okx, okr, tag, elem])]

theorem mergeRec_cons_of_not_meets {r x : LackRec} (l : List LackRec) (h : ¬Meets r x) :
    mergeRec r (x :: l) = x :: mergeRec r l := by
  rw [mergeRec, if_neg (by simpa [Meets, and_assoc] using h)]

theorem mergeRec_of_none_meets {r : LackRec} {l : List LackRec} (h : ∀ x ∈ l, ¬Meets r x) :
    mergeRec r l = l ++ [r] := by
  induction l with
  | nil => rfl
  | cons x l ih =>
    rw [mergeRec_cons_of_not_meets l (h x List.mem_cons_self), ih fun y hy => h y (List.mem_cons_of_mem _ hy),
      List.cons_append]

theorem mergeRec_of_first_meets {r x : LackRec} {a : List LackRec} (b : List LackRec) (before : ∀ y ∈ a, ¬Meets r y)
    (h : Meets r x) : mergeRec r (a ++ x :: b) = a ++ { x with lines := x.lines + r.lines } :: b := by
  induction a with
  | nil => exact mergeRec_cons_of_meets b h
  | cons y a ih =>
    rw [List.cons_append, mergeRec_cons_of_not_meets _ (before y List.mem_cons_self),
      ih fun z hz => before z (List.mem_cons_of_mem _ hz), List.cons_append]

/-- The lines that one record adds to the OK lines of a tag and an element. -/
def okPart (t : Tag) (e : BitVec 4) (r : LackRec) : Word :=
  if r.status = stOK ∧ r.tag = t ∧ r.elem = e then r.lines else 0

/-- The OK lines of one tag and element in a set. -/
def okLines (t : Tag) (e : BitVec 4) (l : List LackRec) : Word :=
  (l.filter fun x => x.status == stOK && x.tag == t && x.elem == e).foldl (fun n x => n + x.lines) 0

theorem foldl_lines (l : List LackRec) (n : Word) :
    l.foldl (fun n x => n + x.lines) n = n + l.foldl (fun n x => n + x.lines) 0 := by
  induction l generalizing n with
  | nil => simp
  | cons x l ih => rw [List.foldl_cons, List.foldl_cons, ih (n + x.lines), ih (0 + x.lines), zero_add, add_assoc]

theorem okLines_cons (t : Tag) (e : BitVec 4) (x : LackRec) (l : List LackRec) :
    okLines t e (x :: l) = okPart t e x + okLines t e l := by
  rw [okLines, okPart, okLines, List.filter_cons]
  by_cases h : x.status = stOK ∧ x.tag = t ∧ x.elem = e
  · rw [if_pos (by simp [h]), if_pos h, List.foldl_cons, foldl_lines, zero_add]
  · rw [if_neg (by simpa [and_assoc] using h), if_neg h, zero_add]

/-- A merge adds the new record's part, whether it joins another record or stands alone. -/
theorem okLines_mergeRec (t : Tag) (e : BitVec 4) (r : LackRec) (l : List LackRec) :
    okLines t e (mergeRec r l) = okLines t e l + okPart t e r := by
  induction l with
  | nil => rw [mergeRec, okLines_cons, add_comm]
  | cons x l ih =>
    by_cases h : Meets r x
    · rw [mergeRec_cons_of_meets l h, okLines_cons, okLines_cons, add_right_comm]
      obtain ⟨okx, okr, tag, elem⟩ := h
      congr 1
      simp only [okPart, okx, okr, tag, elem, true_and]
      split_ifs <;> simp
    · rw [mergeRec_cons_of_not_meets l h, okLines_cons, okLines_cons, ih, add_assoc]

/-- Settles O15: the new record joins the first one that it meets, or the end of the set. -/
theorem recordsMerge : Obligations.RecordsMerge := fun r l =>
  ⟨mergeRec_of_none_meets,
    fun _ b _ split before h => split ▸ mergeRec_of_first_meets b before h,
    fun t e => okLines_mergeRec t e r l⟩

/-- A set is named by its node, its key and its class. -/
def OfPacket (p : Packet) (x : RecSet) : Prop := x.node = p.src ∧ x.pkey = p.pkey ∧ x.vc7 = (p.vc == 7)

theorem findSet_ofPacket (s : State) (p : Packet) : OfPacket p (findSet s p) := by
  rw [findSet]
  cases found : s.txn.sets.find? fun x => x.node == p.src && x.pkey == p.pkey && x.vc7 == (p.vc == 7) with
  | none => exact ⟨rfl, rfl, rfl⟩
  | some x =>
    have same := List.find?_some found
    simp only [Bool.and_eq_true, beq_iff_eq] at same
    exact ⟨same.1.1, same.1.2, same.2⟩

theorem same_iff {r x : RecSet} {p : Packet} (hr : OfPacket p r) : r.same x = true ↔ OfPacket p x := by
  obtain ⟨node, pkey, vc7⟩ := hr
  simp only [RecSet.same, OfPacket, Bool.and_eq_true, beq_iff_eq, node, pkey, vc7, and_assoc]

/-- The set of a packet as `updateSet` leaves it before it may go out. -/
def grownSet (p : Packet) (recs : List LackRec → List LackRec) (landed : Bool) (s : State) : RecSet :=
  { findSet s p with recs := recs (findSet s p).recs, landed := (findSet s p).landed + (if landed then 1 else 0) }

theorem grownSet_ofPacket (p : Packet) (recs : List LackRec → List LackRec) (landed : Bool) (s : State) :
    OfPacket p (grownSet p recs landed s) := findSet_ofPacket s p

/-- A set that is full, or a packet that flushes it, sends it. -/
theorem updateSet_eq (p : Packet) (recs : List LackRec → List LackRec) (landed now : Bool) (s : State) :
    updateSet p recs landed now s =
      if now || 64 ≤ (grownSet p recs landed s).landed || 64 ≤ (grownSet p recs landed s).recs.length then
        sendSet (grownSet p recs landed s) (putSet (grownSet p recs landed s) s)
      else putSet (grownSet p recs landed s) s := rfl

theorem sets_putSet (r : RecSet) (s : State) :
    (putSet r s).txn.sets = (s.txn.sets.filter fun x => !r.same x) ++ [r] := rfl

theorem sets_sendSet (r : RecSet) (s : State) :
    (sendSet r s).txn.sets = if r.recs.isEmpty then s.txn.sets else s.txn.sets.filter fun x => !r.same x := by
  unfold sendSet
  split_ifs <;> rfl

theorem mem_sets_putSet {x r : RecSet} {s : State} (h : x ∈ (putSet r s).txn.sets) :
    (x ∈ s.txn.sets ∧ r.same x = false) ∨ x = r := by
  rw [sets_putSet] at h
  simpa using h

theorem mem_sets_sendSet {x r : RecSet} {s : State} (h : x ∈ (sendSet r s).txn.sets) :
    x ∈ s.txn.sets ∧ (r.recs = [] ∨ r.same x = false) := by
  rw [sets_sendSet] at h
  split_ifs at h with none
  · exact ⟨h, .inl (List.isEmpty_iff.mp none)⟩
  · simpa using And.imp_right Or.inr (List.mem_filter.mp h)

theorem same_self (r : RecSet) : r.same r = true := by simp [RecSet.same]

/-- What an update leaves: the sets of the others, and the packet's own, unless that went out. -/
theorem mem_sets_updateSet {p : Packet} {recs : List LackRec → List LackRec} {landed now : Bool} {s : State}
    {x : RecSet}
    (h : x ∈ (updateSet p recs landed now s).txn.sets) :
    (x ∈ s.txn.sets ∧ ¬OfPacket p x) ∨
    (x = grownSet p recs landed s ∧ (x.recs = [] ∨ (now = false ∧ x.landed < 64 ∧ x.recs.length < 64))) := by
  have own := grownSet_ofPacket p recs landed s
  have placed (h : x ∈ (putSet (grownSet p recs landed s) s).txn.sets) :
      (x ∈ s.txn.sets ∧ ¬OfPacket p x) ∨ x = grownSet p recs landed s :=
    (mem_sets_putSet h).imp_left (And.imp_right fun other same => by
      rw [(same_iff own).mpr same] at other; cases other)
  rw [updateSet_eq] at h
  split_ifs at h with full
  · obtain ⟨h, sent⟩ := mem_sets_sendSet h
    refine (placed h).imp_right fun eq => ⟨eq, .inl (sent.elim (eq ▸ ·) fun other => ?_)⟩
    rw [eq, same_self] at other
    cases other
  · simp only [Bool.or_eq_true, decide_eq_true_eq, not_or, not_le, Bool.not_eq_true] at full
    exact (placed h).imp_right fun eq => ⟨eq, .inr (eq ▸ ⟨full.1.1, full.1.2, full.2⟩)⟩

theorem setsOpen_updateSet {s : State} (h : SetsOpen s) (p : Packet) (recs : List LackRec → List LackRec)
    (landed now : Bool) : SetsOpen (updateSet p recs landed now s) := by
  intro x hx
  rcases mem_sets_updateSet hx with ⟨old, -⟩ | ⟨-, none | ⟨-, room, short⟩⟩
  · exact h x old
  · exact ⟨fun some => absurd none some, by simp [none]⟩
  · exact ⟨fun _ => room, short⟩

/-- A set that flushes holds no record afterwards. -/
theorem flushed_updateSet {p : Packet} {recs : List LackRec → List LackRec} {landed : Bool} {s : State} {x : RecSet}
    (hx : x ∈ (updateSet p recs landed true s).txn.sets) (own : OfPacket p x) : x.recs = [] := by
  rcases mem_sets_updateSet hx with ⟨-, other⟩ | ⟨-, none | ⟨still, -⟩⟩
  · exact absurd own other
  · exact none
  · cases still

/-- The answer to a write is an update of its packet's set in a state with the same sets. -/
theorem answerWrite_updates (p : Packet) (status : Byte) (old : List Byte) (poison landed now : Bool) (s : State) :
    ∃ recs u, answerWrite p status old poison landed now s = updateSet p recs landed now u ∧
    u.txn.sets = s.txn.sets := by
  rw [answerWrite]
  split_ifs
  · exact ⟨_, sendAtomr p status old poison s, rfl, rfl⟩
  · exact ⟨_, s, rfl, rfl⟩

/-- Settles O16: each of the four is an update of one set, which goes out once it is full and holds a record. -/
theorem recordSetsStayOpen : Obligations.RecordSetsStayOpen := by
  intro p status lines old poison landed now s sound
  obtain ⟨recs, u, answer, sets⟩ := answerWrite_updates p status old poison landed now s
  refine ⟨setsOpen_updateSet sound p _ _ _, ?_, setsOpen_updateSet sound p _ _ _, ?_⟩
  · rw [answer]
    exact setsOpen_updateSet (show SetsOpen u from fun x hx => sound x (sets ▸ hx)) p _ _ _
  · rintro rfl x hx node pkey vc7
    rw [answer] at hx
    exact flushed_updateSet hx ⟨node, pkey, vc7⟩

end Sys2Proof.Proofs

/-! ### Landing windows and held writes (R38 to R45, R74) -/

namespace Sys2Proof.Proofs

open Sys2Proof Sys2Proof.Machine Sys2Proof.Laws

/-! #### The classes of a write -/

theorem toNat_sub_add (c n e : BitVec 32) :
    (e - (c + n)).toNat = (e.toNat + 2 ^ 32 - (c.toNat + n.toNat) % 2 ^ 32) % 2 ^ 32 := by
  rw [BitVec.toNat_sub, BitVec.toNat_add]
  omega

/-- The ranges of the three classes exclude each other and leave no distance out. -/
theorem classOfDist_iff (d : Nat) :
    (classOfDist d = .reached ↔ d = 0 ∨ 0xC0000000 ≤ d) ∧
    (classOfDist d = .pending ↔ 1 ≤ d ∧ d ≤ 0x80000000) ∧
    (classOfDist d = .fault ↔ 0x80000001 ≤ d ∧ d < 0xC0000000) := by
  unfold classOfDist
  split_ifs with reached pending <;> simp only [Bool.or_eq_true, decide_eq_true_eq] at reached <;> simp <;> omega

/-- Settles O12: the class depends on the distance alone. -/
theorem windowClasses : Obligations.WindowClasses := by
  intro c n e d
  have dist : classify c.toNat n.toNat e.toNat = classOfDist d.toNat := by rw [classify, ← toNat_sub_add]
  obtain ⟨reached, pending, fault⟩ := classOfDist_iff d.toNat
  rw [dist, reached, pending, fault]
  have zero : d = 0 ↔ d.toNat = 0 := BitVec.toNat_inj.symm
  rw [zero]
  simp only [BitVec.le_def, BitVec.toNat_ofNat, Nat.reducePow, Nat.reduceMod, true_and]
  omega

/-- Lines that are counted before a write is classified count like its own. -/
theorem classify_counted (c n e : Nat) : classify ((c + n) % 2 ^ 32) 0 e = classify c n e := by
  rw [classify, classify, Nat.add_zero, Nat.mod_mod]

/-! #### A stable sort -/

section Sorting

variable {α : Type} {key : α → Nat} {a : α} {l : List α}

theorem perm_insertBy (key : α → Nat) (a : α) (l : List α) : (insertBy key a l).Perm (a :: l) := by
  induction l with
  | nil => exact .refl _
  | cons b l ih =>
    rw [insertBy]
    split_ifs
    · exact .refl _
    · exact (ih.cons b).trans (.swap a b l)

/-- A list in ascending order of a key. -/
def SortedBy (key : α → Nat) (l : List α) : Prop := l.Pairwise fun a b => key a ≤ key b

theorem sortedBy_insertBy (h : SortedBy key l) : SortedBy key (insertBy key a l) := by
  induction l with
  | nil => exact List.pairwise_singleton _ _
  | cons b l ih =>
    obtain ⟨least, sorted⟩ := List.pairwise_cons.mp h
    rw [insertBy]
    split_ifs with less
    · refine List.pairwise_cons.mpr ⟨fun x hx => ?_, h⟩
      rcases List.mem_cons.mp hx with rfl | later
      · exact less.le
      · exact less.le.trans (least x later)
    · refine List.pairwise_cons.mpr ⟨fun x hx => ?_, ih sorted⟩
      rcases List.mem_cons.mp ((perm_insertBy key a l).mem_iff.mp hx) with rfl | later
      · exact not_lt.mp less
      · exact least x later

/-- An inserted element comes behind those of its own key. -/
theorem filter_insertBy (h : SortedBy key l) (k : Nat) :
    (insertBy key a l).filter (fun x => key x == k) = (l ++ [a]).filter (fun x => key x == k) := by
  induction l with
  | nil => rfl
  | cons b l ih =>
    obtain ⟨least, sorted⟩ := List.pairwise_cons.mp h
    rw [insertBy]
    split_ifs with less
    · by_cases same : key a = k
      · have above : ∀ x ∈ b :: l, ¬(key x == k) = true := by
          intro x hx
          rcases List.mem_cons.mp hx with rfl | later
          · simpa using (same ▸ less).ne'
          · simpa using (same ▸ less.trans_le (least x later)).ne'
        rw [List.filter_append, List.filter_eq_nil_iff.mpr above, List.filter_cons_of_pos (by simpa using same),
          List.filter_eq_nil_iff.mpr above, List.filter_cons_of_pos (by simpa using same)]
        rfl
      · rw [List.filter_cons_of_neg (by simpa using same), List.filter_append,
          List.filter_cons_of_neg (l := []) (by simpa using same), List.filter_nil, List.append_nil]
    · rw [List.cons_append, List.filter_cons, List.filter_cons, ih sorted]

/-- What an insertion sort makes of elements that it inserts, one after another, into a sorted list. -/
theorem foldl_insertBy (l : List α) {acc : List α} (h : SortedBy key acc) :
    (l.foldl (fun acc a => insertBy key a acc) acc).Perm (acc ++ l) ∧
    SortedBy key (l.foldl (fun acc a => insertBy key a acc) acc) ∧
    ∀ k, (l.foldl (fun acc a => insertBy key a acc) acc).filter (fun x => key x == k) =
      (acc ++ l).filter (fun x => key x == k) := by
  induction l generalizing acc with
  | nil => simpa using h
  | cons a l ih =>
    obtain ⟨perm, sorted, stable⟩ := ih (sortedBy_insertBy (a := a) h)
    refine ⟨perm.trans ?_, sorted, fun k => (stable k).trans ?_⟩
    · exact ((perm_insertBy key a acc).append_right l).trans List.perm_middle.symm
    · rw [List.filter_append, filter_insertBy h, ← List.filter_append, List.append_assoc, List.singleton_append]

theorem perm_sortBy (key : α → Nat) (l : List α) : (sortBy key l).Perm l := (foldl_insertBy l List.Pairwise.nil).1

theorem sortedBy_sortBy (key : α → Nat) (l : List α) : SortedBy key (sortBy key l) :=
  (foldl_insertBy l List.Pairwise.nil).2.1

theorem filter_sortBy (key : α → Nat) (l : List α) (k : Nat) :
    (sortBy key l).filter (fun x => key x == k) = l.filter (fun x => key x == k) :=
  (foldl_insertBy l List.Pairwise.nil).2.2 k

end Sorting

/-! #### The lines of the windows (R74) -/

theorem enterAtomic_frame (p : Packet) (xs : List Extent) (part gen : Nat) (s : State) :
    ∃ atoms atomNo groups groupNo, enterAtomic p xs part gen s =
      { s with txn := { s.txn with atoms := atoms, atomNo := atomNo, groups := groups, groupNo := groupNo } } := by
  have entered (ops : List AtomOp) (s : State) : ∃ atoms atomNo,
      ops.foldl (fun s o => { s with txn := { s.txn with atomNo := s.txn.atomNo + 1,
                                                         atoms := s.txn.atoms.set s.txn.atomNo o } }) s =
      { s with txn := { s.txn with atoms := atoms, atomNo := atomNo } } := by
    induction ops generalizing s with
    | nil => exact ⟨_, _, rfl⟩
    | cons o ops ih =>
      obtain ⟨atoms, atomNo, h⟩ := ih _
      exact ⟨atoms, atomNo, h⟩
  obtain ⟨atoms, atomNo, h⟩ := entered _ _
  exact ⟨atoms, atomNo, _, _, h⟩

/-- What issuing a fence-final packet leaves alone. -/
theorem applyFence_frame (h : Held) (s : State) : ∃ txn mem, applyFence h s = { s with txn := txn, mem := mem } ∧
    txn.held = s.txn.held ∧ txn.windows = s.txn.windows ∧ txn.fenceQ = s.txn.fenceQ := by
  unfold applyFence
  split_ifs
  · obtain ⟨_, _, _, _, entered⟩ := enterAtomic_frame h.packet [⟨h.pa, covered h.packet, h.mattr⟩] h.part h.gen s
    exact ⟨_, _, entered, rfl, rfl, rfl⟩
  · exact ⟨_, _, rfl, rfl, rfl, rfl⟩

/-- A packet that joins a line: what it leaves alone, and its place. -/
theorem queueFence_frame (h : Held) (s : State) : ∃ txn mem, queueFence h s = { s with txn := txn, mem := mem } ∧
    txn.held = s.txn.held ∧ txn.windows = s.txn.windows ∧
    txn.fenceQ = s.txn.fenceQ.set h.packet.win.toNat (s.txn.fenceQ.get h.packet.win.toNat [] ++ [h]) := by
  unfold queueFence
  dsimp only
  split_ifs
  · obtain ⟨txn, mem, eq, held, windows, fenceQ⟩ := applyFence_frame h _
    exact ⟨txn, mem, eq, held, windows, fenceQ⟩
  · exact ⟨_, _, rfl, rfl, rfl, rfl⟩

theorem each_nil {α : Type} (f : α → State → State) (s : State) : each [] f s = s := rfl

theorem each_cons {α : Type} (a : α) (l : List α) (f : α → State → State) (s : State) :
    each (a :: l) f s = each l f (f a s) := rfl

/-- Packets of one window join its line in their order. -/
theorem each_queueFence (w : Nat) (out : List Held) (own : ∀ h ∈ out, h.packet.win.toNat = w) (s : State) :
    (each out queueFence s).txn.held = s.txn.held ∧ (each out queueFence s).txn.windows = s.txn.windows ∧
    (each out queueFence s).txn.fenceQ.get w [] = s.txn.fenceQ.get w [] ++ out := by
  induction out generalizing s with
  | nil => simp [each_nil]
  | cons h out ih =>
    obtain ⟨held, windows, line⟩ := ih (fun x hx => own x (List.mem_cons_of_mem _ hx)) (queueFence h s)
    obtain ⟨txn, mem, eq, held', windows', fenceQ⟩ := queueFence_frame h s
    rw [each_cons, held, windows, line, eq]
    refine ⟨held', windows', ?_⟩
    have ownWindow := own h List.mem_cons_self
    change txn.fenceQ.get w [] ++ out = _
    rw [fenceQ, ownWindow, get_set_same, List.append_assoc, List.singleton_append]

/-! #### Release -/

/-- A held write of window `w` that the counter `c` reaches. -/
def reachedIn (w c : Nat) (h : Held) : Bool := h.packet.win.toNat == w && classify c 0 h.packet.expect.toNat == .reached

/-- The order of release: EXPECT, counted round the counter up to its value (R44). -/
def serialKey (c : Nat) (h : Held) : Nat := 2 ^ 32 - (c + 2 ^ 32 - h.packet.expect.toNat) % 2 ^ 32

/-- The writes that a release takes, in its order. -/
def releasedAt (w c : Nat) (held : List Held) : List Held := sortBy (serialKey c) (held.filter (reachedIn w c))

theorem mem_releasedAt {w c : Nat} {held : List Held} {h : Held} :
    h ∈ releasedAt w c held ↔ h ∈ held ∧ reachedIn w c h := by
  rw [releasedAt, (perm_sortBy _ _).mem_iff, List.mem_filter]

theorem releasedAt_own {w c : Nat} {held : List Held} : ∀ h ∈ releasedAt w c held, h.packet.win.toNat = w := by
  intro h hh
  have reached := (mem_releasedAt.mp hh).2
  rw [reachedIn, Bool.and_eq_true, beq_iff_eq] at reached
  exact reached.1

theorem releaseHeld_off {s : State} (w : Nat) (off : masterEn s = false) : releaseHeld w s = s := by
  rw [releaseHeld, off]; rfl

theorem releaseHeld_on {s : State} (w : Nat) (on : masterEn s = true) :
    releaseHeld w s = each (releasedAt w (winCount s w) s.txn.held) queueFence
      { s with txn := { s.txn with held := s.txn.held.filter fun h => !reachedIn w (winCount s w) h } } := by
  have ready : (fun h : Held => h.packet.win.toNat == w && heldReached (winCount s w) h) =
    reachedIn w (winCount s w) := by
    funext h
    rw [heldReached, reachedIn, beq_eq_decide (classify _ _ _)]
  rw [releaseHeld, on]
  change each (sortBy _ (s.txn.held.filter fun h => h.packet.win.toNat == w && heldReached (winCount s w) h)) _
    { s with txn := { s.txn with held := s.txn.held.filter (fun h =>
      !((fun h : Held => h.packet.win.toNat == w && heldReached (winCount s w) h) h)) } } = _
  rw [ready]
  rfl

/-- What a release leaves held, and what it sends to the window's line. -/
theorem releaseHeld_txn {s : State} (w : Nat) (on : masterEn s = true) :
    (releaseHeld w s).txn.held = s.txn.held.filter (fun h => !reachedIn w (winCount s w) h) ∧
    (releaseHeld w s).txn.windows = s.txn.windows ∧
    (releaseHeld w s).txn.fenceQ.get w [] = s.txn.fenceQ.get w [] ++ releasedAt w (winCount s w) s.txn.held := by
  rw [releaseHeld_on w on]
  exact each_queueFence w _ releasedAt_own _

theorem winCount_releaseHeld (w x : Nat) (s : State) : winCount (releaseHeld w s) x = winCount s x := by
  cases on : masterEn s with
  | false => rw [releaseHeld_off w on]
  | true => rw [winCount, (releaseHeld_txn w on).2.1, winCount]

/-- The counter after `n` more lines. -/
theorem winCount_counted (w n : Nat) (s : State) :
    winCount (setWin w ((winCount s w + n) % 2 ^ 32) s) w = (winCount s w + n) % 2 ^ 32 := by
  rw [winCount_setWin_same, Nat.mod_mod]

/-- Settles O13: the lines count, and the release takes exactly the writes that the new count reaches. -/
theorem noReachedWriteStaysHeld : Obligations.NoReachedWriteStaysHeld := by
  intro w n s
  refine ⟨?_, fun on => ?_, fun off => ?_⟩
  · rw [landLines, winCount_releaseHeld, winCount_counted]
  · rw [landLines, (releaseHeld_txn w (by exact on)).1, winCount_counted]
    rfl
  · rw [landLines, releaseHeld_off w (by exact off)]
    exact ⟨rfl, rfl⟩

/-- Settles O14: the writes released are sorted by a stable sort, and join the line one after another. -/
theorem releaseIsSorted : Obligations.ReleaseIsSorted := by
  intro w n s on c reached key
  have count : winCount (setWin w c s) w = c := winCount_counted w n s
  have on' : masterEn (setWin w c s) = true := on
  have released := releaseHeld_on w on'
  have joined := (releaseHeld_txn w on').2.2
  rw [count] at released joined
  exact ⟨releasedAt w c s.txn.held, perm_sortBy _ _, sortedBy_sortBy _ _, filter_sortBy _ _, released, joined⟩

/-! #### A fence-final write arrives -/

/-- The registers that an event does not write (R387, R391). -/
def ApartFromEvents (a : Nat) : Prop := a ≠ Reg.GEN_EVT_LOST ∧ (a < 0x100 ∨ 0x180 ≤ a)

theorem reg_captureEvent {a : Nat} (e : Event) (s : State) (apart : a < 0x100 ∨ 0x180 ≤ a) :
    reg (captureEvent e s) a = reg s a := by
  have cls := e.cls.isLt
  unfold captureEvent
  dsimp only
  split_ifs
  · rw [reg_setReg_ne _ _ _ _ (by rw [Reg.GEN_FERR_MORE]; omega)]
  · rw [reg_setReg_ne _ _ _ _ (by rw [Reg.GEN_FERR_VALID]; omega),
    reg_setReg_ne _ _ _ _ (by rw [Reg.GEN_FERR_TIME]; omega),
      reg_setReg_ne _ _ _ _ (by rw [Reg.GEN_FERR_EVT3]; omega),
        reg_setReg_ne _ _ _ _ (by rw [Reg.GEN_FERR_EVT1]; omega),
      reg_setReg_ne _ _ _ _ (by rw [Reg.GEN_FERR_EVT0]; omega)]

theorem reg_postEvent {a : Nat} (cause : Nat) (node : NodeId) (part index data : Nat) (s : State)
    (apart : ApartFromEvents a) :
    reg (postEvent cause node part index data s) a = reg s a := by
  obtain ⟨notLost, notCapture⟩ := apart
  rcases postEvent_cases cause node part index data s with same | ⟨-, posted | lost⟩
  · rw [same]
  · rw [posted]
    exact reg_captureEvent _ s notCapture
  · rw [lost, bump, bumpBy, reg_setReg_ne _ _ _ _ notLost]
    exact reg_captureEvent _ s notCapture

theorem sendSet_frame (r : RecSet) (s : State) : ∃ sets inj, sendSet r s =
    { s with txn := { s.txn with sets := sets }, router := { s.router with inject := inj } } := by
  unfold sendSet
  split
  · exact ⟨_, _, rfl⟩
  · exact ⟨_, _, rfl⟩

theorem updateSet_frame (p : Packet) (recs : List LackRec → List LackRec) (landed now : Bool) (s : State) :
    ∃ sets inj, updateSet p recs landed now s =
      { s with txn := { s.txn with sets := sets }, router := { s.router with inject := inj } } := by
  rw [updateSet_eq]
  split_ifs
  · obtain ⟨sets, inj, sent⟩ := sendSet_frame (grownSet p recs landed s) (putSet (grownSet p recs landed s) s)
    exact ⟨sets, inj, sent⟩
  · exact ⟨_, _, rfl⟩

theorem failWrite_frame (p : Packet) (status : Byte) (now : Bool) (s : State) :
    ∃ sets inj, failWrite p status now s =
      { s with txn := { s.txn with sets := sets }, router := { s.router with inject := inj } } := by
  unfold failWrite answerWrite
  split_ifs
  · obtain ⟨sets, inj, eq⟩ := updateSet_frame p (fun l => l) false now (sendAtomr p status [] false s)
    exact ⟨sets, inj, eq⟩
  · exact updateSet_frame p _ _ _ s

/-- The state in which a write that arrives is classified: its number is taken. -/
def numbered (s : State) : State := { s with txn := { s.txn with heldNo := s.txn.heldNo + 1 } }

/-- A fence-final write as it is held. -/
def asHeld (p : Packet) (pa mattr part gen : Nat) (s : State) : Held := ⟨s.txn.heldNo, p, pa, mattr, part, gen⟩

/-- A write counted into its window and put behind those that are held (R40). -/
def countedIn (h : Held) (s : State) : State :=
  let w := h.packet.win.toNat
  setWin w ((winCount s w + packetLines h.packet) % 2 ^ 32)
    (markWindow h.part w { s with txn := { s.txn with held := s.txn.held ++ [h] } })

section
variable {p : Packet} {pa mattr part gen : Nat} {s : State}

theorem landPacket_fault (fault : classify (winCount s p.win.toNat) (packetLines p) p.expect.toNat = .fault) :
    landPacket p pa mattr part gen s = winFault p part (numbered s) := by
  unfold landPacket
  exact if_pos fault

theorem landPacket_admitted (ff : p.ff = true)
    (sound : classify (winCount s p.win.toNat) (packetLines p) p.expect.toNat ≠ .fault)
    (room : classify (winCount s p.win.toNat) (packetLines p) p.expect.toNat = .reached ∨ s.txn.held.length < 1024) :
    landPacket p pa mattr part gen s =
      releaseHeld p.win.toNat (noteLanded p (countedIn (asHeld p pa mattr part gen s) (numbered s))) := by
  unfold landPacket
  refine (if_neg sound).trans ((if_neg (by simp [ff])).trans (if_pos ?_))
  change (decide (classify (winCount s p.win.toNat) _ _ = .reached) || decide (s.txn.held.length < 1024)) = true
  simpa using room

theorem landPacket_full (ff : p.ff = true)
    (pending : classify (winCount s p.win.toNat) (packetLines p) p.expect.toNat = .pending)
    (full : 1024 ≤ s.txn.held.length) :
    landPacket p pa mattr part gen s =
      record p stHOLDFULL (packetLines p) false true (bump Reg.GEN_HOLD_FULL_CNT (numbered s)) := by
  have sound : classify (winCount s p.win.toNat) (packetLines p) p.expect.toNat ≠ .fault := by rw [pending]; decide
  unfold landPacket
  refine (if_neg sound).trans ((if_neg (by simp [ff])).trans (if_neg ?_))
  change ¬(decide (classify (winCount s p.win.toNat) _ _ = .reached) || decide (s.txn.held.length < 1024)) = true
  simp [pending, full]

end

/-- The counters, the held writes and MASTER_EN as the release of an arrival finds them. -/
theorem admitted_txn (p : Packet) (pa mattr part gen : Nat) (s : State) :
    let u := noteLanded p (countedIn (asHeld p pa mattr part gen s) (numbered s))
    (∀ x, winCount u x = if x = p.win.toNat then (winCount s p.win.toNat + packetLines p) % 2 ^ 32 else winCount s x) ∧
    u.txn.held = s.txn.held ++ [asHeld p pa mattr part gen s] ∧ masterEn u = masterEn s := by
  obtain ⟨sets, inj, noted⟩ :=
    updateSet_frame p (fun l => l) true false (countedIn (asHeld p pa mattr part gen s) (numbered s))
  intro u
  have hu : u = _ := noted
  rw [hu]
  refine ⟨fun x => ?_, rfl, rfl⟩
  change winCount (countedIn (asHeld p pa mattr part gen s) (numbered s)) x = _
  split_ifs with own
  · subst own
    exact winCount_counted p.win.toNat (packetLines p) s
  · exact winCount_setWin_ne _ _ _ _ own

/-- A release leaves what the counter does not reach, even where it finds MASTER_EN 0. -/
theorem mem_held_releaseHeld {w : Nat} {s : State} {h : Held} (kept : h ∈ s.txn.held)
    (ahead : reachedIn w (winCount s w) h = false) : h ∈ (releaseHeld w s).txn.held := by
  cases on : masterEn s with
  | false => rwa [releaseHeld_off w on]
  | true =>
    rw [(releaseHeld_txn w on).1]
    exact List.mem_filter.mpr ⟨kept, by rw [ahead]; rfl⟩

section
variable {p : Packet} {pa mattr part gen : Nat} {s : State}

/-- The count that an arrival brings reaches it exactly where its class says so. -/
theorem reachedIn_asHeld : reachedIn p.win.toNat ((winCount s p.win.toNat + packetLines p) % 2 ^ 32)
    (asHeld p pa mattr part gen s) =
    (classify (winCount s p.win.toNat) (packetLines p) p.expect.toNat == .reached) := by
  rw [reachedIn, asHeld, classify_counted, beq_self_eq_true, Bool.true_and]

theorem fenceFinal_pending (ff : p.ff = true)
    (pending : classify (winCount s p.win.toNat) (packetLines p) p.expect.toNat = .pending)
    (room : s.txn.held.length < 1024) :
    winCount (landPacket p pa mattr part gen s) p.win.toNat = (winCount s p.win.toNat + packetLines p) % 2 ^ 32 ∧
    asHeld p pa mattr part gen s ∈ (landPacket p pa mattr part gen s).txn.held ∧
    ∀ x, x ≠ p.win.toNat → winCount (landPacket p pa mattr part gen s) x = winCount s x := by
  obtain ⟨counts, held, -⟩ := admitted_txn p pa mattr part gen s
  rw [landPacket_admitted ff (by rw [pending]; decide) (.inr room)]
  refine ⟨?_, mem_held_releaseHeld ?_ ?_, fun x other => ?_⟩
  · rw [winCount_releaseHeld, counts, if_pos rfl]
  · rw [held]
    exact List.mem_append_right _ List.mem_cons_self
  · rw [counts, if_pos rfl, reachedIn_asHeld, pending]
    rfl
  · rw [winCount_releaseHeld, counts, if_neg other]

theorem fenceFinal_reached (ff : p.ff = true)
    (reached : classify (winCount s p.win.toNat) (packetLines p) p.expect.toNat = .reached) (on : masterEn s = true) :
    winCount (landPacket p pa mattr part gen s) p.win.toNat = (winCount s p.win.toNat + packetLines p) % 2 ^ 32 ∧
    (∀ x ∈ (landPacket p pa mattr part gen s).txn.held, x ∈ s.txn.held) ∧
    asHeld p pa mattr part gen s ∈ (landPacket p pa mattr part gen s).txn.fenceQ.get p.win.toNat [] := by
  obtain ⟨counts, held, masterSame⟩ := admitted_txn p pa mattr part gen s
  have own : reachedIn p.win.toNat ((winCount s p.win.toNat + packetLines p) % 2 ^ 32)
    (asHeld p pa mattr part gen s) = true := by
    rw [reachedIn_asHeld, reached]; rfl
  obtain ⟨left, -, joined⟩ := releaseHeld_txn p.win.toNat (masterSame.trans on)
  rw [landPacket_admitted ff (by rw [reached]; decide) (.inl reached)]
  rw [counts, if_pos rfl, held] at left joined
  refine ⟨?_, fun x hx => ?_, ?_⟩
  · rw [winCount_releaseHeld, counts, if_pos rfl]
  · rw [left] at hx
    obtain ⟨among, ahead⟩ := List.mem_filter.mp hx
    rcases List.mem_append.mp among with old | new
    · exact old
    · rw [List.mem_singleton.mp new, own] at ahead
      cases ahead
  · rw [joined]
    exact List.mem_append_right _ (mem_releasedAt.mpr ⟨List.mem_append_right _ List.mem_cons_self, own⟩)

end

theorem mergeRec_ne_nil (r : LackRec) (l : List LackRec) : mergeRec r l ≠ [] := by
  cases l with
  | nil => exact List.cons_ne_nil _ _
  | cons x l =>
    rw [mergeRec]
    split_ifs
    · exact List.cons_ne_nil _ _
    · exact List.cons_ne_nil _ _

/-- The LACK that carries a record set (R61). -/
def lackOf (s : State) (r : RecSet) : Packet := { blankPacket with
  ptype := tLACK, vc := if r.vc7 then 7 else 3, pkey := r.pkey, src := ownId s, dst := r.node,
  len := BitVec.ofNat 12 (8 * r.recs.length), payload := r.recs.flatMap LackRec.bytes }

/-- A record that goes at once takes its whole set along. -/
theorem record_now (p : Packet) (status : Byte) (lines : Nat) (landed : Bool) (s : State) :
    record p status lines landed true s =
      let r := grownSet p (mergeRec ⟨status, p.tag, recElem p, BitVec.ofNat 32 lines⟩) landed s
      inject 0 (lackOf s r) (dropSet r (putSet r s)) := by
  have some : ¬(mergeRec ⟨status, p.tag, recElem p, BitVec.ofNat 32 lines⟩ (findSet s p).recs).isEmpty = true := by
    rw [List.isEmpty_iff]
    exact mergeRec_ne_nil _ _
  rw [record, updateSet_eq, if_pos (by rfl)]
  exact if_neg some

/-- The injection port of a unit takes a packet behind those that wait there. -/
theorem inject_zero (p : Packet) {s : State} (ports : s.router.inject ≠ []) :
    (inject 0 p s).router.inject.getD 0 [] = s.router.inject.getD 0 [] ++ [p] := by
  rw [inject]
  obtain ⟨q, qs, eq⟩ := List.exists_cons_of_ne_nil ports
  dsimp only
  rw [eq, List.mapIdx_cons]
  rfl

theorem fenceFinal_full {p : Packet} {pa mattr part gen : Nat} {s : State} (ff : p.ff = true)
    (pending : classify (winCount s p.win.toNat) (packetLines p) p.expect.toNat = .pending)
    (full : 1024 ≤ s.txn.held.length) :
    let t := landPacket p pa mattr part gen s
    t.txn.windows = s.txn.windows ∧ t.txn.held = s.txn.held ∧ t.mem = s.mem ∧
    (s.router.inject ≠ [] → t.router.inject.getD 0 [] = s.router.inject.getD 0 [] ++
      [lackOf s (grownSet p (mergeRec ⟨stHOLDFULL, p.tag, recElem p, BitVec.ofNat 32 (packetLines p)⟩) false s)]) ∧
    reg t Reg.GEN_HOLD_FULL_CNT = BitVec.ofNat 64 ((fld s Reg.GEN_HOLD_FULL_CNT 0 32 + 1) % 2 ^ 32) := by
  intro t
  have ht : t = _ := (landPacket_full ff pending full).trans (record_now _ _ _ _ _)
  have node : reg (bump Reg.GEN_HOLD_FULL_CNT (numbered s)) Reg.FAB_NODE_ID = reg s Reg.FAB_NODE_ID :=
    reg_setReg_ne _ _ _ _ (by decide)
  have own : ownId (bump Reg.GEN_HOLD_FULL_CNT (numbered s)) = ownId s := by rw [ownId, fld, node, ownId, fld]
  rw [ht]
  refine ⟨rfl, rfl, rfl, fun ports => ?_, reg_bump_same _ _⟩
  refine (inject_zero _ (by exact ports)).trans ?_
  rw [lackOf, own]
  rfl

theorem fenceFinal_fault {p : Packet} {pa mattr part gen : Nat} {s : State}
    (fault : classify (winCount s p.win.toNat) (packetLines p) p.expect.toNat = .fault) :
    let t := landPacket p pa mattr part gen s
    t.txn.windows = s.txn.windows ∧ t.txn.held = s.txn.held ∧ t.mem = s.mem ∧
    reg t Reg.GEN_WIN_FAULT = BitVec.ofNat 64 (p.win.toNat + 2 ^ 16 * p.src.toNat + 2 ^ 31) := by
  intro t
  have ht : t = _ := landPacket_fault fault
  obtain ⟨sets, inj, failed⟩ := failWrite_frame p stWINFAULT false
    (postEvent 0x0101 p.src part p.win.toNat p.expect.toNat
      (setReg Reg.GEN_WIN_FAULT (BitVec.ofNat 64 (p.win.toNat + 2 ^ 16 * p.src.toNat + 2 ^ 31)) (numbered s)))
  rw [ht, winFault, failed]
  simp only [postEvent_txn, postEvent_mem]
  refine ⟨rfl, rfl, rfl, ?_⟩
  exact (reg_postEvent _ _ _ _ _ _ ⟨by decide, .inl (by decide)⟩).trans (reg_setReg_same _ _ _)

/-- Settles O44, by the class of the arrival. -/
theorem fenceFinalWritesAreHeld : Obligations.FenceFinalWritesAreHeld := by
  intro p pa mattr part gen s ff
  refine ⟨fenceFinal_pending ff, fun pending full => ?_, fenceFinal_reached ff, fenceFinal_fault⟩
  obtain ⟨windows, held, mem, sent, counted⟩ := fenceFinal_full (pa := pa) (mattr := mattr) (part := part)
    (gen := gen) ff pending full
  refine ⟨windows, held, mem, fun ports => (sent ports).trans ?_, counted⟩
  obtain ⟨node, pkey, vc7⟩ := findSet_ofPacket s p
  rw [lackOf, grownSet]
  simp only [node, pkey, vc7]

end Sys2Proof.Proofs

/-! ### Taps and starting values of a lane (R300, R317) -/

namespace Sys2Proof.Proofs

open Sys2Proof Sys2Proof.Machine Sys2Proof.Laws

/-! #### Requests of a partner -/

theorem tapRequest_answered {active : Bool} {n w : Nat} {s : State}
    (old : BitVec.ofNat 4 (natField w 16 4) = (lane s n).reqIn) :
    tapRequest active n w s = s := if_pos old

/-- A new request is answered: it is refused and leaves the taps, or asks for legal ones and gets them. -/
theorem tapRequest_new (active : Bool) {n w : Nat} {s : State}
    (new : BitVec.ofNat 4 (natField w 16 4) ≠ (lane s n).reqIn) :
    ∃ resp taps, tapRequest active n w s =
      setLane n { lane s n with reqIn := BitVec.ofNat 4 (natField w 16 4), resp := resp, taps := taps } s ∧
      ((resp ≠ 0 ∧ taps = (lane s n).taps) ∨ (resp = 0 ∧ tapsInRange taps = true ∧ tapsSum taps = true)) := by
  unfold tapRequest
  dsimp only
  rw [if_neg new]
  split_ifs with reserved range sum
  · exact ⟨2, _, rfl, .inl ⟨by decide, rfl⟩⟩
  · exact ⟨1, _, rfl, .inl ⟨by decide, rfl⟩⟩
  · exact ⟨2, _, rfl, .inl ⟨by decide, rfl⟩⟩
  · exact ⟨0, _, rfl, .inr ⟨rfl, by simpa using range, by simpa using sum⟩⟩

/-- Settles O19: a request is an old one, or is refused, or asks for legal taps. -/
theorem tapsStayLegal : Obligations.TapsStayLegal := by
  intro active n w s
  by_cases old : BitVec.ofNat 4 (natField w 16 4) = (lane s n).reqIn
  · rw [tapRequest_answered old]
    exact ⟨fun range sum => ⟨range, sum⟩, fun _ => rfl, fun new => absurd old new, fun _ _ => rfl⟩
  · obtain ⟨resp, taps, answered, outcome⟩ := tapRequest_new active old
    rw [answered]
    refine ⟨fun range sum => ?_, fun same => absurd same old, fun _ => ?_, fun m other => lane_setLane_ne _ _ _ _ other⟩
    · rw [lane_setLane_same]
      rcases outcome with ⟨-, kept⟩ | ⟨-, legal⟩
      · exact kept ▸ ⟨range, sum⟩
      · exact legal
    · rw [lane_setLane_same]
      refine ⟨rfl, fun refused => ?_⟩
      rcases outcome with ⟨-, kept⟩ | ⟨granted, -⟩
      · exact kept
      · exact absurd granted refused

/-! #### Starting values -/

theorem clampTo_mem {r : Int × Int} (h : r.1 ≤ r.2) (x : Int) : r.1 ≤ clampTo r x ∧ clampTo r x ≤ r.2 := by
  unfold clampTo
  split_ifs <;> omega

theorem clampTo_of_mem {r : Int × Int} {x : Int} (h : r.1 ≤ x ∧ x ≤ r.2) : clampTo r x = x := by
  rw [clampTo, if_neg (not_lt.mpr h.1), if_neg (not_lt.mpr h.2)]

theorem valRanges_ordered : ∀ i < 12, (valRanges.getD i (0, 0)).1 ≤ (valRanges.getD i (0, 0)).2 := by decide

/-- Value `i` lies in its range (R300, R316). -/
def InRange (i : Nat) (x : Int) : Prop := (valRanges.getD i (0, 0)).1 ≤ x ∧ x ≤ (valRanges.getD i (0, 0)).2

/-- The factory values moved by the deltas. -/
def movedVals (fac deltas : List Int) : List Int := (List.range 12).map fun i => fac.getD i 0 + deltas.getD i 0

/-- The moved values, each clamped to its range. -/
def clampedVals (fac deltas : List Int) : List Int :=
  (movedVals fac deltas).mapIdx fun i x => clampTo (valRanges.getD i (0, 0)) x

theorem startVals_eq (fac deltas : List Int) : startVals fac deltas =
    if tapsSum ((clampedVals fac deltas).take 5) then
      (clampedVals fac deltas, clampedVals fac deltas != movedVals fac deltas)
    else (fac.take 5 ++ (clampedVals fac deltas).drop 5, true) := rfl

theorem length_clampedVals (fac deltas : List Int) : (clampedVals fac deltas).length = 12 := by
  rw [clampedVals, List.length_mapIdx, movedVals, List.length_map, List.length_range]

theorem getD_clampedVals (fac deltas : List Int) {i : Nat} (h : i < 12) : (clampedVals fac deltas).getD i 0 =
    clampTo (valRanges.getD i (0, 0)) (fac.getD i 0 + deltas.getD i 0) := by
  simp [clampedVals, movedVals, h]

theorem inRange_clampedVals (fac deltas : List Int) {i : Nat} (h : i < 12) :
    InRange i ((clampedVals fac deltas).getD i 0) := by
  rw [getD_clampedVals _ _ h]
  exact clampTo_mem (valRanges_ordered i h) _

theorem movedVals_of_zero {fac deltas : List Int} (len : fac.length = 12) (still : ∀ i < 12, deltas.getD i 0 = 0) :
    movedVals fac deltas = fac := by
  refine List.ext_getElem (by rw [movedVals, List.length_map, List.length_range, len]) fun i _ hi => ?_
  have zero := still i (len ▸ hi)
  simp only [movedVals, List.getElem_map, List.getElem_range, zero, List.getD_eq_getElem _ _ hi, add_zero]

theorem clampedVals_of_zero {fac deltas : List Int} (len : fac.length = 12) (range : ∀ i < 12, InRange i (fac.getD i 0))
    (still : ∀ i < 12, deltas.getD i 0 = 0) : clampedVals fac deltas = fac := by
  refine List.ext_getElem (by rw [length_clampedVals, len]) fun i _ hi => ?_
  have mem := range i (len ▸ hi)
  rw [List.getD_eq_getElem _ _ hi] at mem
  simp only [clampedVals, movedVals_of_zero len still, List.getElem_mapIdx]
  exact clampTo_of_mem mem

/-- The factory taps before the clamped values of the rest. -/
theorem getD_take_append_drop {a b : List Int} (len : 5 ≤ a.length) (i : Nat) :
    (a.take 5 ++ b.drop 5).getD i 0 = if i < 5 then a.getD i 0 else b.getD i 0 := by
  have short : (a.take 5).length = 5 := by rw [List.length_take, Nat.min_eq_left len]
  rw [List.getD_eq_getElem?_getD, List.getElem?_append, short]
  split_ifs with tap
  · rw [List.getElem?_take_of_lt tap, ← List.getD_eq_getElem?_getD]
  · rw [List.getElem?_drop, ← List.getD_eq_getElem?_getD, Nat.add_sub_cancel' (not_lt.mp tap)]

/-- Settles O20: each value is clamped to its range, or is a factory tap. -/
theorem loadedValuesInRange : Obligations.LoadedValuesInRange := by
  intro fac deltas len range sum
  rw [startVals_eq]
  have still : (∀ i, i < 12 → deltas.getD i 0 = 0) → startVals fac deltas = (fac, false) := fun still => by
    rw [startVals_eq, clampedVals_of_zero len range still, movedVals_of_zero len still, if_pos sum]
    simp
  rw [startVals_eq] at still
  split_ifs with keeps
  · rw [if_pos keeps] at still
    exact ⟨length_clampedVals _ _, fun i hi => inRange_clampedVals _ _ hi, keeps, still⟩
  · rw [if_neg keeps] at still
    have taps : (fac.take 5).length = 5 := by rw [List.length_take, len]; rfl
    refine ⟨?_, fun i hi => ?_, ?_, still⟩
    · dsimp only
      rw [List.length_append, taps, List.length_drop, length_clampedVals]
    · dsimp only
      rw [getD_take_append_drop (by omega)]
      split_ifs
      · exact range i hi
      · exact inRange_clampedVals _ _ hi
    · dsimp only
      rw [List.take_append_of_le_length (by omega), List.take_take]
      exact sum

end Sys2Proof.Proofs

/-! ### Descriptors that fail to start, and cancelled groups (R65, R106, R112) -/

namespace Sys2Proof.Proofs

open Sys2Proof Sys2Proof.Machine Sys2Proof.Laws

/-! #### Start checks -/

theorem modDesc_of_desc {d : Nat} {v : Desc} {s : State} (f : Desc → Desc) (h : desc s d = some v) :
    modDesc d f s = setDesc d (f v) s := by
  rw [modDesc, h]

theorem endUnstarted_setDesc (d : Nat) (st : Byte) (w : Desc) (s : State) : endUnstarted d st (setDesc d w s) =
    setDesc d { w with phase := .drain, stopped := true, startNo := 0, ends := w.ends ++ [st] } (setDesc d w s) :=
  modDesc_of_desc _ (desc_setDesc_same d w s)

/-- A descriptor that fails a check ends unstarted (R106). -/
theorem startWith_fails {s : State} {d : Nat} {v : Desc} {st : Byte}
    (fails : v.bad = true ∧ st = stBADOP ∨ v.bad = false ∧ startFault s v = some st) :
    startWith d v s = endUnstarted d st (setDesc d v s) := by
  unfold startWith
  rcases fails with ⟨bad, rfl⟩ | ⟨readable, fault⟩
  · rw [if_pos bad]
  · rw [if_neg (by simp [readable]), fault]

theorem startDesc_eq {s : State} {d : Nat} {v : Desc} (h : desc s d = some v) : startDesc d s =
    startWith d { v with startNo := s.qe.starts + 1
                         chain := if dChainEn v.bits then (slotProgram s v.bits).getD [] else []
                         pkey := (partOf s v.part).key }
      { s with qe := { s.qe with starts := s.qe.starts + 1 } } := by
  rw [startDesc, h]
  rfl

/-- Settles O40: the start ends before its first access. -/
theorem failedStartIssuesNothing : Obligations.FailedStartIssuesNothing := by
  intro s d v st hv n u w fails
  have ended : startDesc d s = _ := (startDesc_eq hv).trans
    ((startWith_fails (v := w) (s := u) fails).trans (endUnstarted_setDesc d st w u))
  rw [ended]
  refine ⟨rfl, rfl, rfl, desc_setDesc_same _ _ _, fun e other => ?_⟩
  rw [desc_setDesc_ne _ _ _ _ other, desc_setDesc_ne _ _ _ _ other]
  rfl

/-! #### What a stop leaves of the other descriptors -/

/-- Two versions of a descriptor that differ neither in their bits nor in how far they have come to an end. -/
def SameMarks (v w : Desc) : Prop := w.stopped = v.stopped ∧ w.phase = v.phase ∧ w.ends = v.ends ∧ w.bits = v.bits

theorem SameMarks.refl (v : Desc) : SameMarks v v := ⟨rfl, rfl, rfl, rfl⟩

theorem SameMarks.trans {u v w : Desc} (h : SameMarks u v) (h' : SameMarks v w) : SameMarks u w := by
  obtain ⟨stopped, phase, ends, bits⟩ := h
  obtain ⟨stopped', phase', ends', bits'⟩ := h'
  exact ⟨stopped'.trans stopped, phase'.trans phase, ends'.trans ends, bits'.trans bits⟩

/-- A step that cancels no group and brings no descriptor nearer to its end. -/
def KeepsMarks (s t : State) : Prop :=
  t.qe.cancelled = s.qe.cancelled ∧ ∀ d v, desc s d = some v → ∃ w, desc t d = some w ∧ SameMarks v w

theorem KeepsMarks.trans {s t u : State} (h : KeepsMarks s t) (h' : KeepsMarks t u) : KeepsMarks s u := by
  refine ⟨h'.1.trans h.1, fun d v hv => ?_⟩
  obtain ⟨w, hw, marks⟩ := h.2 d v hv
  obtain ⟨x, hx, marks'⟩ := h'.2 d w hw
  exact ⟨x, hx, marks.trans marks'⟩

theorem keepsMarks_of_qe {s t : State} (h : t.qe = s.qe) : KeepsMarks s t :=
  ⟨by rw [h], fun d v hv => ⟨v, by rwa [desc, h], .refl v⟩⟩

theorem KeepsMarks.refl (s : State) : KeepsMarks s s := keepsMarks_of_qe rfl

theorem keepsMarks_setDesc {d : Nat} {v : Desc} {s : State} (w : Desc) (h : desc s d = some v) (marks : SameMarks v w) :
    KeepsMarks s (setDesc d w s) := by
  refine ⟨rfl, fun e x hx => ?_⟩
  by_cases same : e = d
  · subst same
    obtain rfl : v = x := Option.some.inj (h.symm.trans hx)
    exact ⟨w, desc_setDesc_same _ _ _, marks⟩
  · exact ⟨x, by rwa [desc_setDesc_ne _ _ _ _ same], .refl x⟩

theorem keepsMarks_modDesc {f : Desc → Desc} (marks : ∀ v, SameMarks v (f v)) (d : Nat) (s : State) :
    KeepsMarks s (modDesc d f s) := by
  cases hv : desc s d with
  | none => rw [modDesc, hv]; exact .refl s
  | some v => rw [modDesc_of_desc f hv]; exact keepsMarks_setDesc (f v) hv (marks v)

theorem keepsMarks_each {α : Type} {f : α → State → State} (h : ∀ a s, KeepsMarks s (f a s)) (l : List α) (s : State) :
    KeepsMarks s (each l f s) := by
  induction l generalizing s with
  | nil => exact .refl s
  | cons a l ih => exact (h a s).trans (ih _)

/-- A descriptor that holds no pipe any more. -/
def unpiped (v : Desc) : Desc := { v with pipe := none, buf := none, buf2 := none, obuf := [] }

/-- The event that a released pipe posts for its flags (R190). -/
def flagEvent (v : Desc) (p : Nat) (s : State) : State :=
  if v.flags.toNat &&& (parseProg v.chain).flagmask != 0 then
    postEvent 0x0401 (ownId s) v.part v.queue (v.index.toNat + 2 ^ 16 * p + 2 ^ 24 * v.flags.toNat) s
  else s

theorem qe_flagEvent (v : Desc) (p : Nat) (s : State) : (flagEvent v p s).qe = s.qe := by
  unfold flagEvent
  split_ifs
  · exact postEvent_qe _ _ _ _ _ _
  · rfl

theorem keepsMarks_releasePipe (d : Nat) (s : State) : KeepsMarks s (releasePipe d s) := by
  unfold releasePipe
  split
  next => exact .refl s
  next v hv =>
    split
    next => exact .refl s
    next p _ =>
      have posted : KeepsMarks s (flagEvent v p s) := keepsMarks_of_qe (qe_flagEvent v p s)
      have hu : desc (flagEvent v p s) d = some v := by rwa [desc, qe_flagEvent]
      exact posted.trans ((keepsMarks_setDesc (unpiped v) hu ⟨rfl, rfl, rfl, rfl⟩).trans (keepsMarks_of_qe rfl))

/-- A tag taken from its descriptor, which keeps what the tag brought. -/
def untag (t : Nat) (x : TagSt) (v : Desc) : Desc := { v with
  tags := v.tags.filter fun y => y != t
  curTag := if v.curTag = some t then none else v.curTag
  resend := match v.resend with
    | some r => if r.packet.tag.toNat = t then none else some r
    | none => none
  done := if v.disabled then v.done else v.done + x.bytesOk }

/-- A tag free again, or in quarantine. -/
def retireTag (t : Nat) (x : TagSt) (quarantine : Bool) (s : State) : State :=
  if quarantine then setTag t { x with quarantine := true, expects := [], lines := Tbl.empty } s
  else { s with txn := { s.txn with tags := s.txn.tags.erase t } }

theorem qe_retireTag (t : Nat) (x : TagSt) (quarantine : Bool) (s : State) :
    (retireTag t x quarantine s).qe = s.qe := by
  unfold retireTag
  split_ifs <;> rfl

/-- The pipe of a descriptor that has issued everything is free once nothing is sent again. -/
def releaseDrained (d : Nat) (s : State) : State :=
  match desc s d with
  | some v => if v.phase = .drain && v.resend.isNone then releasePipe d s else s
  | none => s

theorem keepsMarks_releaseDrained (d : Nat) (s : State) : KeepsMarks s (releaseDrained d s) := by
  unfold releaseDrained
  split
  · split_ifs
    · exact keepsMarks_releasePipe _ _
    · exact .refl s
  · exact .refl s

theorem freeTag_some {t : Nat} {x : TagSt} {s : State} (h : tagOf s t = some x) (quarantine : Bool) :
    freeTag t quarantine s = releaseDrained x.desc (retireTag t x quarantine (modDesc x.desc (untag t x) s)) := by
  rw [freeTag, h]
  rfl

theorem keepsMarks_freeTag (t : Nat) (quarantine : Bool) (s : State) : KeepsMarks s (freeTag t quarantine s) := by
  cases h : tagOf s t with
  | none => rw [freeTag, h]; exact .refl s
  | some x =>
    rw [freeTag_some h]
    exact (keepsMarks_modDesc (f := untag t x) (fun v => ⟨rfl, rfl, rfl, rfl⟩) _ _).trans
      ((keepsMarks_of_qe (qe_retireTag _ _ _ _)).trans (keepsMarks_releaseDrained _ _))

theorem keepsMarks_settleTag (t : Nat) (s : State) : KeepsMarks s (settleTag t s) := by
  unfold settleTag
  cases tagOf s t with
  | none => exact .refl s
  | some x =>
    dsimp only
    split_ifs
    · exact keepsMarks_freeTag _ _ _
    · exact .refl s

theorem qe_modTag (t : Nat) (f : TagSt → TagSt) (s : State) : (modTag t f s).qe = s.qe := by
  unfold modTag
  split <;> rfl

theorem keepsMarks_injectColl (d : Nat) (p : Packet) (s : State) : KeepsMarks s (injectColl d p s) := by
  unfold injectColl
  split
  next v hv =>
    exact (keepsMarks_setDesc { v with nseq := v.nseq + 1 } hv ⟨rfl, rfl, rfl, rfl⟩).trans (keepsMarks_of_qe rfl)
  next => exact .refl s

theorem keepsMarks_sendAborts (d : Nat) (s : State) : KeepsMarks s (sendAborts d s) := by
  unfold sendAborts
  split
  · split_ifs
    · exact (keepsMarks_of_qe rfl).trans (keepsMarks_each (keepsMarks_injectColl d) _ _)
    · exact .refl s
  · exact .refl s

theorem qe_withdrawReads (d : Nat) (p : RdWhat → Bool) (s : State) : (withdrawReads d p s).qe = s.qe := by
  unfold withdrawReads
  dsimp only
  split
  · split_ifs <;> rfl
  · rfl

/-- A descriptor as a stop marks it. -/
def stoppedAs (v : Desc) (st : Byte) : Desc :=
  { v with stopped := true, phase := .drain, ends := v.ends ++ [st], reading := false }

theorem stopDesc_none {d : Nat} {s : State} (h : desc s d = none) (st : Byte) (tell : Bool) :
    stopDesc d st tell s = s := by
  rw [stopDesc, h]

/-- The tag of a stopped descriptor closes; a collective keeps its own (R202). -/
def closeTag (v : Desc) (s : State) : State :=
  match v.curTag with
  | some t => if isCollective (opcode v.bits) then s else settleTag t (modTag t (fun x => { x with closed := true }) s)
  | none => s

theorem keepsMarks_closeTag (v : Desc) (s : State) : KeepsMarks s (closeTag v s) := by
  unfold closeTag
  split
  · split_ifs
    · exact .refl s
    · exact (keepsMarks_of_qe (qe_modTag _ _ _)).trans (keepsMarks_settleTag _ _)
  · exact .refl s

/-- The CABORTs of a stopped collective stand in place of the packets that waited (R216). -/
def tellMembers (d : Nat) (v : Desc) (st : Byte) (tell : Bool) (s : State) : State :=
  match collOf s d with
  | none => s
  | some c =>
    let told := if tell && isCollective (opcode v.bits) then (c.members.filterV (·.sent)).map (·.1) else []
    let cabort (m : Nat) : Packet := { (collPacket s v c tCABORT m) with len := 4, payload := fit 4 [st] }
    sendAborts d (setColl d { c with waiting := told.map cabort } s)

theorem keepsMarks_tellMembers (d : Nat) (v : Desc) (st : Byte) (tell : Bool) (s : State) :
    KeepsMarks s (tellMembers d v st tell s) := by
  unfold tellMembers
  split
  · exact .refl s
  · exact (keepsMarks_of_qe rfl).trans (keepsMarks_sendAborts _ _)

theorem stopDesc_some {d : Nat} {v : Desc} {s : State} (h : desc s d = some v) (st : Byte) (tell : Bool) :
    stopDesc d st tell s = releasePipe d (tellMembers d v st tell
      (closeTag v (withdrawReads d (fun _ => true) (setDesc d (stoppedAs v st) s)))) := by
  rw [stopDesc, h]
  rfl

/-- After the mark, a stop brings no descriptor nearer to its end. -/
theorem stopDesc_keepsMarks {d : Nat} {v : Desc} {s : State} (h : desc s d = some v) (st : Byte) (tell : Bool) :
    KeepsMarks (setDesc d (stoppedAs v st) s) (stopDesc d st tell s) := by
  rw [stopDesc_some h]
  exact (keepsMarks_of_qe (qe_withdrawReads _ _ _)).trans ((keepsMarks_closeTag _ _).trans
    ((keepsMarks_tellMembers _ _ _ _ _).trans (keepsMarks_releasePipe _ _)))

/-- A stop ends its own descriptor and leaves the marks of every other. -/
theorem stopDesc_marks {d : Nat} {s : State} (st : Byte) (tell : Bool) :
    (stopDesc d st tell s).qe.cancelled = s.qe.cancelled ∧
    ∀ e v, desc s e = some v → ∃ w, desc (stopDesc d st tell s) e = some w ∧ w.bits = v.bits ∧
      (e = d → w.stopped = true) ∧ (e ≠ d → SameMarks v w) := by
  cases hd : desc s d with
  | none =>
    rw [stopDesc_none hd]
    exact ⟨rfl, fun e v hv => ⟨v, hv, rfl, fun same => absurd (hd.symm.trans (same ▸ hv)) (by simp), fun _ => .refl v⟩⟩
  | some x =>
    obtain ⟨cancelled, marks⟩ := stopDesc_keepsMarks hd st tell
    refine ⟨cancelled, fun e v hv => ?_⟩
    by_cases same : e = d
    · subst same
      obtain ⟨w, hw, stopped, -, -, bits⟩ := marks e _ (desc_setDesc_same _ _ _)
      obtain rfl : x = v := Option.some.inj (hd.symm.trans hv)
      exact ⟨w, hw, bits, fun _ => stopped, fun other => absurd rfl other⟩
    · obtain ⟨w, hw, kept⟩ := marks e v (by rwa [desc_setDesc_ne _ _ _ _ same])
      exact ⟨w, hw, kept.2.2.2, fun eq => absurd eq same, fun _ => kept⟩

/-! #### Cancelled groups -/

/-- A group's bit set for a partition. -/
def setCancelled (part g : Nat) (s : State) : State :=
  if s.qe.cancelled.contains (g, part) then s
  else { s with qe := { s.qe with cancelled := s.qe.cancelled ++ [(g, part)] } }

theorem mem_setCancelled (part g : Nat) (s : State) (x : Nat × Nat) :
    x ∈ (setCancelled part g s).qe.cancelled ↔ x ∈ s.qe.cancelled ∨ x = (g, part) := by
  rw [setCancelled]
  split_ifs with present
  · rw [List.contains_iff_mem] at present
    exact ⟨.inl, fun h => h.elim id fun eq => eq ▸ present⟩
  · rw [List.mem_append, List.mem_singleton]

theorem descs_setCancelled (part g : Nat) (s : State) : (setCancelled part g s).qe.descs = s.qe.descs := by
  unfold setCancelled
  split_ifs <;> rfl

/-- An entry is stopped by the cancel of its group (R112). -/
def Stops (part g : Nat) (e : Nat × Desc) : Bool :=
  e.2.part = part && dCgEn e.2.bits && dGroup e.2.bits = g && !e.2.disabled && !e.2.stopped && !e.2.bad &&
    (none : Option Nat) != some e.1 && !e.2.allIssued

/-- What a cancel does to each descriptor of its table. -/
def stopIf (part g : Nat) (s : State) (e : Nat × Desc) : State :=
  if Stops part g e then stopDesc e.1 stCANCELLED true s else s

theorem cancelGroup_eq (part g : Nat) (s : State) :
    cancelGroup part g none s = s.qe.descs.entries.foldl (stopIf part g) (setCancelled part g s) := by
  rw [← descs_setCancelled part g s]
  rfl

/-- A cancel sets no other bit, and a descriptor whose entries it does not stop stays as it is. -/
theorem foldl_stopIf (part g : Nat) (l : List (Nat × Desc)) (s : State) :
    (l.foldl (stopIf part g) s).qe.cancelled = s.qe.cancelled ∧
    ∀ d v, desc s d = some v → ∃ w, desc (l.foldl (stopIf part g) s) d = some w ∧ w.bits = v.bits ∧
      ((∀ e ∈ l, e.1 = d → Stops part g e = false) → SameMarks v w) ∧
      (v.stopped = true ∨ (∃ e ∈ l, e.1 = d ∧ Stops part g e = true) → w.stopped = true) := by
  induction l generalizing s with
  | nil =>
    refine ⟨rfl, fun d v hv => ⟨v, hv, rfl, fun _ => .refl v, fun h => h.elim id ?_⟩⟩
    rintro ⟨e, he, -⟩
    cases he
  | cons e l ih =>
    obtain ⟨cancelled, later⟩ := ih (stopIf part g s e)
    cases stops : Stops part g e with
    | false =>
      have same : stopIf part g s e = s := by rw [stopIf, stops]; rfl
      rw [same] at cancelled later
      rw [List.foldl_cons, same]
      refine ⟨cancelled, fun d v hv => ?_⟩
      obtain ⟨w, hw, bits, keeps, ends⟩ := later d v hv
      refine ⟨w, hw, bits, fun none => keeps fun x hx => none x (List.mem_cons_of_mem _ hx), fun h => ends ?_⟩
      refine h.imp_right ?_
      rintro ⟨x, hx, own, stop⟩
      rcases List.mem_cons.mp hx with rfl | hx
      · rw [stops] at stop; cases stop
      · exact ⟨x, hx, own, stop⟩
    | true =>
      have stopped : stopIf part g s e = stopDesc e.1 stCANCELLED true s := by rw [stopIf, stops]; rfl
      obtain ⟨cancelled', marks⟩ := stopDesc_marks (d := e.1) (s := s) stCANCELLED true
      rw [stopped] at cancelled later
      rw [List.foldl_cons, stopped]
      refine ⟨cancelled.trans cancelled', fun d v hv => ?_⟩
      obtain ⟨u, hu, bits', own, others⟩ := marks d v hv
      obtain ⟨w, hw, bits, keeps, ends⟩ := later d u hu
      refine ⟨w, hw, bits.trans bits', fun none => ?_, fun h => ?_⟩
      · have other : d ≠ e.1 := by
          rintro rfl
          rw [none e List.mem_cons_self rfl] at stops
          cases stops
        exact (others other).trans (keeps fun x hx => none x (List.mem_cons_of_mem _ hx))
      · by_cases same : d = e.1
        · exact ends (.inl (own same))
        · refine ends (h.imp (fun was => (others same).1.trans was) ?_)
          rintro ⟨x, hx, eq, stop⟩
          rcases List.mem_cons.mp hx with rfl | hx
          · exact absurd eq.symm same
          · exact ⟨x, hx, eq, stop⟩

/-- Settles O38: a cancel sets one bit and stops the entries of one group, one after another. -/
theorem cancelStopsTheGroup : Obligations.CancelStopsTheGroup := by
  intro part g s
  obtain ⟨cancelled, marks⟩ := foldl_stopIf part g s.qe.descs.entries (setCancelled part g s)
  have same (d : Nat) : desc (setCancelled part g s) d = desc s d := by rw [desc, descs_setCancelled, desc]
  rw [← cancelGroup_eq] at cancelled marks
  refine ⟨fun x => ?_, fun d v hv other => ?_, fun d v hv hpart en group enabled readable => ?_⟩
  · rw [cancelled, mem_setCancelled]
  · obtain ⟨w, hw, -, keeps, -⟩ := marks d v ((same d).trans hv)
    refine ⟨w, hw, keeps fun e he own => ?_⟩
    have out := other e he own
    simp only [Stops]
    grind
  · obtain ⟨w, hw, bits, keeps, ends⟩ := marks d v ((same d).trans hv)
    refine ⟨w, hw, bits, ?_⟩
    by_cases done : ∃ e ∈ s.qe.descs.entries, e.1 = d ∧ Stops part g e = true
    · exact .inr (ends (.inr done))
    · have kept : SameMarks v w := keeps fun e he own => by
        by_contra stop
        exact done ⟨e, he, own, by simpa using stop⟩
      cases was : v.stopped with
      | true => exact .inr (ends (.inl was))
      | false =>
        left
        refine ⟨?_, kept.2.2.1⟩
        by_contra issuing
        refine done ⟨(d, v), mem_of_find hv, rfl, ?_⟩
        simpa [Stops, hpart, en, group, enabled, readable, was] using issuing

end Sys2Proof.Proofs

/-! ### Routes (R222, R231 to R233, R242, R250) -/

namespace Sys2Proof.Proofs

open Sys2Proof Sys2Proof.Machine Sys2Proof.Laws

theorem leastBy_mem {α : Type} {key : α → Nat} {l : List α} {a : α} (h : leastBy key l = some a) : a ∈ l := by
  induction l with
  | nil => cases h
  | cons b l ih =>
    rw [leastBy] at h
    cases rest : leastBy key l with
    | none =>
      rw [rest] at h
      exact Option.some.inj h ▸ List.mem_cons_self
    | some c =>
      rw [rest] at h
      dsimp only at h
      split_ifs at h
      · obtain rfl := Option.some.inj h
        exact List.mem_cons_of_mem _ (ih rest)
      · exact Option.some.inj h ▸ List.mem_cons_self

theorem pickLink_mem {s : State} {ks : List Nat} {k : Nat} (h : pickLink s ks = some k) : k ∈ ks := by
  have among := leastBy_mem h
  split_ifs at among
  · exact among
  · exact List.mem_of_mem_filter among

/-- What a link that shows GO offers (R222, R250). -/
theorem mem_goLinks {s : State} {port k : Nat} {relay : Bool} {vc : BitVec 3} (h : k ∈ goLinks s port relay vc) :
    k ∈ portLinks s port ∧ linkUsable s k relay = true ∧ linkGo s k vc = true := by
  obtain ⟨usable, go⟩ := List.mem_filter.mp h
  obtain ⟨held, usable⟩ := List.mem_filter.mp usable
  exact ⟨held, usable, go⟩

/-- A link that carries packets of every type carries relay packets. -/
theorem linkUsable_of_plain {s : State} {k : Nat} (h : linkUsable s k false = true) (relay : Bool) :
    linkUsable s k relay = true := by
  simp only [linkUsable, Bool.and_eq_true, Bool.or_eq_true, Bool.false_and, Bool.false_eq_true, false_or] at h ⊢
  exact ⟨h.1, .inr h.2⟩

/-- A route that R222, R242 and R250 allow for a packet, which it changes in its VC only. -/
def GoodRoute (s : State) (p : Packet) (k : Nat) (q : Packet) : Prop :=
  q = { p with vc := q.vc } ∧ linkUsable s k (isRelay p.ptype) = true ∧ linkGo s k q.vc = true ∧
  ∃ port, k ∈ portLinks s port ∧ portAdmits s port p.ptype p.pkey = true

/-- A change of the VC before the route does not matter. -/
theorem GoodRoute.of_vc {s : State} {p q : Packet} {k : Nat} {vc : BitVec 3} (h : GoodRoute s { p with vc := vc } k q) :
    GoodRoute s p k q := by
  obtain ⟨same, rest⟩ := h
  exact ⟨by rw [same], rest⟩

/-- A link picked for a packet on the VC it carries is a good route. -/
theorem goodRoute_pickLink {s : State} {p : Packet} {port k : Nat} {relay : Bool}
    (h : pickLink s (goLinks s port relay p.vc) = some k) (admits : portAdmits s port p.ptype p.pkey = true)
    (usable : linkUsable s k relay = true → linkUsable s k (isRelay p.ptype) = true) : GoodRoute s p k p := by
  obtain ⟨held, use, go⟩ := mem_goLinks (pickLink_mem h)
  exact ⟨rfl, usable use, go, port, held, admits⟩

theorem escapeVia_go {s : State} {p q : Packet} {port k : Nat} (h : escapeVia s p port = .go k q) :
    GoodRoute s p k q := by
  unfold escapeVia at h
  dsimp only at h
  split_ifs at h with down sumped restamp barred
  split at h
  · next picked =>
    obtain ⟨rfl, rfl⟩ := Decision.go.inj h
    exact goodRoute_pickLink picked (by simpa using barred) id
  · cases h

theorem escapeMove_go {s : State} {p q : Packet} {port k : Nat} (h : escapeMove s p port = .go k q) :
    GoodRoute s p k q := by
  unfold escapeMove at h
  dsimp only at h
  split at h
  · cases h
  · exact (escapeVia_go h).of_vc

theorem mem_candidates {s : State} {p : Packet} {adp port : Nat} (h : port ∈ candidates s p adp) :
    portAdmits s port p.ptype p.pkey = true := by
  have meets := (List.mem_filter.mp h).2
  simp only [Bool.and_eq_true] at meets
  obtain ⟨⟨-, admits⟩, -⟩ := meets
  exact admits

/-- The route of a packet whose VC is settled: the least loaded candidate, or the escape port (R231, R232). -/
def decideOn (s : State) (p : Packet) (adp esc : Nat) (forced : Bool) : Decision :=
  if isAdaptive p.vc then
    if (candidates s p adp).isEmpty || forced then escapeMove s p esc
    else
      match leastBy (portKey s) ((candidates s p adp).filter fun q => !(goLinks s q false p.vc).isEmpty) with
      | none => .wait
      | some q =>
        match pickLink s (goLinks s q false p.vc) with
        | some k => .go k p
        | none => .wait
  else escapeVia s p esc

theorem decideOn_go {s : State} {p q : Packet} {adp esc k : Nat} {forced : Bool}
    (h : decideOn s p adp esc forced = .go k q) : GoodRoute s p k q := by
  unfold decideOn at h
  split_ifs at h
  · exact escapeMove_go h
  · split at h
    · cases h
    · next port least =>
      split at h
      · next picked =>
        obtain ⟨rfl, rfl⟩ := Decision.go.inj h
        have admits := mem_candidates (List.mem_of_mem_filter (leastBy_mem least))
        exact goodRoute_pickLink picked admits fun plain => linkUsable_of_plain plain _
      · cases h
  · exact escapeVia_go h

theorem decide1_table {s : State} {p : Packet} (noStep : stepPort s p = none) (enter forced : Bool) :
    decide1 s p enter forced =
      if !(routeEntry s p).testBit 31 then .noroute
      else decideOn s (if enter then { p with vc := enterVc s (natField (routeEntry s p) 0 16) p.vc } else p)
        (natField (routeEntry s p) 0 16) (natField (routeEntry s p) 16 4) forced := by
  rw [decide1, noStep]
  rfl

/-- Settles O50: whichever way the route is found, the link is one of a port that admits the packet. -/
theorem routesAreUsable : Obligations.RoutesAreUsable := by
  intro s p q enter forced k h
  change GoodRoute s p k q
  cases step : stepPort s p with
  | some port =>
    rw [decide1, step] at h
    exact escapeVia_go h
  | none =>
    rw [decide1_table step] at h
    split_ifs at h
    · exact GoodRoute.of_vc (decideOn_go h)
    · exact decideOn_go h

end Sys2Proof.Proofs

/-! ### Invalidation of translations, and the steering of links (R150, R381) -/

namespace Sys2Proof.Proofs

open Sys2Proof Sys2Proof.Machine Sys2Proof.Laws

/-! #### Walks that restart -/

/-- Walks and their memory requests have changed, and no walk is of a disabled directory. -/
def WalksMoved (s t : State) : Prop := ∃ mem walks, t = { s with mem := mem, xlt := { s.xlt with walks := walks } } ∧
  ∀ e ∈ walks.entries, dirEn s e.2.part = true

theorem WalksMoved.refl {s : State} (enabled : ∀ e ∈ s.xlt.walks.entries, dirEn s e.2.part = true) : WalksMoved s s :=
  ⟨s.mem, s.xlt.walks, rfl, enabled⟩

theorem WalksMoved.setWalk {s t : State} {w : Nat} {v : Walk} (h : WalksMoved s t) (enabled : dirEn s v.part = true) :
    WalksMoved s (setWalk w v t) := by
  obtain ⟨mem, walks, rfl, all⟩ := h
  refine ⟨_, _, rfl, fun e he => ?_⟩
  rcases mem_entries_set he with rfl | old
  · exact enabled
  · exact all e old

/-- The walks as a read of a walk leaves them: the walk waits for its parts. -/
def expectParts (w : Nat) (parts : List RdPart) (walks : Tbl Walk) : Tbl Walk :=
  match walks.find w with
  | some v => walks.set w { v with parts := parts }
  | none => walks

theorem WalksMoved.readWalk {s t : State} (w pa len : Nat) (h : WalksMoved s t) :
    WalksMoved s (readWalk w pa len t) := by
  obtain ⟨mem, walks, rfl, all⟩ := h
  refine ⟨_, expectParts w ((walkCuts pa len).map fun c => ⟨c.1 % 64, c.2, none⟩) walks, rfl, fun e he => ?_⟩
  unfold expectParts at he
  split at he
  next v found =>
    rcases mem_entries_set he with rfl | old
    · exact all (w, v) (mem_of_find found)
    · exact all e old
  next => exact all e he

theorem WalksMoved.beginWalk {s t : State} {w : Nat} {v : Walk} (h : WalksMoved s t) (enabled : dirEn s v.part = true) :
    WalksMoved s (beginWalk w v t) :=
  WalksMoved.readWalk _ _ _ (h.setWalk (by exact enabled))

/-- A walk of an enabled directory starts over, or waits for its handler. -/
theorem WalksMoved.restartWalk {s t : State} (w : Nat) (h : WalksMoved s t) : WalksMoved s (restartWalk w t) := by
  unfold Machine.restartWalk
  split
  next => exact h
  next v found =>
    obtain ⟨mem, walks, rfl, all⟩ := h
    have enabled : dirEn s v.part = true := all _ (mem_of_find found)
    dsimp only
    rw [if_neg (by
      change ¬(!dirEn s v.part) = true
      simp [enabled])]
    split_ifs
    · exact WalksMoved.beginWalk ⟨_, _, rfl, all⟩ enabled
    · exact ⟨_, _, rfl, all⟩

theorem WalksMoved.each_restartWalk {s t : State} (ws : List Nat) (h : WalksMoved s t) :
    WalksMoved s (each ws Machine.restartWalk t) := by
  induction ws generalizing t with
  | nil => exact h
  | cons w ws ih => exact ih (h.restartWalk w)

theorem nextWalk_mem {s : State} {x : Nat × Walk} (h : nextWalk s = some x) : x ∈ s.xlt.walks.entries := by
  refine List.mem_of_mem_filter (p := fun e => !e.2.active) ((perm_sortBy (fun x => Walk.age x.1 x.2) _).mem_iff.mp ?_)
  unfold nextWalk at h
  dsimp only at h
  split at h
  · next found => exact Option.some.inj h ▸ List.mem_of_find?_eq_some found
  · exact List.mem_of_head? h

theorem WalksMoved.grantHandlers {s t : State} (fuel : Nat) (h : WalksMoved s t) :
    WalksMoved s (grantHandlers fuel t) := by
  induction fuel generalizing t with
  | zero => exact h
  | succ fuel ih =>
    unfold Machine.grantHandlers
    split_ifs
    · exact h
    · split
      next w v next =>
        have enabled : dirEn s v.part = true := by
          obtain ⟨mem, walks, rfl, all⟩ := h
          exact all _ (nextWalk_mem next)
        exact ih (h.beginWalk enabled)
      next => exact h

/-! #### The first step of an invalidation -/

/-- The generation of a partition advanced (R149). -/
def advanceGen (p : Nat) (s : State) : State :=
  { s with xlt := { s.xlt with gens := s.xlt.gens.set p (genOf s p + 1) } }

theorem each_advanceGen (parts : List Nat) (s : State) (nodup : parts.Nodup) :
    ∃ gens, each parts advanceGen s = { s with xlt := { s.xlt with gens := gens } } ∧
      ∀ p, gens.get p 0 = genOf s p + (if p ∈ parts then 1 else 0) := by
  induction parts generalizing s with
  | nil => exact ⟨s.xlt.gens, rfl, fun p => rfl⟩
  | cons q parts ih =>
    obtain ⟨fresh, nodup⟩ := List.nodup_cons.mp nodup
    obtain ⟨gens, advanced, count⟩ := ih (advanceGen q s) nodup
    refine ⟨gens, advanced, fun p => ?_⟩
    rw [count p]
    by_cases same : p = q
    · subst same
      rw [if_neg fresh, if_pos List.mem_cons_self]
      exact get_set_same _ _ _ _
    · have kept : genOf (advanceGen q s) p = genOf s p := get_set_ne _ _ _ _ _ same
      rw [kept]
      simp only [List.mem_cons, same, false_or]

theorem invalidate_eq (cmd part : Nat) (parts : List Nat) (gone : Frag → Bool) (s : State) :
    invalidate cmd part parts gone s =
      let u := each parts advanceGen
        (forgetMaps parts { s with xlt := { s.xlt with frags := s.xlt.frags.filter fun f => !gone f } })
      grantHandlers 16 (each ((u.xlt.walks.filterV fun v => parts.contains v.part).map (·.1)) restartWalk
        { u with xlt := { u.xlt with inv := some ⟨cmd, part, parts.map fun p => (p, genOf u p)⟩ } }) := rfl

/-- Settles O47: the maps go and the generations advance, and then walks alone change. -/
theorem invalidationTakesEffect : Obligations.InvalidationTakesEffect := by
  intro cmd part parts gone s nodup enabled
  obtain ⟨gens, advanced, count⟩ := each_advanceGen parts
    (forgetMaps parts { s with xlt := { s.xlt with frags := s.xlt.frags.filter fun f => !gone f } }) nodup
  generalize mid : each parts advanceGen _ = u at advanced
  have hu : invalidate cmd part parts gone s = grantHandlers 16
      (each ((u.xlt.walks.filterV fun v => parts.contains v.part).map (·.1)) restartWalk
        { u with xlt := { u.xlt with inv := some ⟨cmd, part, parts.map fun p => (p, genOf u p)⟩ } }) := by
    rw [invalidate_eq, ← mid]
  have moved := WalksMoved.grantHandlers 16 (WalksMoved.each_restartWalk
    ((u.xlt.walks.filterV fun v => parts.contains v.part).map (·.1))
    (WalksMoved.refl (s := { u with xlt := { u.xlt with inv := some ⟨cmd, part, parts.map fun p => (p, genOf u p)⟩ } })
      (by rw [advanced]; exact enabled)))
  obtain ⟨mem, walks, eq, -⟩ := moved
  rw [hu, eq, advanced]
  refine ⟨rfl, rfl, count, ?_, rfl⟩
  refine congrArg (fun l => some (⟨cmd, part, l⟩ : InvCmd)) (List.map_congr_left fun p hp => ?_)
  exact congrArg (Prod.mk p) ((count p).trans (by rw [if_pos hp]; rfl))

/-! #### Steering -/

/-- What each step of a series leaves alone, the series leaves alone. -/
theorem each_keeps {α β : Type} {g : State → β} {f : α → State → State} (h : ∀ a s, g (f a s) = g s) (l : List α)
    (s : State) : g (each l f s) = g s := by
  induction l generalizing s with
  | nil => rfl
  | cons a l ih => exact (ih _).trans (h a s)

theorem keeper_requeueLink (k : Nat) (goes : Packet → Bool) (s : State) : (requeueLink k goes s).keeper = s.keeper :=
  (each_keeps (g := State.keeper) (f := requeue k) (fun _ _ => rfl) _ _).trans rfl

theorem keeper_exclPort (p : Nat) (s : State) : (exclPort p s).keeper = s.keeper := by
  unfold exclPort
  split_ifs
  · rfl
  · exact (each_keeps (g := State.keeper) (fun k s => keeper_requeueLink k _ s) _ _).trans rfl

theorem keeper_applyExclusion (s : State) : (applyExclusion s).keeper = s.keeper := by
  unfold applyExclusion
  dsimp only
  split_ifs
  · refine (each_keeps (g := State.keeper) (fun p s => ?_) _ _)
    split_ifs
    · exact keeper_exclPort p s
    · rfl
    · rfl
  · rfl

theorem steered_steer (k : Nat) (s : State) : (steer k s).keeper.steered = steeredNow s k := by
  rw [steer, keeper_applyExclusion]
  rfl

theorem noisy_iff (s : State) (k : Nat) : noisy s k = true ↔ uncorrMax s < (uncorrNow s k).length := decide_eq_true_iff

theorem quietLong_iff (s : State) (k : Nat) : quietLong s k = true ↔
    ¬uncorrMax s < (uncorrNow s k).length ∧ ∀ t, (link s k).noisyAt = some t → t + 10000000 ≤ s.now := by
  rw [quietLong, Bool.and_eq_true, Bool.not_eq_true', ← Bool.not_eq_true, noisy_iff]
  cases (link s k).noisyAt <;> simp

/-- The look at a link that is not excluded. -/
theorem mem_steeredNow_of_included {s : State} {k : Nat} (included : k ∉ s.keeper.steered) (j : Nat) :
    j ∈ steeredNow s k ↔ j ∈ s.keeper.steered ∨
      (j = k ∧ (worstMargin s k < fld s Reg.MGT_STEER_CTL 8 7 ∨ noisy s k = true)) := by
  simp only [steeredNow, List.contains_eq_mem, included, decide_false, Bool.not_false, Bool.true_and, Bool.false_and,
    Bool.or_eq_true, decide_eq_true_eq, Bool.false_eq_true, if_false]
  split_ifs with excludes
  · simp only [List.mem_cons, excludes, and_true, or_comm]
  · simp only [excludes, and_false, or_false]

/-- The look at a link that is excluded. -/
theorem mem_steeredNow_of_excluded {s : State} {k : Nat} (excluded : k ∈ s.keeper.steered) (j : Nat) :
    j ∈ steeredNow s k ↔ j ∈ s.keeper.steered ∧
      ¬(j = k ∧ fld s Reg.MGT_STEER_CTL 8 7 + 3 ≤ worstMargin s k ∧ quietLong s k = true) := by
  simp only [steeredNow, List.contains_eq_mem, excluded, decide_true, Bool.not_true, Bool.true_and, Bool.false_and,
    Bool.and_eq_true, decide_eq_true_eq, Bool.false_eq_true, if_false]
  split_ifs with includes
  · simp [includes]
  · simp [includes]

/-- Settles O59: the links that are excluded change at the link looked at alone. -/
theorem steeringHasHysteresis : Obligations.SteeringHasHysteresis := by
  intro k s low window loud quiet
  refine ⟨fun included => ?_, fun excluded => ?_, fun j other => ?_, ?_, fun many => ?_, fun few => ?_⟩
  · rw [steered_steer, mem_steeredNow_of_included included, noisy_iff]
    simp only [included, true_and, false_or]
    rfl
  · rw [steered_steer, mem_steeredNow_of_excluded excluded, quietLong_iff]
    simp only [excluded, true_and, not_not]
    rfl
  · rw [steered_steer]
    by_cases excluded : k ∈ s.keeper.steered
    · simp [mem_steeredNow_of_excluded excluded, other]
    · simp [mem_steeredNow_of_included excluded, other]
  · rw [noteUncorr, modLink, link_setLink_same]
    rfl
  · rw [noteUncorr, modLink, link_setLink_same]
    exact if_pos (by rw [List.length_append]; exact many)
  · rw [noteUncorr, modLink, link_setLink_same]
    exact if_neg (by rw [List.length_append]; exact not_lt.mpr few)

end Sys2Proof.Proofs

/-! ### Resets and the release (R327, R350 to R360, R372) -/

namespace Sys2Proof.Proofs

open Sys2Proof Sys2Proof.Machine Sys2Proof.Laws

/-! #### What a reset clears -/

/-- A burst that is cut off is one of the reset unit's, and shows at the pins (R360). -/
theorem startedBurst_frame (port : Nat) (s : State) : ∃ draws out bursts,
    startedBurst port s = { s with draws := draws, out := out, rst := { s.rst with bursts := bursts } } := by
  unfold startedBurst
  split
  · exact ⟨_, _, _, rfl⟩
  · dsimp only
    rw [onlyIf]
    split_ifs
    · exact ⟨_, _, _, rfl⟩
    · exact ⟨_, _, _, rfl⟩

theorem each_startedBurst_frame (l : List Nat) (s : State) : ∃ draws out bursts,
    each l startedBurst s = { s with draws := draws, out := out, rst := { s.rst with bursts := bursts } } := by
  induction l generalizing s with
  | nil => exact ⟨_, _, _, rfl⟩
  | cons p l ih =>
    obtain ⟨draws, out, bursts, first⟩ := startedBurst_frame p s
    obtain ⟨draws', out', bursts', rest⟩ := ih (startedBurst p s)
    refine ⟨draws', out', bursts', rest.trans ?_⟩
    rw [first]

/-- No burst has started where no request is out. -/
theorem each_startedBurst_idle (l : List Nat) {s : State} (idle : s.mem.out = []) : each l startedBurst s = s := by
  induction l with
  | nil => rfl
  | cons p l ih =>
    have none : startedBurst p s = s := by
      rw [startedBurst, idle]
      rfl
    rw [each_cons, none, ih]

/-- The core island as it is held in reset, but for the write bursts that its ports finish (R353). -/
def holdCore (stale : List StaleReq) (incarn : BitVec 64) (s : State) : State :=
  let s := setReg Reg.FAB_INCARN incarn (clearRegs isCoreReg s)
  { s with
    evq := []
    rst := { s.rst with coreUp := false, unitsUp := false, tiles := 0, stale := s.rst.stale ++ stale }
    sec := { s.sec with parts := Tbl.empty, quarantine := [], keys := s.sec.keys.keep (· < 4), chans := Tbl.empty,
                        cfgDigest := none, cfgDirect := false }
    txn := Txn.initial, mem := MemPorts.initial, xlt := Xlat.initial, imp := Impeller.initial, qe := QueueEng.initial
    seq := Sequencer.initial, router := Router.initial
    keeper := { s.keeper with hostBusy := false } }

theorem resetCore_eq (s : State) : resetCore s =
    holdCore (staleOf s.mem) (reg s Reg.FAB_INCARN) (each (List.range 16) startedBurst s) := by
  unfold resetCore
  dsimp only
  generalize each (List.range 16) startedBurst s = u
  rfl

/-- The state of a core reset, up to what its ports still show. -/
theorem resetCore_frame (s : State) : ∃ draws out bursts, resetCore s =
    holdCore (staleOf s.mem) (reg s Reg.FAB_INCARN)
      { s with draws := draws, out := out, rst := { s.rst with bursts := bursts } } := by
  obtain ⟨draws, out, bursts, same⟩ := each_startedBurst_frame (List.range 16) s
  exact ⟨draws, out, bursts, by rw [resetCore_eq, same]⟩

theorem reg_resetCore (s : State) (a : Nat) (other : a ≠ Reg.FAB_INCARN) :
    reg (resetCore s) a = if isCoreReg a then resetValue a else reg s a := by
  obtain ⟨draws, out, bursts, same⟩ := resetCore_frame s
  rw [same]
  refine (reg_setReg_ne _ _ _ _ other).trans ?_
  exact reg_clearRegs _ _ _

theorem incarn_resetCore (s : State) : reg (resetCore s) Reg.FAB_INCARN = reg s Reg.FAB_INCARN := by
  obtain ⟨draws, out, bursts, same⟩ := resetCore_frame s
  rw [same]
  exact reg_setReg_same _ _ _

theorem reg_resetLinks (soft : Bool) (s : State) (a : Nat) : reg (resetLinks soft s) a =
    if 0x40000 ≤ a && a < 0xA4000 then resetValue a else reg s a := reg_clearRegs _ _ _

theorem reg_resetKeeperIsland (s : State) (a : Nat) : reg (resetKeeperIsland s) a =
    if 0x6000 ≤ a && a < 0x7000 then resetValue a else reg s a := reg_clearRegs _ _ _

/-- The registers of the core, the links and the lanes, but for the incarnation (R352, R353). -/
def ClearedReg (a : Nat) : Prop := (isCoreReg a = true ∨ (0x40000 ≤ a ∧ a < 0xA4000)) ∧ a ≠ Reg.FAB_INCARN

theorem ClearedReg.ne_cause {a : Nat} (h : ClearedReg a) : a ≠ Reg.RST_CAUSE := by
  rintro rfl
  exact absurd h.1 (by decide)

theorem reg_heldIslands {a : Nat} (h : ClearedReg a) (soft : Bool) (s : State) :
    reg (resetLinks soft (resetCore s)) a = resetValue a := by
  rw [reg_resetLinks, reg_resetCore _ _ h.2]
  rcases h.1 with core | link
  · rw [core, if_pos rfl, ite_self]
  · rw [if_pos (by simp [link])]

theorem reg_clearedByReset_island {a : Nat} (h : ClearedReg a) (cause : Nat) (s : State) :
    reg (clearedByReset cause s) a = resetValue a := by
  rw [clearedByReset, reg_setReg_ne _ _ _ _ h.ne_cause, reg_clearRegs, reg_resetKeeperIsland, reg_heldIslands h,
    ite_self,
    ite_self]

theorem incarn_clearedByReset (cause : Nat) (s : State) :
    reg (clearedByReset cause s) Reg.FAB_INCARN = reg s Reg.FAB_INCARN := by
  rw [clearedByReset, reg_setReg_ne _ _ _ _ (by decide), reg_clearRegs, if_neg (by decide), reg_resetKeeperIsland,
    if_neg (by decide), reg_resetLinks, if_neg (by decide), incarn_resetCore]

theorem reg_takeReset_island {a : Nat} (h : ClearedReg a) (sc : Scope) (cause : Nat) (s : State) :
    reg (takeReset sc cause s) a = resetValue a := by
  cases sc with
  | power => rw [takeReset_power, reg_modRst, reg_losePower, reg_setReg_ne _ _ _ _ h.2, reg_clearedByReset_island h]
  | hard => rw [takeReset_hard, reg_modRst, reg_setReg_ne _ _ _ _ h.2, reg_clearedByReset_island h]
  | soft => rw [takeReset_soft, reg_modRst, reg_setReg_ne _ _ _ _ h.ne_cause, reg_heldIslands h]

theorem cause_takeReset (sc : Scope) (cause : Nat) (s : State) :
    reg (takeReset sc cause s) Reg.RST_CAUSE = BitVec.ofNat 64 cause := by
  cases sc with
  | power =>
    rw [takeReset_power, reg_modRst, reg_losePower, reg_setReg_ne _ _ _ _ (by decide), clearedByReset, reg_setReg_same]
  | hard => rw [takeReset_hard, reg_modRst, reg_setReg_ne _ _ _ _ (by decide), clearedByReset, reg_setReg_same]
  | soft => rw [takeReset_soft, reg_modRst, reg_setReg_same]

/-- The links as a reset leaves them: a soft one counts LRESETS up (R353). -/
theorem link_resetLinks (soft : Bool) (s : State) (k : Nat) : (link (resetLinks soft s) k).state = .down := by
  have inTable (f : Nat → BitVec 16) (l : List Nat) :
      ((⟨l.map fun k => (k, { Link.initial with lresets := f k })⟩ : Tbl Link).get k Link.initial).state = .down := by
    induction l with
    | nil => rfl
    | cons j l ih =>
      by_cases own : j = k
      · simp only [Tbl.get, Tbl.find, List.map_cons, lookupIn, own, if_true]
        rfl
      · simp only [Tbl.get, Tbl.find, List.map_cons, lookupIn, own, if_false]
        exact ih
  cases soft with
  | false => rfl
  | true => exact inTable (fun k => (link s k).lresets + 1) (List.range 36)

theorem links_clearedByReset (cause : Nat) (s : State) :
    (clearedByReset cause s).links = (resetLinks false (resetCore s)).links := by
  unfold clearedByReset
  generalize resetLinks false (resetCore s) = u
  rfl

theorem link_takeReset (sc : Scope) (cause : Nat) (s : State) (k : Nat) :
    (link (takeReset sc cause s) k).state = .down := by
  have links : (takeReset sc cause s).links = (resetLinks (sc == .soft) (resetCore s)).links := by
    cases sc with
    | power =>
      rw [takeReset_power]
      exact links_clearedByReset cause s
    | hard =>
      rw [takeReset_hard]
      exact links_clearedByReset cause s
    | soft =>
      rw [takeReset_soft]
      change (resetLinks true (resetCore s)).links = _
      rfl
  rw [link, links]
  exact link_resetLinks _ _ k

/-- What every reset leaves of the islands and of what does not belong to them (R350, R353). -/
def TakenDown (s t : State) : Prop :=
  coreUp t = false ∧ unitsUp t = false ∧ t.rst.tiles = 0 ∧ t.flash = s.flash ∧ t.fuses = s.fuses ∧
  t.pending = s.pending ∧ t.mem = MemPorts.initial ∧ t.txn = Txn.initial ∧ t.qe = QueueEng.initial ∧
  t.lanes = Tbl.empty ∧ (∀ k, (link t k).state = .down) ∧
  ∀ a, isCoreReg a = true ∨ (0x40000 ≤ a ∧ a < 0xA4000) → a ≠ Reg.FAB_INCARN → reg t a = resetValue a

/-- What no reset touches: the waiting commands, the flash and the fuses. -/
def durable (s : State) : List Instr × Flash × Fuses := (s.pending, s.flash, s.fuses)

/-- What only a power-on touches, and the inputs of the reset unit. -/
def lasting (s : State) : Option Fuses × Nat × Bool × Bool × Bool × Bool × Bool :=
  (s.shadow, s.now, s.sec.openBit, s.rst.porLow, s.rst.hardLow, s.rst.trip, s.rst.tripDue)

section
variable (s : State)

theorem durable_setReg (a : Nat) (v : BitVec 64) : durable (setReg a v s) = durable s := rfl

theorem durable_clearRegs (p : Nat → Bool) : durable (clearRegs p s) = durable s := rfl

theorem durable_resetKeeperIsland : durable (resetKeeperIsland s) = durable s := rfl

theorem durable_resetLinks (soft : Bool) : durable (resetLinks soft s) = durable s := rfl

theorem durable_holdCore (stale : List StaleReq) (incarn : BitVec 64) :
    durable (holdCore stale incarn s) = durable s := rfl

theorem durable_modRst (f : ResetUnit → ResetUnit) : durable (modRst f s) = durable s := rfl

theorem durable_losePower : durable (losePower s) = durable s := rfl

theorem durable_resetCore : durable (resetCore s) = durable s := by
  obtain ⟨draws, out, bursts, same⟩ := resetCore_frame s
  rw [same, durable_holdCore]
  rfl

theorem durable_clearedByReset (cause : Nat) : durable (clearedByReset cause s) = durable s := by
  rw [clearedByReset, durable_setReg, durable_clearRegs, durable_resetKeeperIsland, durable_resetLinks,
    durable_resetCore]

theorem durable_takeReset (sc : Scope) (cause : Nat) : durable (takeReset sc cause s) = durable s := by
  cases sc with
  | power => rw [takeReset_power, durable_modRst, durable_losePower, durable_setReg, durable_clearedByReset]
  | hard => rw [takeReset_hard, durable_modRst, durable_setReg, durable_clearedByReset]
  | soft => rw [takeReset_soft, durable_modRst, durable_setReg, durable_resetLinks, durable_resetCore]

theorem lasting_setReg (a : Nat) (v : BitVec 64) : lasting (setReg a v s) = lasting s := rfl

theorem lasting_clearRegs (p : Nat → Bool) : lasting (clearRegs p s) = lasting s := rfl

theorem lasting_resetKeeperIsland : lasting (resetKeeperIsland s) = lasting s := rfl

theorem lasting_resetLinks (soft : Bool) : lasting (resetLinks soft s) = lasting s := rfl

theorem lasting_holdCore (stale : List StaleReq) (incarn : BitVec 64) :
    lasting (holdCore stale incarn s) = lasting s := rfl

theorem lasting_step (st : RelStep) (soft : Bool) :
    lasting (modRst (fun r => { r with step := st, soft := soft }) s) = lasting s := rfl

theorem lasting_resetCore : lasting (resetCore s) = lasting s := by
  obtain ⟨draws, out, bursts, same⟩ := resetCore_frame s
  rw [same, lasting_holdCore]
  rfl

theorem lasting_clearedByReset (cause : Nat) : lasting (clearedByReset cause s) = lasting s := by
  rw [clearedByReset, lasting_setReg, lasting_clearRegs, lasting_resetKeeperIsland, lasting_resetLinks,
    lasting_resetCore]

theorem lasting_takeReset {sc : Scope} (kept : sc ≠ .power) (cause : Nat) :
    lasting (takeReset sc cause s) = lasting s := by
  cases sc with
  | power => exact absurd rfl kept
  | hard => rw [takeReset_hard, lasting_step, lasting_setReg, lasting_clearedByReset]
  | soft => rw [takeReset_soft, lasting_step, lasting_setReg, lasting_resetLinks, lasting_resetCore]

end

/-- What the islands hold in a reset. -/
theorem takeReset_holds (sc : Scope) (cause : Nat) (s : State) :
    let t := takeReset sc cause s
    coreUp t = false ∧ unitsUp t = false ∧ t.rst.tiles = 0 ∧ t.mem = MemPorts.initial ∧ t.txn = Txn.initial ∧
    t.qe = QueueEng.initial ∧ t.lanes = Tbl.empty := by
  obtain ⟨draws, out, bursts, same⟩ := resetCore_frame s
  cases sc with
  | power =>
    rw [takeReset_power, clearedByReset, same]
    exact ⟨rfl, rfl, rfl, rfl, rfl, rfl, rfl⟩
  | hard =>
    rw [takeReset_hard, clearedByReset, same]
    exact ⟨rfl, rfl, rfl, rfl, rfl, rfl, rfl⟩
  | soft =>
    rw [takeReset_soft, same]
    exact ⟨rfl, rfl, rfl, rfl, rfl, rfl, rfl⟩

theorem takenDown_takeReset (sc : Scope) (cause : Nat) (s : State) : TakenDown s (takeReset sc cause s) := by
  obtain ⟨core, units, tiles, mem, txn, qe, lanes⟩ := takeReset_holds sc cause s
  have kept := durable_takeReset s sc cause
  simp only [durable, Prod.mk.injEq] at kept
  obtain ⟨pending, flash, fuses⟩ := kept
  exact ⟨core, units, tiles, flash, fuses, pending, mem, txn, qe, lanes, link_takeReset sc cause s,
    fun a island other => reg_takeReset_island ⟨island, other⟩ sc cause s⟩

/-- A hard reset or a power-on holds the release and the keeper. -/
theorem takeReset_unit {sc : Scope} (hard : sc ≠ .soft) (cause : Nat) (s : State) :
    (takeReset sc cause s).rst.step = .held ∧ (takeReset sc cause s).rst.keeperUp = false := by
  have keeper : (clearedByReset cause s).rst.keeperUp = false := by
    unfold clearedByReset
    generalize resetLinks false (resetCore s) = u
    rfl
  cases sc with
  | power =>
    rw [takeReset_power]
    exact ⟨rfl, keeper⟩
  | hard =>
    rw [takeReset_hard]
    exact ⟨rfl, keeper⟩
  | soft => exact absurd rfl hard

/-- What a power-on clears besides (R352, R353). -/
theorem takeReset_power_clears (cause : Nat) (s : State) :
    let t := takeReset .power cause s
    t.rst.porLow = s.rst.porLow ∧ t.rst.trip = s.rst.trip ∧ t.shadow = none ∧ t.now = 0 ∧ t.sec.openBit = false ∧
    reg t Reg.FAB_INCARN = 0 := by
  have kept := lasting_clearedByReset s cause
  simp only [lasting, Prod.mk.injEq] at kept
  obtain ⟨-, -, -, por, -, trip, -⟩ := kept
  rw [takeReset_power]
  generalize clearedByReset cause s = u at por trip
  exact ⟨por, trip, rfl, rfl, rfl, reg_setReg_same _ _ _⟩

/-- A hard reset counts the incarnation up (R352). -/
theorem incarn_takeReset_hard (cause : Nat) (s : State) :
    reg (takeReset .hard cause s) Reg.FAB_INCARN = nextIncarn s := by
  rw [takeReset_hard, reg_modRst, reg_setReg_same, nextIncarn, fld, incarn_clearedByReset, nextIncarn, fld]

theorem coreReset_powerOn (s : State) {w : Nat} (long : 80 ≤ w) : ∃ t, exec (.powerOn w) s = .next t ∧ TakenDown s t ∧
    t.rst.step = .held ∧ t.rst.keeperUp = false ∧ t.rst.porLow = true ∧ t.rst.trip = false ∧ t.shadow = none ∧
    t.now = 0 ∧
    t.sec.openBit = false ∧ reg t Reg.RST_CAUSE = 0 ∧ reg t Reg.FAB_INCARN = 0 := by
  refine ⟨_, exec_powerOn_long long s, ?_⟩
  generalize pulled : modRst (fun x => { x with porLow := true, trip := false }) s = u
  obtain ⟨por, trip, shadow, now, shut, incarn⟩ := takeReset_power_clears causePOR u
  obtain ⟨step, keeper⟩ := takeReset_unit (sc := .power) (by decide) causePOR u
  have down := takenDown_takeReset .power causePOR u
  rw [por, trip]
  subst pulled
  exact ⟨down, step, keeper, rfl, rfl, shadow, now, shut, cause_takeReset _ _ _, incarn⟩

theorem coreReset_hardReset (s : State) {w : Nat} (long : 80 ≤ w) (high : s.rst.porLow = false) :
    ∃ t, exec (.hardReset w) s = .next t ∧ TakenDown s t ∧ t.rst.step = .held ∧ t.rst.keeperUp = false ∧
    t.rst.hardLow = true ∧ t.shadow = s.shadow ∧ t.now = s.now ∧ t.sec.openBit = s.sec.openBit ∧
    reg t Reg.RST_CAUSE = 1 ∧ reg t Reg.FAB_INCARN = nextIncarn s := by
  refine ⟨_, exec_hardReset_long long high, ?_⟩
  generalize pulled : modRst (fun x => { x with hardLow := true, trip := x.trip && !allCool s }) s = u
  obtain ⟨step, keeper⟩ := takeReset_unit (sc := .hard) (by decide) causeHARD u
  have kept := lasting_takeReset u (sc := .hard) (by decide) causeHARD
  simp only [lasting, Prod.mk.injEq] at kept
  obtain ⟨shadow, now, shut, -, low, -, -⟩ := kept
  have down := takenDown_takeReset .hard causeHARD u
  have incarn := incarn_takeReset_hard causeHARD u
  rw [shadow, now, shut, low]
  subst pulled
  exact ⟨down, step, keeper, rfl, rfl, rfl, rfl, cause_takeReset _ _ _, incarn⟩

theorem coreReset_thermalTrip (s : State) (high : s.rst.porLow = false) (untripped : s.rst.trip = false)
    (due : s.rst.tripDue = true) : ∃ t, exec .thermalTrip s = .next t ∧ TakenDown s t ∧ t.rst.step = .held ∧
    t.rst.keeperUp = false ∧ t.rst.trip = true ∧ t.rst.tripDue = false ∧ t.shadow = s.shadow ∧
    reg t Reg.RST_CAUSE = 2 ∧ reg t Reg.FAB_INCARN = nextIncarn s := by
  have taken : exec .thermalTrip s = .next (takeReset .hard causeTHERMAL
      (modRst (fun x => { x with trip := true, tripDue := false }) s)) := by
    change Host.Outcome.next (onlyIf (!s.rst.porLow && !s.rst.trip && s.rst.tripDue) _ s) = _
    rw [high, untripped, due]
    rfl
  refine ⟨_, taken, ?_⟩
  generalize tripped : modRst (fun x => { x with trip := true, tripDue := false }) s = u
  obtain ⟨step, keeper⟩ := takeReset_unit (sc := .hard) (by decide) causeTHERMAL u
  have kept := lasting_takeReset u (sc := .hard) (by decide) causeTHERMAL
  simp only [lasting, Prod.mk.injEq] at kept
  obtain ⟨shadow, -, -, -, -, trip, due'⟩ := kept
  have down := takenDown_takeReset .hard causeTHERMAL u
  have incarn := incarn_takeReset_hard causeTHERMAL u
  rw [shadow, trip, due']
  subst tripped
  exact ⟨down, step, keeper, rfl, rfl, rfl, cause_takeReset _ _ _, incarn⟩

/-- A soft reset that is ready leaves the keeper, the pins and the free values alone (R353, R358). -/
theorem takeReset_soft_keeps (cause : Nat) {s : State} (idle : s.mem.out = []) :
    let t := takeReset .soft cause s
    t.rst.step = .pll ∧ t.rst.keeperUp = s.rst.keeperUp ∧ t.keeper = { s.keeper with hostBusy := false } ∧
    t.out = s.out ∧
    t.draws = s.draws := by
  rw [takeReset_soft, resetCore_eq, each_startedBurst_idle _ idle]
  dsimp only [modRst, setReg, resetLinks, clearRegs, holdCore]
  exact ⟨rfl, rfl, rfl, rfl, rfl⟩

theorem incarn_takeReset_soft (cause : Nat) (s : State) :
    reg (takeReset .soft cause s) Reg.FAB_INCARN = reg s Reg.FAB_INCARN := by
  rw [takeReset_soft, reg_modRst, reg_setReg_ne _ _ _ _ (by decide), reg_resetLinks, if_neg (by decide),
    incarn_resetCore]

theorem exec_softReset (s : State) : exec .softReset s = .next (softReset s) := rfl

theorem coreReset_softReset (s : State) (high : s.rst.porLow = false) (up : coreUp s = true) (ready : quiesced s = true)
    (sound : bit s Reg.GEN_STATUS 5 = false) : ∃ t, exec .softReset s = .next t ∧ TakenDown s t ∧ t.rst.step = .pll ∧
    t.rst.keeperUp = s.rst.keeperUp ∧ t.shadow = s.shadow ∧ t.keeper = { s.keeper with hostBusy := false } ∧
    t.out = s.out ∧ t.draws = s.draws ∧ reg t Reg.RST_CAUSE = 3 ∧ reg t Reg.FAB_INCARN = reg s Reg.FAB_INCARN := by
  have taken : softReset s = takeReset .soft causeSOFT s := by
    rw [softReset, if_neg (by simp [high]), if_pos (by simp [up, ready, sound])]
  have idle : s.mem.out = [] := by
    simp only [quiesced, Bool.and_eq_true, and_assoc] at ready
    exact List.isEmpty_iff.mp ready.2.1
  obtain ⟨step, keeperUp, keeper, out, draws⟩ := takeReset_soft_keeps causeSOFT idle
  have kept := lasting_takeReset s (sc := .soft) (by decide) causeSOFT
  simp only [lasting, Prod.mk.injEq] at kept
  exact ⟨_, congrArg Host.Outcome.next taken, takenDown_takeReset _ _ _, step, keeperUp, kept.1, keeper, out, draws,
    cause_takeReset _ _ _, incarn_takeReset_soft _ _⟩

theorem pulse_short {w : Nat} (short : w < 40) (s : State) : pulse w s = (false, s) := if_pos short

/-- Settles O29: each reset is a `takeReset` of its scope; a short pulse and a refused soft reset are none. -/
theorem resetsPutIslandsInReset : Obligations.ResetsPutIslandsInReset := by
  refine ⟨⟨fun s w long => coreReset_powerOn s long, fun s w long high => coreReset_hardReset s long high,
    coreReset_thermalTrip, coreReset_softReset, fun s quiet => ?_, fun s w short => ⟨?_, ?_⟩⟩, fun s high unready => ?_⟩
  · change Host.Outcome.next (onlyIf (!s.rst.porLow && !s.rst.trip && s.rst.tripDue) _ s) = _
    rw [quiet, Bool.and_false, onlyIf_false]
  · change Host.Outcome.next (if (pulse w s).1 then _ else _) = _
    rw [pulse_short short]
    rfl
  · change Host.Outcome.next (if !(pulse w s).1 then _ else _) = _
    rw [pulse_short short]
    rfl
  · rw [exec_softReset, softReset, if_neg (by simp [high]), if_neg (by simp [unready])]

/-! #### Keys, channels and partitions (R327) -/

theorem sec_clearedByReset (cause : Nat) (s : State) : (clearedByReset cause s).sec = (resetCore s).sec := by
  unfold clearedByReset
  generalize resetCore s = u
  rfl

/-- The security unit of a reset holds what a core reset leaves it, whatever the scope. -/
theorem sec_takeReset (sc : Scope) (cause : Nat) (s : State) :
    let t := takeReset sc cause s
    t.sec.keys = s.sec.keys.keep (· < 4) ∧ t.sec.chans = Tbl.empty ∧ t.sec.parts = Tbl.empty ∧
    t.sec.quarantine = [] := by
  have zeroized : (resetCore s).sec.keys = s.sec.keys.keep (· < 4) ∧ (resetCore s).sec.chans = Tbl.empty ∧
      (resetCore s).sec.parts = Tbl.empty ∧ (resetCore s).sec.quarantine = [] := by
    obtain ⟨draws, out, bursts, same⟩ := resetCore_frame s
    rw [same]
    exact ⟨rfl, rfl, rfl, rfl⟩
  cases sc with
  | power =>
    rw [← sec_clearedByReset cause] at zeroized
    rw [takeReset_power]
    exact zeroized
  | hard =>
    rw [← sec_clearedByReset cause] at zeroized
    rw [takeReset_hard]
    exact zeroized
  | soft =>
    rw [takeReset_soft]
    exact zeroized

/-- Settles O30: the tables of the security unit are emptied, but for the first key slots. -/
theorem coreResetZeroizes : Obligations.CoreResetZeroizes := by
  intro sc cause s t
  obtain ⟨keys, chans, parts, quarantine⟩ := sec_takeReset sc cause s
  refine ⟨fun i high => ?_, fun i low => ?_, fun c => ?_, fun p => ?_, quarantine⟩
  · rw [keys, find_keep, if_neg (by simpa using high)]
  · rw [keys, find_keep, if_pos (by simpa using low)]
  · rw [chanOf, chans]
    rfl
  · rw [partOf, parts]
    rfl

end Sys2Proof.Proofs

/-! ### Steps, ticks and the release -/

namespace Sys2Proof.Proofs

open Sys2Proof Sys2Proof.Machine Sys2Proof.Laws

/-- Settles O1: a step is `exec` of the front command, with the rest of the queue. -/
theorem stepRunsTheFrontCommand : Obligations.StepRunsTheFrontCommand := fun _ _ _ => rfl

/-- A new sequenced flit needs a running transmitter and room in the replay buffer, and a DATA flit a credit. -/
theorem conditions_of_sendNext {k : Nat} {s t : State} (sent : sendNext k s = some t) :
    txReady s k = true ∧ replayRoom (link s k) = true ∧
      ((link s k).auditDue = true ∨ hasCredit (link s k) = true) := by
  unfold sendNext at sent
  dsimp only at sent
  split at sent
  · cases sent
  · rename_i free
    have runs : txReady s k = true ∧ replayRoom (link s k) = true := by simpa using free
    split at sent
    · rename_i audit
      exact ⟨runs.1, runs.2, .inl audit⟩
    · split at sent
      · cases sent
      · rename_i credit
        exact ⟨runs.1, runs.2, .inr (by simpa using credit)⟩

/-- Settles O18. -/
theorem creditBoundsTheLink : Obligations.CreditBoundsTheLink := by
  intro k s t sent
  obtain ⟨ready, room, credit⟩ := conditions_of_sendNext sent
  obtain ⟨⟨up, active⟩, -⟩ : (tileUp s k = true ∧ (link s k).state = .active) ∧ (link s k).txSleep = .awake := by
    simpa [txReady] using ready
  refine ⟨up, active, by simpa [replayRoom] using room, fun data => ?_⟩
  rcases credit with audit | credit
  · rw [data] at audit; cases audit
  · simpa [hasCredit] using credit

/-! #### A tick (R309, R388) -/

/-- What no tick touches. -/
def still (s : State) := (s.rst, s.qe, s.txn, s.mem, s.router)

theorem still_putScramblers (es : List (Nat × BitVec 58)) (s : State) : still (putScramblers es s) = still s := by
  refine each_keeps (fun _ _ => ?_) _ _
  rfl

theorem still_sendFrame (k : Nat) (flits : List (List Byte)) (s : State) : still (sendFrame k flits s) = still s := by
  unfold sendFrame
  dsimp only
  generalize (codeFrame _ flits).foldl pushBlock _ = sent
  exact still_putScramblers sent.scrs (setLink k _ s)

theorem still_sendFlit (k : Nat) (bytes : List Byte) (s : State) : still (sendFlit k bytes s) = still s := by
  unfold sendFlit
  dsimp only
  split
  · rfl
  · exact (still_sendFrame _ _ _).trans rfl

theorem still_completeFrame (k : Nat) (s : State) : still (completeFrame k s) = still s := by
  unfold completeFrame
  dsimp only
  split
  · refine each_keeps (fun _ _ => ?_) _ _
    exact still_sendFlit k _ (setLink k _ _)
  · rfl

theorem still_countBits (n : Nat) (s : State) : still (countBits n s) = still s := by
  unfold countBits
  split <;> rfl

theorem still_sendPattern (n : Nat) (s : State) : still (sendPattern n s) = still s := by
  unfold sendPattern
  split <;> rfl

theorem still_endIdle (n : Nat) (s : State) : still (endIdle n s) = still s := by
  unfold endIdle
  split
  · rfl
  · split
    · rfl
    · dsimp only
      split <;> rfl

theorem still_tickLane (n : Nat) (s : State) : still (tickLane n s) = still s :=
  ((still_endIdle _ _).trans (still_sendPattern _ _)).trans (still_countBits _ _)

theorem still_tick (s : State) : still (tick s) = still s :=
  ((each_keeps still_completeFrame _ _).trans (each_keeps still_tickLane _ _)).trans rfl

/-- Operations that each leave a state as it is leave it so one after the other. -/
theorem each_same {α : Type} {f : α → State → State} {s : State} (l : List α) (same : ∀ a ∈ l, f a s = s) :
    each l f s = s := by
  induction l with
  | nil => rfl
  | cons a l ih =>
    rw [each_cons, same a List.mem_cons_self]
    exact ih fun b hb => same b (List.mem_cons_of_mem _ hb)

theorem tickLane_quiet {n : Nat} {s : State} (uncounted : counting s n = false) (sends : (lane s n).sends ≠ .pattern)
    (idle : (lane s n).idleTill = none) : tickLane n s = s := by
  have counted : countBits n s = s := by rw [countBits, uncounted]; rfl
  have sent : sendPattern n s = s := if_neg sends
  rw [tickLane, counted, sent, endIdle, idle]

theorem completeFrame_quiet {k : Nat} {s : State}
    (told : txReady s k = true → (link s k).frame = [] ∧ (link s k).toldAck = (link s k).rxSeq - 1) :
    completeFrame k s = s := by
  unfold completeFrame
  dsimp only
  by_cases ready : txReady s k = true
  · obtain ⟨empty, ack⟩ := told ready
    rw [empty, ack]
    simp
  · rw [Bool.not_eq_true] at ready
    rw [ready]
    rfl

theorem now_tick (s : State) : (tick s).now = s.now + 1 := congrArg Base.now (base_tick s)

/-- Settles O2: every part of a tick keeps `still`, and each lane and link that has nothing to do is left alone. -/
theorem idleStepIsOneTick : Obligations.IdleStepIsOneTick := by
  intro s empty
  have kept := still_tick s
  simp only [still, Prod.mk.injEq] at kept
  obtain ⟨rst, qe, txn, mem, router⟩ := kept
  refine ⟨by rw [step, empty], now_tick s, ?_, rst, qe, txn, mem, router, fun lanes links => ?_⟩
  · exact (congrArg Base.pending (base_tick s)).trans empty
  · unfold tick
    dsimp only
    rw [each_same (s := { s with now := s.now + 1 }) s.lanes.keys fun n hn =>
      tickLane_quiet (lanes n hn).1 (lanes n hn).2.1 (lanes n hn).2.2]
    exact each_same _ fun k hk => completeFrame_quiet (links k hk)

/-! #### Closed channels (R331) -/

theorem find_zeroize_same (i : Nat) (s : State) : (zeroize (some i) s).sec.keys.find i = none :=
  find_erase_same _ _

theorem find_zeroize_ne {k : Option Nat} {i : Nat} (other : k ≠ some i) (s : State) :
    (zeroize k s).sec.keys.find i = s.sec.keys.find i := by
  cases k with
  | none => rfl
  | some j => exact find_erase_ne _ _ _ fun same => other (congrArg some same.symm)

theorem chanOf_zeroize (k : Option Nat) (s : State) (c : Nat) : chanOf (zeroize k s) c = chanOf s c := by
  cases k <;> rfl

theorem keys_setChan (c : Nat) (v : Chan) (s : State) : (setChan c v s).sec.keys = s.sec.keys := rfl

theorem chanOf_setChan_ne {c d : Nat} (other : d ≠ c) (v : Chan) (s : State) :
    chanOf (setChan c v s) d = chanOf s d := get_set_ne _ _ _ _ _ other

/-- Settles O56. -/
theorem closedChannelsHoldNoKey : Obligations.ClosedChannelsHoldNoKey := by
  intro c s
  refine ⟨?_, ?_, ?_, fun d other => ?_, fun i held => ?_, fun i key eph => ?_⟩
  · rw [closeChan, chanOf_setChan_same]
  · rw [closeChan, chanOf_setChan_same]
  · rw [closeChan, chanOf_setChan_same]
  · rw [closeChan, chanOf_setChan_ne other, chanOf_zeroize, chanOf_zeroize]
  · rw [closeChan, keys_setChan]
    by_cases key : (chanOf s c).keySlot = some i
    · rw [key, find_zeroize_same]
    · rw [find_zeroize_ne key, held.resolve_left key, find_zeroize_same]
  · rw [closeChan, keys_setChan, find_zeroize_ne key, find_zeroize_ne eph]

/-! #### The release (R354, R355) -/

/-- The reset inputs at which nothing holds the sequence back any more. -/
def mayRelease (s : State) : Bool := !s.rst.porLow && !s.rst.hardLow && !s.rst.trip && s.rst.step == .held

theorem exec_resetRelease_por {w : Nat} (hw : 80 ≤ w) {s t : State}
    (left : leaveLostRef (modRst (fun x => { x with porLow := false }) s) = t) (may : mayRelease t = true) :
    exec (.resetRelease .por w) s = .next (modRst (fun x => { x with step := .fuse }) t) := by
  subst left
  change Host.Outcome.next _ = _
  rw [pulse_long hw]
  exact congrArg _ (if_pos may)

theorem exec_resetRelease_hard {w : Nat} (hw : 80 ≤ w) {s : State}
    (may : mayRelease (modRst (fun x => { x with hardLow := false }) s) = true) :
    exec (.resetRelease .hard w) s = .next { s with rst := { s.rst with hardLow := false, step := .fuse } } := by
  change Host.Outcome.next _ = _
  rw [pulse_long hw]
  exact congrArg _ (if_pos may)

theorem leaveLostRef_kept {s : State} (ok : ∀ g, s.rst.pllInput = some g → s.rst.refOk.getLsbD g = true) :
    leaveLostRef s = s := by
  unfold leaveLostRef
  split
  · rename_i g input
    exact if_pos (ok g input)
  · rfl

/-- No event is posted while the core is in reset. -/
theorem postOwn_down {s : State} (down : coreUp s = false) (cause index data : Nat) :
    postOwn cause index data s = s := by
  rw [postOwn, postEvent, down]
  rfl

/-- While the core is in reset, a move of the core PLL is told in `RST_STATUS` alone (R365). -/
theorem leaveLostRef_down {s : State} {g h : Nat} (down : coreUp s = false) (input : s.rst.pllInput = some g)
    (lost : s.rst.refOk.getLsbD g = false) (next : lowestRef s.rst.refOk = some h) :
    leaveLostRef s = raise Reg.RST_STATUS 4 (modRst (fun x => { x with pllInput := some h }) s) := by
  unfold leaveLostRef
  rw [input]
  dsimp only
  rw [lost, if_neg (by decide), moveCorePll, next]
  exact postOwn_down (s := raise Reg.RST_STATUS 4 (modRst (fun x => { x with pllInput := some h }) s)) down _ _ _

/-- What the derivation of the device keys does to the state (R326): slots of keys alone. -/
theorem deriveKeys_frame (s : State) : ∃ keys, deriveKeys s = modSec (fun x => { x with keys := keys }) s := by
  unfold deriveKeys
  dsimp only
  split
  · exact ⟨_, rfl⟩
  · exact ⟨_, rfl⟩

theorem slotKey_setKey_same (i : Nat) (k : List Byte) (s : State) : slotKey (setKey i k s) i = k :=
  get_set_same _ _ _ _

theorem slotKey_setKey_ne {i j : Nat} (other : j ≠ i) (k : List Byte) (s : State) :
    slotKey (setKey i k s) j = slotKey s j := get_set_ne _ _ _ _ _ other

theorem slotKey_deriveKeys (s : State) :
    slotKey (deriveKeys s) 0 = Config.deviceKey (fuseView s).secret 0 ∧
    slotKey (deriveKeys s) 1 = Config.deviceKey (fuseView s).secret 1 := by
  unfold deriveKeys
  dsimp only
  split
  · exact ⟨slotKey_setKey_same _ _ _, (slotKey_setKey_ne (by decide) _ _).trans (slotKey_setKey_same _ _ _)⟩
  · rw [slotKey_setKey_ne (i := 2) (j := 0) (by decide), slotKey_setKey_ne (i := 2) (j := 1) (by decide)]
    exact ⟨slotKey_setKey_same _ _ _, (slotKey_setKey_ne (by decide) _ _).trans (slotKey_setKey_same _ _ _)⟩

theorem keeperBounds_halted {s : State} (halted : keeperRuns s = false) : keeperBounds s = s := by
  rw [keeperBounds, halted]
  rfl

theorem waitingDebug_none {s : State} (none : s.sec.opening = false) : waitingDebug s = s := by
  rw [waitingDebug, none]
  rfl

/-- The state in which step 3 releases the core, before the keys are derived. -/
def coreReleased (s : State) : State :=
  modRst (fun x => { x with coreUp := true, step := .units, stale := [], bursts := [] }) s

theorem exec_corePllLocked {s : State} (here : s.rst.step = .pll) :
    exec .corePllLocked s = .next (waitingDebug (keeperBounds (deriveKeys (coreReleased s)))) := by
  change Host.Outcome.next (onlyIf (s.rst.step == .pll) _ s) = _
  rw [here]
  rfl

theorem releasesCore (s : State) (here : s.rst.step = .pll) :
    ∃ t, exec .corePllLocked s = .next (waitingDebug (keeperBounds t)) ∧
    (keeperRuns s = false → s.sec.opening = false → waitingDebug (keeperBounds t) = t) ∧
    t.rst = { s.rst with coreUp := true, step := .units, stale := [], bursts := [] } ∧ t.regs = s.regs ∧
    t.links = s.links ∧ t.keeper = s.keeper ∧ t.fuses = s.fuses ∧ t.pending = s.pending ∧
    slotKey t 0 = Config.deviceKey (fuseView s).secret 0 ∧ slotKey t 1 = Config.deviceKey (fuseView s).secret 1 := by
  obtain ⟨keys, derived⟩ := deriveKeys_frame (coreReleased s)
  have slots := slotKey_deriveKeys (coreReleased s)
  refine ⟨deriveKeys (coreReleased s), exec_corePllLocked here, fun halted none => ?_, ?_⟩
  · rw [derived, keeperBounds_halted (s := modSec (fun x => { x with keys := keys }) (coreReleased s)) halted,
      waitingDebug_none (s := modSec (fun x => { x with keys := keys }) (coreReleased s)) none]
  · refine ⟨?_, ?_, ?_, ?_, ?_, ?_, slots.1, slots.2⟩ <;> (rw [derived]; rfl)

theorem exec_fuseShadowValid {s : State} (here : s.rst.step = .fuse) :
    exec .fuseShadowValid s =
      .next (modRst (fun x => { x with keeperUp := true, step := .pll }) (loadShadow s)) := by
  change Host.Outcome.next (onlyIf (s.rst.step == .fuse) _ s) = _
  rw [here]
  rfl

theorem loadShadow_blank {s : State} (none : s.shadow = none) (secret : s.fuses.secret ≠ 0) :
    loadShadow s = { s with shadow := some s.fuses } := by
  unfold loadShadow
  rw [none]
  dsimp only
  rw [if_neg secret]

theorem loadShadow_held {s : State} {f : Fuses} (held : s.shadow = some f) : loadShadow s = s := by
  unfold loadShadow
  rw [held]

theorem exec_releaseGapExpiry {s : State} (ok : s.rst.refOk ≠ 0) :
    exec .releaseGapExpiry s = .next (match s.rst.step with
      | .units => modRst (fun x => { x with unitsUp := true, step := .tile 0 }) s
      | .tile n =>
        tryPrime n (modRst (fun x => { x with tiles := n + 1, step := if n = 35 then .done else .tile (n + 1) }) s)
      | _ => s) := by
  have counted : (s.rst.refOk != 0) = true := by simpa using ok
  exact congrArg Host.Outcome.next (if_pos counted)

/-- Settles O31. -/
theorem releaseSteps : Obligations.ReleaseSteps := by
  refine ⟨fun s w hw hard trip here ok => ?_, fun s w g h hw hard trip here down input lost next => ?_,
    fun s w hw por trip here => ?_, fun s f here held => ?_, fun s here none secret => ?_, releasesCore,
    fun s ok here => ?_, fun s n ok here => ?_⟩
  · exact exec_resetRelease_por hw (leaveLostRef_kept ok) (by simp [mayRelease, modRst, hard, trip, here])
  · refine exec_resetRelease_por hw (leaveLostRef_down down input lost next) ?_
    simp [mayRelease, modRst, raise, setFld, setReg, hard, trip, here]
  · exact exec_resetRelease_hard hw (by simp [mayRelease, modRst, por, trip, here])
  · rw [exec_fuseShadowValid here, loadShadow_held held]
    rfl
  · rw [exec_fuseShadowValid here, loadShadow_blank none secret]
    rfl
  · rw [exec_releaseGapExpiry ok, here]
    rfl
  · rw [exec_releaseGapExpiry ok, here]
    rfl

/-! #### Errors in protected arrays (R395) -/

@[simp] theorem postEvent_lanes (cause : Nat) (node : NodeId) (part index data : Nat) (s : State) :
    (postEvent cause node part index data s).lanes = s.lanes := by
  obtain ⟨regs, evq, h⟩ := postEvent_frame cause node part index data s; rw [h]

theorem exec_eccError {s : State} (up : coreUp s = true) (a : ProtArray) (i : Nat) (correctable : Bool) :
    exec (.eccError a i correctable) s = .next (
      if correctable then postOwn 0x0104 a.number i s
      else if a = .rangeCache then
        postOwn 0x0104 a.number i { s with xlt := { s.xlt with frags := s.xlt.frags.eraseIdx i } }
      else postOwn 0x0105 a.number i (raise Reg.GEN_STATUS 5
        (fabCtlWrite (withField (reg s Reg.FAB_CTL) 1 1 0).toNat (masterClear s)))) := by
  exact congrArg Host.Outcome.next (if_pos up)

/-- Settles O34. -/
theorem protectedArrays : Obligations.ProtectedArrays := by
  refine ⟨fun s a i up => ?_, fun s i up => ?_, fun s a i up other => ⟨_, _, rfl, rfl, ?_, ?_, ?_⟩⟩
  · rw [exec_eccError up, if_pos rfl]
  · rw [exec_eccError up, if_neg (by decide), if_pos rfl]
  · rw [exec_eccError up, if_neg (by decide), if_neg other]
  · exact postEvent_links _ _ _ _ _ _
  · exact postEvent_lanes _ _ _ _ _ _

end Sys2Proof.Proofs

/-! ### Debug access, fuses, translation commands and doorbells -/

namespace Sys2Proof.Proofs

open Sys2Proof Sys2Proof.Machine Sys2Proof.Laws

/-- A command whose island is up does its work. -/
theorem next_onlyIf {c : Bool} {f : State → State} {s : State} (up : c = true) :
    (.next (onlyIf c f s) : Res) = .next (f s) := by
  rw [up]; rfl

/-- A command that its condition keeps from acting changes nothing. -/
theorem next_onlyIf_not {c : Bool} {f : State → State} {s : State} (down : c = false) :
    (.next (onlyIf c f s) : Res) = .next s := by
  rw [down]; rfl

/-! #### Bits of fuses (R346, R426) -/

theorem testBit_setBit (v i j : Nat) : (setBit v i).testBit j = (v.testBit j || decide (i = j)) := by
  rw [setBit, Nat.testBit_or, Nat.testBit_two_pow]

theorem popcount_succ (w v : Nat) : popcount (w + 1) v = popcount w v + bitOf (v.testBit w) := by
  rw [popcount, popcount, List.range_succ, List.filter_append, List.length_append]
  cases h : v.testBit w <;> simp [h, bitOf]

theorem popcount_le (w v : Nat) : popcount w v ≤ w :=
  (List.length_filter_le _ _).trans (List.length_range).le

theorem popcount_full {w v : Nat} (full : ∀ i < w, v.testBit i = true) : popcount w v = w := by
  rw [popcount, List.filter_eq_self.mpr fun i hi => full i (List.mem_range.mp hi), List.length_range]

theorem popcount_congr {w v u : Nat} (same : ∀ i < w, v.testBit i = u.testBit i) : popcount w v = popcount w u := by
  rw [popcount, popcount]
  exact congrArg List.length (List.filter_congr fun i hi => same i (List.mem_range.mp hi))

/-- A bit that is set adds one to the count, unless it was set. -/
theorem popcount_setBit {w i : Nat} (hi : i < w) (v : Nat) :
    popcount w (setBit v i) = popcount w v + bitOf (!v.testBit i) := by
  induction w with
  | zero => omega
  | succ w ih =>
    rw [popcount_succ, popcount_succ, testBit_setBit]
    rcases Nat.lt_succ_iff_lt_or_eq.mp hi with below | rfl
    · rw [ih below, decide_eq_false (Nat.ne_of_lt below), Bool.or_false]
      omega
    · have under : popcount i (setBit v i) = popcount i v := popcount_congr fun j hj => by
        rw [testBit_setBit, decide_eq_false (Nat.ne_of_gt hj), Bool.or_false]
      rw [under, decide_eq_true rfl, Bool.or_true]
      cases v.testBit i <;> simp [bitOf]

/-- A row on its way to `n` programmed bits: the first `m` places are taken, or enough bits are. -/
def Programming (w n : Nat) (row : Nat) (m r : Nat) : Prop :=
  (∀ i, row.testBit i = true → r.testBit i = true) ∧ popcount w r ≤ max n (popcount w row) ∧
  (n ≤ popcount w r ∨ ∀ i < m, r.testBit i = true)

theorem programming_step {w n row m r : Nat} (hm : m < w) (so : Programming w n row m r) :
    Programming w n row (m + 1) (if popcount w r < n then setBit r m else r) := by
  obtain ⟨kept, most, done⟩ := so
  split
  · rename_i short
    have count := popcount_setBit hm r
    have one : bitOf (!r.testBit m) ≤ 1 := by cases r.testBit m <;> decide
    refine ⟨fun i hi => ?_, by omega, .inr fun i hi => ?_⟩
    · rw [testBit_setBit, kept i hi, Bool.true_or]
    · rw [testBit_setBit]
      rcases Nat.lt_succ_iff_lt_or_eq.mp hi with below | rfl
      · rw [done.resolve_left (by omega) i below, Bool.true_or]
      · rw [decide_eq_true rfl, Bool.or_true]
  · exact ⟨kept, most, .inl (by omega)⟩

theorem programming_fold {w n row : Nat} (m : Nat) (hm : m ≤ w) : Programming w n row m
    ((List.range m).foldl (fun r i => if popcount w r < n then setBit r i else r) row) := by
  induction m with
  | zero => exact ⟨fun _ h => h, Nat.le_max_right _ _, .inr fun i hi => absurd hi (by omega)⟩
  | succ m ih =>
    rw [List.range_succ, List.foldl_append]
    exact programming_step hm (ih (by omega))

theorem testBit_programTo {w n row i : Nat} (set : row.testBit i = true) : (programTo w n row).testBit i = true :=
  (programming_fold w (Nat.le_refl w)).1 i set

theorem popcount_programTo {w n row : Nat} (up : popcount w row ≤ n) :
    popcount w (programTo w n row) = min n w := by
  obtain ⟨-, most, done⟩ := programming_fold (w := w) (n := n) (row := row) w (Nat.le_refl w)
  rw [← programTo] at most done
  have room := popcount_le w (programTo w n row)
  rcases done with enough | full
  · omega
  · have all := popcount_full full
    omega

/-- What a row reads after bits have been programmed: in the row, none is cleared; another row is as it was. -/
theorem read_program (f : Fuses) (r x : FuseRow) (v i : Nat) (set : (f.read x).testBit i = true) :
    ((f.program r v).read x).testBit i = true := by
  by_cases same : x = r
  · subst same
    cases x with
    | secret => exact set
    | dbgLock =>
      simp only [Fuses.read, Fuses.program] at set ⊢
      cases h : f.dbgLock
      · rw [h] at set; simp [bitOf] at set
      · rw [h] at set; exact set
    | serial | txMap | mfr | mac =>
      simp only [Fuses.read, Fuses.program, BitVec.toNat_or, Nat.testBit_or] at set ⊢
      rw [set, Bool.true_or]
    | cal | opens | arb | cert =>
      simp only [Fuses.read, Fuses.program, Nat.testBit_or] at set ⊢
      rw [set, Bool.true_or]
  · have other : (f.program r v).read x = f.read x := by
      cases r <;> cases x <;> first | exact absurd rfl same | rfl
    rw [other, set]

/-! #### Debug access (R345 to R348) -/

theorem debugAccessRequested (s : State) (t : TapPort) :
    ((fuseView s).dbgLock = true → exec (.debugAccessRequest t) s = .next (setTap t 0 s)) ∧
    ((fuseView s).dbgLock = false → s.sec.granted = true ∨ s.sec.opening = true →
      exec (.debugAccessRequest t) s = .next (setTap t 3 s)) ∧
    ((fuseView s).dbgLock = false → s.sec.granted = false → s.sec.opening = false → coreUp s = false →
      exec (.debugAccessRequest t) s = .next (modSec (fun x => { x with opening := true }) (setTap t 3 s))) ∧
    ((fuseView s).dbgLock = false → s.sec.granted = false → s.sec.opening = false → coreUp s = true →
      let u := modSec (fun x => { x with opening := true }) (setTap t 3 s)
      exec (.debugAccessRequest t) s = .next (zeroize (some 2) (startScrub (masterEn u) (masterClear u)))) ∧
    exec (.jtagIdcode t) s =
      .next (drive (.tdo (0xB * 2 ^ 28 + 0x4B36 * 2 ^ 12 + (fuseView s).mfr.toNat * 2 + 1) 32) (setTap t 1 s)) ∧
    exec (.jtagBypass t) s = .next (drive (.tdo 0 1) (setTap t 0 s)) := by
  refine ⟨fun lock => ?_, fun free had => ?_, fun free ungranted idle down => ?_, fun free ungranted idle up => ?_,
    rfl, rfl⟩
  · change Host.Outcome.next (ite _ _ _) = _
    rw [if_pos lock]
  · have had : (s.sec.granted || s.sec.opening) = true := by simpa using had
    change Host.Outcome.next (ite _ _ (ite _ _ _)) = _
    rw [free, if_neg (by decide), if_pos had]
  · change Host.Outcome.next (ite _ _ (ite _ _ _)) = _
    rw [free, ungranted, idle, if_neg (by decide), if_neg (by decide)]
    exact next_onlyIf_not down
  · intro u
    change Host.Outcome.next (ite _ _ (ite _ _ _)) = _
    rw [free, ungranted, idle, if_neg (by decide), if_neg (by decide)]
    exact next_onlyIf (f := startOpening) up

@[simp] theorem postEvent_fuses (cause : Nat) (node : NodeId) (part index data : Nat) (s : State) :
    (postEvent cause node part index data s).fuses = s.fuses := by
  obtain ⟨regs, evq, h⟩ := postEvent_frame cause node part index data s; rw [h]

theorem debugAccessGranted (s : State) (up : coreUp s = true) (opening : s.sec.opening = true)
    (scrubbed : bit s Reg.SEC_SCRUB_STATUS 0 = false) : ∃ t,
    exec .debugAccessGranted s = .next t ∧ t.sec.openBit = true ∧ t.sec.opening = false ∧ t.sec.granted = true ∧
    t.fuses = { s.fuses with opens := t.fuses.opens } ∧
    popcount 32 t.fuses.opens = min (popcount 32 s.fuses.opens + 1) 32 ∧
    (∀ i, s.fuses.opens.testBit i = true → t.fuses.opens.testBit i = true) ∧ t.rst = s.rst ∧
    t.sec.keys = s.sec.keys := by
  have due : (coreUp s && s.sec.opening && !bit s Reg.SEC_SCRUB_STATUS 0) = true := by rw [up, opening, scrubbed]; rfl
  refine ⟨_, next_onlyIf due, ?_⟩
  rw [postOwn, postEvent_sec, postEvent_fuses, postEvent_rst]
  exact ⟨rfl, rfl, rfl, rfl, popcount_programTo (Nat.le_succ _), fun i => testBit_programTo, rfl, rfl⟩

theorem bundleOf_sealed {s : State} {data : List Byte} (whole : s.flash.bundle = data ++ leBytes 4
    (crc32c data).toNat) :
    bundleOf s = data := by
  have front : s.flash.bundle.take (s.flash.bundle.length - 4) = data := by
    rw [whole, List.length_append, length_leBytes, Nat.add_sub_cancel, List.take_left]
  rw [bundleOf, front]
  exact if_pos whole.symm

theorem bundleOf_broken {s : State} (broken : ∀ data : List Byte,
    s.flash.bundle ≠ data ++ leBytes 4 (crc32c data).toNat) :
    bundleOf s = [] :=
  if_neg fun whole => broken _ whole.symm

/-- What a session needs before its client is looked at (R347, R348). -/
def sessionRoom (s : State) : Bool :=
  keeperRuns s && !(bundleOf s).isEmpty && !s.sec.openBit && s.keeper.sessions < 4

theorem exec_mgmtDtlsHandshake (h : Handshake) (s : State) :
    exec (.mgmtDtlsHandshake h) s =
      .next (if (sessionRoom s && Config.clientAccepted (bundleOf s) h.chain h.proof) = true then
        { s with keeper := { s.keeper with sessions := s.keeper.sessions + 1 }, out := s.out ++ [.session true] }
        else { s with out := s.out ++ [.session false] }) := by
  change Host.Outcome.next (drive (.session (sessionRoom s && _)) (ite ((sessionRoom s && _) = true) _ _)) = _
  cases sessionRoom s && Config.clientAccepted (bundleOf s) h.chain h.proof <;> rfl

theorem managementSession (s : State) (h : Handshake) :
    (keeperRuns s = true → bundleOf s ≠ [] → s.sec.openBit = false → s.keeper.sessions < 4 →
      exec (.mgmtDtlsHandshake h) s = .next (if Config.clientAccepted (bundleOf s) h.chain h.proof = true then
        { s with keeper := { s.keeper with sessions := s.keeper.sessions + 1 }, out := s.out ++ [.session true] }
        else { s with out := s.out ++ [.session false] })) ∧
    (∀ data : List Byte, s.flash.bundle = data ++ leBytes 4 (crc32c data).toNat → bundleOf s = data) ∧
    ((∀ data : List Byte, s.flash.bundle ≠ data ++ leBytes 4 (crc32c data).toNat) → bundleOf s = []) ∧
    (keeperRuns s = false ∨ bundleOf s = [] ∨ s.sec.openBit = true ∨ 4 ≤ s.keeper.sessions →
      exec (.mgmtDtlsHandshake h) s = .next { s with out := s.out ++ [.session false] }) := by
  refine ⟨fun runs bundle shut few => ?_, fun _ => bundleOf_sealed, bundleOf_broken, fun without => ?_⟩
  · have room : sessionRoom s = true := by simp [sessionRoom, runs, bundle, shut, few]
    rw [exec_mgmtDtlsHandshake, room, Bool.true_and]
  · have room : sessionRoom s = false := by
      rcases without with h | h | h | h <;> simp [sessionRoom, h]
    rw [exec_mgmtDtlsHandshake, room, Bool.false_and, if_neg (by decide)]

theorem fuseBus (s : State) (r : FuseRow) (bits : Nat) :
    exec (.fuseRead r) s = .next (drive (.fuseBus (s.fuses.read r)) s) ∧
    (s.rst.hardLow = false → exec (.fuseProgram r bits) s = .next s) ∧
    (s.rst.hardLow = true → ∃ t, exec (.fuseProgram r bits) s = .next t ∧ t = { s with fuses := t.fuses } ∧
      t.fuses = s.fuses.program r bits ∧
      ∀ x i, (s.fuses.read x).testBit i = true → (t.fuses.read x).testBit i = true) :=
  ⟨rfl, fun high => next_onlyIf_not high, fun low =>
    ⟨{ s with fuses := s.fuses.program r bits }, next_onlyIf low, rfl, rfl, fun x i => read_program _ r x bits i⟩⟩

/-- Settles O57. -/
theorem debugAndFuses : Obligations.DebugAndFuses :=
  ⟨debugAccessRequested, debugAccessGranted, fun _ _ => rfl, managementSession, fuseBus⟩

/-! #### Translation commands (R147 to R150) -/

theorem next_invCommand {cmd part : Nat} {s t : State} (up : unitsUp s = true) (does : invCommand cmd part s = t) :
    (.next (onlyIf (unitsUp s) (fun s => proceedAll (invCommand cmd part s)) s) : Res) = .next (proceedAll t) := by
  rw [next_onlyIf up, does]

theorem invCommand_idle {s : State} (idle : s.xlt.inv = none) (cmd part : Nat) :
    invCommand cmd part s =
      if cmd = 1 then
        (if (fld s Reg.XLT_INV_LEN 0 47 = 0 || 2 ^ 46 < fld s Reg.XLT_INV_LEN 0 47) then invOverrun s
        else invalidate 1 part [part] (fun f => f.part == part && f.overlaps (fld s Reg.XLT_INV_ADDR 0 52)
          (fld s Reg.XLT_INV_ADDR 0 52 + fld s Reg.XLT_INV_LEN 0 47)) s)
      else if cmd = 2 then invalidatePart part s
      else if cmd = 3 then invalidate 3 part (List.range 64) (fun _ => true) s
      else if cmd = 4 then startPreload part s
      else invOverrun s := by
  rw [invCommand, idle]
  rfl

theorem invCommand_busy {s : State} (busy : s.xlt.inv ≠ none) (cmd part : Nat) :
    invCommand cmd part s = raise Reg.XLT_INV_STATUS 2 s :=
  if_pos (Option.isSome_iff_ne_none.mpr busy)

theorem startPreload_unmapped {s : State} {part : Nat} (idle : s.xlt.inv = none) (off : dirEn s part = false) :
    startPreload part s = raise Reg.XLT_INV_STATUS 1 s := by
  have same : { s with xlt := { s.xlt with inv := none } } = s := by rw [← idle]
  have off' : dirEn { s with xlt := { s.xlt with inv := some ⟨4, part, []⟩ } } part = false := off
  rw [startPreload, off', if_pos (by decide), finishInv]
  exact congrArg (raise Reg.XLT_INV_STATUS 1) same

theorem startPreload_mapped {s : State} {part : Nat} (on : dirEn s part = true) :
    startPreload part s = grantHandlers 16 (setWalk s.xlt.walkNo
      (Walk.new .preload part (fld s Reg.XLT_INV_ADDR 0 52) 0 [])
      { s with xlt := { s.xlt with inv := some ⟨4, part, []⟩, walkNo := s.xlt.walkNo + 1 } }) := by
  have on' : dirEn { s with xlt := { s.xlt with inv := some ⟨4, part, []⟩ } } part = true := on
  rw [startPreload, on', if_neg (by decide)]

/-- Settles O46. -/
theorem translationCommands : Obligations.TranslationCommands := by
  refine ⟨fun s p up idle some most => ?_, fun s p up idle none => ?_, fun s p up idle => ?_, fun s up idle => ?_,
    fun s p up idle on => ?_, fun s p up idle off => ?_, fun s p up busy => ?_, fun s ended => ?_⟩
  · refine next_invCommand up ((invCommand_idle idle _ _).trans ?_)
    rw [if_pos rfl, if_neg (by simp; omega)]
    rfl
  · refine next_invCommand up ((invCommand_idle idle _ _).trans ?_)
    rw [if_pos rfl, none]
    rfl
  · exact next_invCommand up (invCommand_idle idle 2 _)
  · exact next_invCommand up (invCommand_idle idle 3 _)
  · exact next_invCommand up ((invCommand_idle idle 4 _).trans (startPreload_mapped on))
  · exact next_invCommand up ((invCommand_idle idle 4 _).trans (startPreload_unmapped idle off))
  · exact ⟨next_invCommand up (invCommand_busy busy _ _), next_invCommand up (invCommand_busy busy _ _),
      next_invCommand up (invCommand_busy busy _ _), next_invCommand up (invCommand_busy busy _ _)⟩
  · exact next_onlyIf ended

/-! #### Doorbells and queue control (R91 to R97, R111) -/

/-- A write of `Q_CTL` that moves no queue that is on or busy to another partition (R91). -/
theorem qCtlWrite_taken {q v : Nat} {s : State}
    (stays : natField v 7 6 = queuePart s q ∨ (queueEn s q = false ∧ queueIdle s q = true)) :
    qCtlWrite q v s =
      let t := modQueue q id (storeReg (Reg.Q_CTL q) v s)
      if (!queueEn s q && v.testBit 0) = true then queueFresh q t
      else if (queueEn s q && !v.testBit 0) = true then dropFetches q t
      else t := by
  refine if_neg ?_
  rcases stays with same | ⟨off, idle⟩
  · rw [same]; simp
  · rw [off, idle]; simp

theorem qCtlWrite_refused {q v : Nat} {s : State} (on : queueEn s q = true) (moves : natField v 7 6 ≠ queuePart s q) :
    qCtlWrite q v s = raise (Reg.Q_STATUS q) 1 s :=
  if_pos (by rw [on]; simpa using moves)

theorem mem_rearmMask (q : Nat) (hi : Bool) (mask : Word) (s : State) (g p : Nat) :
    (g, p) ∈ (rearmMask q hi mask s).qe.cancelled ↔
      (g, p) ∈ s.qe.cancelled ∧ ¬(p = queuePart s q ∧ g ∈ maskGroups hi mask) := by
  have gone : ((maskGroups hi mask).map fun g => (g, queuePart s q)).contains (g, p) = true ↔
      p = queuePart s q ∧ g ∈ maskGroups hi mask := by
    rw [List.contains_iff_mem, List.mem_map]
    refine ⟨fun ⟨h, named, same⟩ => ?_, fun ⟨part, named⟩ => ⟨g, named, by rw [part]⟩⟩
    obtain ⟨rfl, part⟩ := Prod.mk.inj same
    exact ⟨part.symm, named⟩
  rw [rearmMask, List.mem_filter, Bool.not_eq_eq_eq_not, Bool.not_true, ← Bool.not_eq_true, gone]

/-- Settles O37. -/
theorem queueCommands : Obligations.QueueCommands := by
  refine ⟨fun s q v up off idle set => ?_, fun s q v up on stays clear => ?_,
    fun s q v up on moves => ⟨fun set => ?_, fun clear => ?_⟩, fun s q v up on lies => ?_, fun s q v up bad => ?_,
    fun s q v up lies far => ?_, fun s q v up bad => ?_, fun s q hi mask up => next_onlyIf up,
    fun s q hi mask up => ⟨_, next_onlyIf up, rfl, mem_rearmMask _ _ _ _⟩⟩
  · refine (next_onlyIf (by rw [up, set]; rfl)).trans ?_
    have bit : v.toNat.testBit 0 = true := set
    rw [qCtlWrite_taken (.inr ⟨off, idle⟩), off, bit]
    rfl
  · refine (next_onlyIf (by rw [up, clear]; rfl)).trans ?_
    have bit : v.toNat.testBit 0 = false := clear
    rw [qCtlWrite_taken (.inl stays), on, bit]
    rfl
  · refine (next_onlyIf (by rw [up, set]; rfl)).trans ?_
    rw [qCtlWrite_refused on moves]
  · refine (next_onlyIf (by rw [up, clear]; rfl)).trans ?_
    rw [qCtlWrite_refused on moves]
  · refine (next_onlyIf up).trans ?_
    rw [sqTail, if_neg (by simp [on, lies])]
  · refine (next_onlyIf up).trans ?_
    rw [sqTail, if_pos (by rcases bad with off | out <;> simp [*])]
  · refine (next_onlyIf up).trans ?_
    have taken : ¬(decide (crSize s q.toNat ≤ v.toNat % 2 ^ 16) || decide (crUnread s q.toNat < (v.toNat % 2 ^ 16 +
        crSize s q.toNat - (queue s q.toNat).crHead % crSize s q.toNat) % crSize s q.toNat)) = true := by
      rw [Bool.or_eq_true, decide_eq_true_eq, decide_eq_true_eq]
      omega
    rw [cqHead, if_neg taken]
  · refine (next_onlyIf up).trans ?_
    rw [cqHead, if_pos (by simpa using bad)]

end Sys2Proof.Proofs

/-! ### Descriptors, tokens and templates (R91 to R98, R112 to R119) -/

namespace Sys2Proof.Proofs

open Sys2Proof Sys2Proof.Machine Sys2Proof.Laws

/-- Data that one command brings whole is taken while the core runs. -/
theorem next_wholeCommand {p : Whole → Bool} {f : State → State} {s : State} (up : coreUp s = true) :
    (.next (wholeCommand p f s) : Res) = .next (f s) :=
  congrArg Host.Outcome.next (if_pos up)

/-! #### Slots and whole reads -/

theorem slotsReturn_eq {q : Nat} {b : Beat} {s u : State} {e h n : Nat} {x : Bool}
    (back : wholeBack (Whole.ofQueue q) s = (some (.slots e h n, x), u)) :
    slotsReturn q b s =
      let w := modQueue q (fun v => { v with fetching := v.fetching.drop 1
                                             fetchDrop := v.fetchDrop && 1 < v.fetching.length }) u
      if (queue u q).fetchDrop then w
      else (List.range n).foldl
        (fun s i => fetchSlot q (h + i) (slice b.data (64 * i) 64) (b.err || b.poison.getLsbD i) s) w := by
  unfold slotsReturn
  rw [back]

theorem slotsFetched (s u : State) (q : Byte) (b : Beat) (e h n : Nat) (x : Bool) (up : coreUp s = true)
    (back : wholeBack (Whole.ofQueue q.toNat) s = (some (.slots e h n, x), u)) :
    let w := modQueue q.toNat (fun v => { v with fetching := v.fetching.drop 1
                                                 fetchDrop := v.fetchDrop && 1 < v.fetching.length }) u
    ((queue u q.toNat).fetchDrop = false → exec (.descriptorFetch q b) s = .next (proceedAll ((List.range n).foldl
      (fun s i => fetchSlot q.toNat (h + i) (slice b.data (64 * i) 64) (b.err || b.poison.getLsbD i) s) w))) ∧
    ((queue u q.toNat).fetchDrop = true → exec (.descriptorFetch q b) s = .next (proceedAll w)) := by
  refine ⟨fun kept => ?_, fun drop => ?_⟩
  · refine (next_wholeCommand up).trans ?_
    rw [slotsReturn_eq back, kept]
    rfl
  · refine (next_wholeCommand up).trans ?_
    rw [slotsReturn_eq back, drop]
    rfl

theorem reg_bumpBy_same (a n : Nat) (s : State) :
    reg (bumpBy a n s) a = BitVec.ofNat 64 ((fld s a 0 32 + n) % 2 ^ 32) := reg_setReg_same _ _ _

theorem droppedCounted (s : State) (p : Whole → Bool) (job : Nat) (w : Whole) (rs : List MemReq)
    (found : findWhole p s = some (job, w, rs)) (issued : ∀ r ∈ s.mem.queue, r.reads job = false)
    (dropped : ∃ r ∈ rs, r.drop = true) :
    (wholeBack p s).1 = some (w, true) ∧ reg (wholeBack p s).2 Reg.GEN_MEM_DROP =
      BitVec.ofNat 64 ((fld s Reg.GEN_MEM_DROP 0 32 + (rs.filter fun r => r.drop).length) % 2 ^ 32) := by
  obtain ⟨r, hr, drop⟩ := dropped
  have counted : decide (0 < (rs.filter fun r => r.drop).length) = true :=
    decide_eq_true (List.length_pos_of_mem (List.mem_filter.mpr ⟨hr, drop⟩))
  have free : ¬ (s.mem.queue.any fun r => r.reads job) = true := by
    rw [List.any_eq_true]
    rintro ⟨x, hx, reads⟩
    rw [issued x hx] at reads
    cases reads
  unfold wholeBack
  rw [found]
  dsimp only
  rw [if_neg free, counted]
  exact ⟨rfl, reg_bumpBy_same _ _ _⟩

/-! #### Turns and tokens -/

theorem turnTaken (s : State) (q d : Nat) (v : Desc) (up : unitsUp s = true) (on : masterEn s = true)
    (turn : nextTurn s = some q) (hq : q < 256) (head : headDesc s q = some (d, v)) :
    exec .descriptorStart s = .next (proceedAll (startDesc d { s with qe := { s.qe with
      wrrPos := q
      wrrLeft := if 0 < s.qe.wrrLeft ∧ q = s.qe.wrrPos then s.qe.wrrLeft - 1 else weightOf s q - 1 } })) := by
  refine (next_onlyIf (by rw [up, on]; rfl)).trans ?_
  unfold startNext
  rw [turn]
  dsimp only
  rw [head]
  dsimp only
  rw [if_pos hq, takeTurn, turnWeight, if_pos hq]
  simp only [Bool.and_eq_true, decide_eq_true_eq]

theorem recordWritten (s : State) (d : Nat) (v : Desc) (held : desc s d = some v) (due : recordDue s d v = true) :
    exec (.writeCompletionRecord d) s = .next (issueAll (fetchAll (flushBacklog (writeRecord d s)))) := by
  change Host.Outcome.next _ = _
  rw [held]
  exact congrArg Host.Outcome.next (if_pos due)

theorem tokenPushed (s : State) (t : BitVec 3) (tok : BitVec 256) (up : unitsUp s = true)
    (room : (tileQueue s t.toNat).tokens.length < 64) :
    exec (.tileTokenPush t tok) s = .next (modTq t.toNat (fun v => { v with tokens := v.tokens ++ [tok] }) s) :=
  (next_onlyIf up).trans (congrArg _ (if_pos room))

theorem tokenNotPushed (s : State) (t : BitVec 3) (tok : BitVec 256) (up : unitsUp s = true)
    (full : 64 ≤ (tileQueue s t.toNat).tokens.length) : exec (.tileTokenPush t tok) s = .next s :=
  (next_onlyIf up).trans (congrArg _ (if_neg (by omega)))

theorem tokenDesc_eq {s : State} {t : Nat} {tok : BitVec 256} {rest : List (BitVec 256)} {tmpl : BitVec 512}
    (tokens : (tileQueue s t).tokens = tok :: rest)
    (made : (tileQueue s t).templates.find (natField (tokWord tok 0) 0 6) = some tmpl) :
    tokenDesc s t = some (Desc.new (boundQueue s t) (BitVec.ofNat 16 (natField (tokWord tok 0) 16 16)) true
      (tokenBits tok tmpl) false (queuePart s (boundQueue s t)) (partOf s (queuePart s (boundQueue s t))).key) := by
  unfold tokenDesc
  rw [tokens]
  dsimp only
  rw [made]
  rfl

theorem modTq_taken {s : State} {t : Nat} {tok : BitVec 256} {rest : List (BitVec 256)}
    (tokens : (tileQueue s t).tokens = tok :: rest) :
    modTq t (fun x => { x with tokens := x.tokens.drop 1 }) s = modTq t (fun x => { x with tokens := rest }) s := by
  have drops : (tileQueue s t).tokens.drop 1 = rest := by rw [tokens]; rfl
  subst drops
  rfl

theorem tokenRoom_of {s : State} {t : Nat} (up : unitsUp s = true) (on : masterEn s = true) (en : tqEn s t = true)
    (qen : queueEn s (boundQueue s t) = true) (left : disabledLeft s = false)
    (few : inFlight s (boundQueue s t) + (queue s (boundQueue s t)).reading < maxInflight s (boundQueue s t))
    (room : s.qe.descs.entries.length + slotsReading s < 8192) (free : 0 < crFree s (boundQueue s t)) :
    tokenRoom s t = true := by
  have limit : 0 < limitLeft s (boundQueue s t) := by rw [limitLeft]; omega
  simp [tokenRoom, up, on, en, qen, left, limit, free]

theorem tokenStarted (s : State) (t : BitVec 3) (tok : BitVec 256) (rest : List (BitVec 256)) (tmpl : BitVec 512) :
    let q := boundQueue s t.toNat
    let v := Desc.new q (BitVec.ofNat 16 (natField (tokWord tok 0) 16 16)) true (tokenBits tok tmpl) false
      (queuePart s q) (partOf s (queuePart s q)).key
    unitsUp s = true → masterEn s = true → tqEn s t.toNat = true → queueEn s q = true →
    (tileQueue s t.toNat).tokens = tok :: rest → disabledLeft s = false →
    (tileQueue s t.toNat).templates.find (natField (tokWord tok 0) 0 6) = some tmpl →
    inFlight s q + (queue s q).reading < maxInflight s q → s.qe.descs.entries.length + slotsReading s < 8192 →
    0 < crFree s q →
    let taken (x : State) : State := modQueue q (fun x => { x with reserved := x.reserved + 1 })
      (addDesc v (modTq t.toNat (fun x => { x with tokens := rest }) x))
    (isCancelled s v = false → nextTurn s = some (256 + t.toNat) → exec (.tileTokenStart t) s =
      .next (proceedAll (startDesc s.qe.descNo (taken (takeTurn (256 + t.toNat) s))))) ∧
    (isCancelled s v = true → exec (.tileTokenStart t) s = .next (proceedAll (taken s))) := by
  intro q v up on en qen tokens left made few room free taken
  have may := tokenRoom_of up on en qen left few room free
  have start : exec (.tileTokenStart t) s = .next (proceedAll (if isCancelled s v then takeToken t.toNat v s
      else if nextTurn s = some (256 + t.toNat) then
        startDesc s.qe.descNo (takeToken t.toNat v (takeTurn (256 + t.toNat) s))
      else s)) := by
    refine (next_onlyIf (by rw [up, on]; rfl)).trans ?_
    unfold startToken
    rw [tokenDesc_eq tokens made]
    dsimp only
    rw [may, if_neg (by decide)]
  refine ⟨fun goes turn => ?_, fun cancelled => ?_⟩
  · have after : (tileQueue (takeTurn (256 + t.toNat) s) t.toNat).tokens = tok :: rest := tokens
    rw [start, goes, if_neg (by decide), if_pos turn, takeToken, modTq_taken after]
    rfl
  · rw [start, cancelled, if_pos rfl, takeToken, modTq_taken tokens]
    rfl

/-! #### Templates (R118) -/

theorem exec_tqTemplateLoad {s : State} {v : Word} (up : coreUp s = true) (load : v.getLsbD 31 = true) :
    exec (.tqTemplateLoad v) s = .next (
      let t := natField v.toNat 8 3
      let i := natField v.toNat 12 6
      let n := natField v.toNat 18 7
      let u := storeReg Reg.GEN_TQ_CTL v.toNat s
      if tqEn u t || (tileQueue u t).tokens != [] || (List.range 8).any (fun x => (tileQueue u x).loading.isSome)
        || n = 0 || 64 < i + n then raise Reg.GEN_TQ_STATUS 0 u
      else issueAll (askTemplates t (modTq t (fun x => { x with loading := some (i, n) }) u))) := by
  refine (next_onlyIf up).trans ?_
  have bit : v.toNat.testBit 31 = true := load
  rw [tqCtlWrite, bit]
  rfl

theorem templatesNotAsked (s : State) (v : Word) (up : coreUp s = true) (plain : v.getLsbD 31 = false) :
    exec (.tqTemplateLoad v) s = .next (storeReg Reg.GEN_TQ_CTL v.toNat s) := by
  refine (next_onlyIf up).trans ?_
  have bit : v.toNat.testBit 31 = false := plain
  rw [tqCtlWrite, bit]
  rfl

theorem templatesRefused (s : State) (v : Word) (up : coreUp s = true) (load : v.getLsbD 31 = true)
    (empty : natField v.toNat 18 7 = 0) :
    exec (.tqTemplateLoad v) s = .next (raise Reg.GEN_TQ_STATUS 0 (storeReg Reg.GEN_TQ_CTL v.toNat s)) := by
  rw [exec_tqTemplateLoad up load]
  dsimp only
  rw [empty, if_pos (by simp)]

theorem tileQueue_modTq_same (t : Nat) (f : TileQueue → TileQueue) (s : State) :
    tileQueue (modTq t f s) t = f (tileQueue s t) := get_set_same _ _ _ _

theorem askTemplates_eq {s : State} {t i n : Nat} (loading : (tileQueue s t).loading = some (i, n)) :
    askTemplates t s = askWhole (.templates t) (fld s Reg.GEN_TQ_TMPL_BASE 6 42 * 64) (64 * n) s := by
  unfold askTemplates
  rw [loading]

theorem templatesAsked (s : State) (v : Word) : let u := storeReg Reg.GEN_TQ_CTL v.toNat s
    coreUp s = true → v.getLsbD 31 = true → 0 < natField v.toNat 18 7 →
    natField v.toNat 12 6 + natField v.toNat 18 7 ≤ 64 → tqEn u (natField v.toNat 8 3) = false →
    (tileQueue u (natField v.toNat 8 3)).tokens = [] → (∀ x, x < 8 → (tileQueue u x).loading = none) →
    exec (.tqTemplateLoad v) s = .next (issueAll (askWhole (.templates (natField v.toNat 8 3))
      (fld u Reg.GEN_TQ_TMPL_BASE 6 42 * 64) (64 * natField v.toNat 18 7) (modTq (natField v.toNat 8 3)
        (fun x => { x with loading := some (natField v.toNat 12 6, natField v.toNat 18 7) }) u))) := by
  intro u up load some fits off empty idle
  have free : (List.range 8).any (fun x => (tileQueue u x).loading.isSome) = false := by
    rw [List.any_eq_false]
    intro x hx
    rw [idle x (List.mem_range.mp hx)]
    exact Bool.false_ne_true
  rw [exec_tqTemplateLoad up load]
  dsimp only
  rw [off, empty, free, if_neg (by simp; omega),
    askTemplates_eq (i := natField v.toNat 12 6) (n := natField v.toNat 18 7) (by rw [tileQueue_modTq_same])]
  rfl

theorem templatesBack_eq {s u : State} {b : Blob} {t : Nat} {dropped : Bool}
    (back : wholeBack Whole.isTemplates s = (some (.templates t, dropped), u)) :
    templatesBack b s = if dropped then issueAll (askTemplates t u) else templatesIn t b u := by
  unfold templatesBack
  rw [back]

theorem templatesIn_eq {s : State} {t i n : Nat} (loading : (tileQueue s t).loading = some (i, n)) (b : Blob) :
    templatesIn t b s = raise Reg.GEN_TQ_STATUS 2 (modTq t (fun v => { v with
      loading := none
      templates := if b.bad then v.templates else (List.range n).foldl
        (fun x k => x.set (i + k) (BitVec.ofNat 512 (leNat (fit 64 (slice b.data (64 * k) 64))))) v.templates })
        s) := by
  unfold templatesIn
  rw [loading]

theorem templatesLoaded (s u : State) (b : Blob) (t i n : Nat) (up : coreUp s = true)
    (loading : (tileQueue u t).loading = some (i, n)) :
    (wholeBack Whole.isTemplates s = (some (.templates t, false), u) → b.bad = false →
      exec (.tqTemplateLoadDone b) s = .next (raise Reg.GEN_TQ_STATUS 2 (modTq t (fun v => { v with
        loading := none
        templates := (List.range n).foldl
          (fun x k => x.set (i + k) (BitVec.ofNat 512 (leNat (fit 64 (slice b.data (64 * k) 64))))) v.templates })
          u))) ∧
    (wholeBack Whole.isTemplates s = (some (.templates t, false), u) → b.bad = true →
      exec (.tqTemplateLoadDone b) s =
        .next (raise Reg.GEN_TQ_STATUS 2 (modTq t (fun v => { v with loading := none }) u))) ∧
    (wholeBack Whole.isTemplates s = (some (.templates t, true), u) → exec (.tqTemplateLoadDone b) s =
      .next (issueAll (askWhole (.templates t) (fld u Reg.GEN_TQ_TMPL_BASE 6 42 * 64) (64 * n) u))) := by
  refine ⟨fun back good => ?_, fun back bad => ?_, fun back => ?_⟩
  · refine (next_wholeCommand up).trans ?_
    rw [templatesBack_eq back, if_neg (by decide), templatesIn_eq loading, good]
    rfl
  · refine (next_wholeCommand up).trans ?_
    rw [templatesBack_eq back, if_neg (by decide), templatesIn_eq loading, bad]
    rfl
  · refine (next_wholeCommand up).trans ?_
    rw [templatesBack_eq back, if_pos rfl, askTemplates_eq loading]

/-- Settles O39. -/
theorem descriptorCommands : Obligations.DescriptorCommands :=
  ⟨slotsFetched, droppedCounted, turnTaken, recordWritten, tokenPushed, tokenNotPushed, tokenStarted,
    templatesNotAsked, templatesRefused, templatesAsked, templatesLoaded⟩

end Sys2Proof.Proofs

/-! ### Responses of the memory ports, and requests at their target (R26 to R62, R139, R411 to R415) -/

namespace Sys2Proof.Proofs

open Sys2Proof Sys2Proof.Machine Sys2Proof.Laws

/-! #### Responses -/

theorem exec_memReadResponse {s : State} {port : Fin 16} {id : BitVec 12} {r : MemReq} (b : Beat) (up : coreUp s = true)
    (found : findReq s port.val id.toNat false false = some r) (part : r.isWhole s = false) :
    exec (.memReadResponse port id b) s = .next (proceedAll (readBeat r b s)) := by
  change Host.Outcome.next (ite _ _ _) = _
  rw [if_pos up, found]
  dsimp only
  rw [part, if_neg (by decide)]

theorem readBeat_done {r : MemReq} {s u : State} {b : Beat} {j : RdJob} {data : List PByte} (kept : r.drop = false)
    (back : readReturn r b s = (some (j, data), u)) : readBeat r b s = readDone j.what data u := by
  rw [readBeat, kept, if_neg (by decide), back]

theorem readBeat_part {r : MemReq} {s u : State} {b : Beat} (kept : r.drop = false)
    (back : readReturn r b s = (none, u)) : readBeat r b s = reapRead r.job u := by
  rw [readBeat, kept, if_neg (by decide), back]

theorem exec_memWriteResponse {s : State} {port : Fin 16} {id : BitVec 12} {r : MemReq} (err : Bool)
    (up : coreUp s = true) (found : findReq s port.val id.toNat true false = some r) :
    exec (.memWriteResponse port id err) s = .next (proceedAll (flushBacklog (flushDisabled (writeBeat r err s)))) := by
  change Host.Outcome.next (ite _ _ _) = _
  rw [if_pos up, found]

/-- The lines of a posted write land with each response (R39). -/
theorem writeBeat_posted {r : MemReq} {s u : State} {j : WrJob} {last : Bool} {p : Packet}
    (back : writeReturn r false s = (some (j, last), u)) (posted : j.what = .posted p) :
    writeBeat r false s =
      if last then writeDone j (landLines p.win.toNat r.nline u) else landLines p.win.toNat r.nline u := by
  unfold writeBeat
  dsimp only
  rw [if_neg (by decide), back]
  dsimp only
  rw [posted]

/-- Another write is done with its last response. -/
theorem writeBeat_other {r : MemReq} {s u : State} {j : WrJob}
    (back : writeReturn r false s = (some (j, true), u)) (other : ∀ p, j.what ≠ .posted p) :
    writeBeat r false s = writeDone j u := by
  unfold writeBeat
  dsimp only
  rw [if_neg (by decide), back]
  dsimp only
  rw [if_pos rfl]
  split
  · rename_i p posted
    exact absurd posted (other p)
  · rfl

/-- A response after a reset, for a request from before it (R360). -/
theorem staleReturn_eq {s : State} {port : Nat} {id : BitVec 12} {x : StaleReq}
    (found : s.rst.stale.find? (fun x => x.port == port && x.id == id) = some x) :
    staleReturn port id s = bump Reg.RST_MEM_DROP { s with rst := { s.rst with stale := s.rst.stale.erase x } } := by
  unfold staleReturn
  rw [found]

theorem staleResponses (s : State) (port : Fin 16) (id : BitVec 12) (b : Beat) (err : Bool) (x : StaleReq)
    (down : coreUp s = false) (found : s.rst.stale.find? (fun x => x.port == port.val && x.id == id) = some x) :
    let t := bump Reg.RST_MEM_DROP { s with rst := { s.rst with stale := s.rst.stale.erase x } }
    exec (.memReadResponse port id b) s = .next t ∧ exec (.memWriteResponse port id err) s = .next t ∧
    exec (.walkReadReturn port id b) s = .next t := by
  have stale : ∀ t, (.next (if coreUp s then t else staleReturn port id s) : Res) =
      .next (bump Reg.RST_MEM_DROP { s with rst := { s.rst with stale := s.rst.stale.erase x } }) := fun t => by
    rw [down, if_neg (by decide), staleReturn_eq found]
  exact ⟨stale _, stale _, stale _⟩

theorem writeReturn_left (s : State) (r : MemReq) (j : WrJob) (err : Bool) (job : s.mem.wjobs.find r.job = some j)
    (left : 1 < j.left) :
    (writeReturn r err s).1 = some ({ j with
      left := j.left - 1
      badLines := j.badLines + (if err = true then r.nline else 0)
      badBytes := j.badBytes + (if err = true then r.stored else 0) }, false) := by
  have job' : (dropReq r s).mem.wjobs.find r.job = some j := job
  unfold writeReturn
  dsimp only
  rw [job']
  dsimp only
  have some : (j.answered r err).left ≠ 0 := by
    unfold WrJob.answered
    cases err
    · exact Nat.sub_ne_zero_of_lt left
    · exact Nat.sub_ne_zero_of_lt left
  rw [if_neg some]
  cases err <;> rfl

theorem walkReturned (s : State) (port : Fin 16) (id : BitVec 12) (b : Beat) (r : MemReq) (up : coreUp s = true)
    (found : findReq s port.val id.toNat false true = some r) :
    exec (.walkReadReturn port id b) s = .next (proceedAll (walkReturn r b s)) := by
  change Host.Outcome.next (ite _ _ _) = _
  rw [if_pos up, found]

theorem atomicStarted (s : State) (n : Nat) (o : AtomOp) (up : coreUp s = true) (op : s.txn.atoms.find n = some o)
    (ready : atomicReady s n o = true) :
    exec (.atomicUnitIssue n) s = .next (issueAll (readMem (.atomic n) [⟨o.pa, o.width, o.mattr⟩] o.locked
      (some (o.part, o.gen)) { s with txn := { s.txn with atoms := s.txn.atoms.set n { o with stage := 1 } } })) := by
  refine (next_onlyIf up).trans ?_
  unfold startAtomic
  rw [op]
  dsimp only
  rw [if_pos ready]

/-- Settles O41. -/
theorem memoryResponses : Obligations.MemoryResponses := by
  refine ⟨fun s u port id b r j data up found part kept back => ?_, fun s u port id b r up found part kept back => ?_,
    fun s port id b r up found part dropped => ?_, staleResponses, fun s u port id r j up found back other => ?_,
    fun s u port id r j p up found back posted => ?_, fun s u port id r j p up found back posted => ?_,
    fun s u port id r up found back => ?_, writeReturn_left, walkReturned, atomicStarted⟩
  · rw [exec_memReadResponse b up found part, readBeat_done kept back]
  · rw [exec_memReadResponse b up found part, readBeat_part kept back]
  · rw [exec_memReadResponse b up found part, readBeat, if_pos dropped]
  · rw [exec_memWriteResponse false up found, writeBeat_other back other]
  · rw [exec_memWriteResponse false up found, writeBeat_posted back posted, if_pos rfl, writeDone, posted]
  · rw [exec_memWriteResponse false up found, writeBeat_posted back posted, if_neg (by decide)]
  · rw [exec_memWriteResponse true up found, writeBeat, if_pos rfl, back]

/-! #### Requests -/

/-- A request leaves state `t`, whatever its type, by the command of that type. -/
def Answers (s : State) (p : Packet) (t : State) : Prop :=
  ((p.ptype = tRD ∨ p.ptype = tPRD) → exec (.rdReceive p) s = .next t) ∧
  (p.ptype = tGRD → exec (.grdReceive p) s = .next t) ∧
  ((p.ptype = tWR ∨ p.ptype = tPWR) → exec (.wrReceive p) s = .next t) ∧
  (p.ptype = tMSG → exec (.msgReceive p) s = .next t) ∧
  (p.ptype = tATOM → exec (.atomReceive p) s = .next t) ∧
  (p.ptype = tVACC → exec (.vaccReceive p) s = .next t)

theorem next_receiveTyped {types : List (BitVec 6)} {p : Packet} {s t : State} (up : coreUp s = true)
    (units : unitsUp s = true) (listed : types.contains p.ptype = true) (does : receiveRequest p s = t) :
    (.next (receiveTyped types p s) : Res) = .next t := by
  rw [receiveTyped, up, units, listed]
  exact congrArg _ does

theorem answers_of {p : Packet} {s t : State} (up : coreUp s = true) (units : unitsUp s = true)
    (does : receiveRequest p s = t) : Answers s p t := by
  refine ⟨?_, fun h => ?_, ?_, fun h => ?_, fun h => ?_, fun h => ?_⟩
  · rintro (h | h)
    · exact next_receiveTyped up units (by rw [h]; decide) does
    · exact next_receiveTyped up units (by rw [h]; decide) does
  · exact next_receiveTyped up units (by rw [h]; decide) does
  · rintro (h | h)
    · exact next_receiveTyped up units (by rw [h]; decide) does
    · exact next_receiveTyped up units (by rw [h]; decide) does
  · exact next_receiveTyped up units (by rw [h]; decide) does
  · exact next_receiveTyped up units (by rw [h]; decide) does
  · exact next_receiveTyped up units (by rw [h]; decide) does

/-- A request that its port takes is processed as it leaves the port. -/
theorem receiveRequest_taken {p : Packet} {s t : State} (whole : p.abt = false) (taken : ejectHeld s p = false)
    (does : processTarget p (takeEjected p s) = some t) : receiveRequest p s = issueAll t := by
  rw [receiveRequest, whole, taken, if_neg (by decide), if_neg (by decide), does]

theorem receiveRequest_blocked {p : Packet} {s : State} (whole : p.abt = false) (taken : ejectHeld s p = false)
    (does : processTarget p (takeEjected p s) = none) :
    receiveRequest p s = { s with txn := { s.txn with stopVcs := s.txn.stopVcs ++ [p.vc] } } := by
  rw [receiveRequest, whole, taken, if_neg (by decide), if_neg (by decide), does]

section
variable {p : Packet} {s : State} {part : Nat}

theorem processTarget_unknown (none : partOfKey s p.pkey = none) : processTarget p s = some s := by
  rw [processTarget, none]

theorem processTarget_disabled (admitted : partOfKey s p.pkey ≠ none) (off : masterEn s = false) :
    processTarget p s = some (failRequest p stDISABLED s) := by
  obtain ⟨part, key⟩ := Option.ne_none_iff_exists'.mp admitted
  rw [processTarget, key]
  dsimp only
  rw [off, if_pos (by decide)]

theorem processTarget_bad {st : Byte} (admitted : partOfKey s p.pkey ≠ none) (on : masterEn s = true)
    (bad : requestFault p = some st) : processTarget p s = some (failRequest p st s) := by
  obtain ⟨part, key⟩ := Option.ne_none_iff_exists'.mp admitted
  rw [processTarget, key]
  dsimp only
  rw [on, if_neg (by decide), bad]

section
variable (key : partOfKey s p.pkey = some part) (on : masterEn s = true) (good : requestFault p = none)
include key on good

/-- A request that is in order is looked up (R139, R146): all its blocks are mapped with its permission. -/
theorem processTarget_ok {xs : List Extent} {fs : List Frag}
    (looked : lookBlocks s part (requestPerm p) (blocks4k p.addr.toNat (requestBytes p)) = .ok xs fs) :
    processTarget p s = some (takeTranslated p part xs (each fs touch s)) := by
  rw [processTarget, key]
  dsimp only
  rw [on, if_neg (by decide), good]
  dsimp only
  rw [looked]

theorem processTarget_fault {st : Byte} {va : Nat}
    (looked : lookBlocks s part (requestPerm p) (blocks4k p.addr.toNat (requestBytes p)) = .fault st va) :
    processTarget p s = some (xltFault p part st va s) := by
  rw [processTarget, key]
  dsimp only
  rw [on, if_neg (by decide), good]
  dsimp only
  rw [looked]

theorem processTarget_miss {va : Nat}
    (looked : lookBlocks s part (requestPerm p) (blocks4k p.addr.toNat (requestBytes p)) = .miss va) :
    processTarget p s = if s.txn.miss.length < 64 then
      some (awaitWalk .target part va (.pkt s.txn.missNo va)
        { s with txn := { s.txn with miss := s.txn.miss ++ [⟨s.txn.missNo, p⟩], missNo := s.txn.missNo + 1 } })
      else none := by
  rw [processTarget, key]
  dsimp only
  rw [on, if_neg (by decide), good]
  dsimp only
  rw [looked]

end

theorem takeTranslated_load (loads : writeClass p.ptype = false) (xs : List Extent) :
    takeTranslated p part xs s = readMem (.target p) xs false (some (part, genOf s part)) s := by
  rw [takeTranslated.eq_def, loads]
  rfl

theorem takeTranslated_store (stores : writeClass p.ptype = true) (x : Extent) (rest : List Extent) :
    takeTranslated p part (x :: rest) s = landPacket p x.pa x.mattr part (genOf s part) s := by
  rw [takeTranslated.eq_def, if_pos stores]

end

/-- Settles O42. -/
theorem requestsComplete : Obligations.RequestsComplete := by
  intro s p part xs fs up units on whole taken key good mapped
  have process := processTarget_ok (s := takeEjected p s) key on good mapped
  have received := receiveRequest_taken whole taken process
  intro u read
  have loads (load : writeClass p.ptype = false) : Answers s p read := by
    rw [takeTranslated_load load] at received
    exact answers_of up units received
  refine ⟨fun h => ?_, fun h => ?_, fun x rest first => ?_⟩
  · obtain ⟨rd, -⟩ := loads (by rcases h with h | h <;> rw [h] <;> decide)
    exact rd h
  · obtain ⟨-, grd, -⟩ := loads (by rw [h]; decide)
    exact grd h
  · intro landed
    have stores (store : writeClass p.ptype = true) : Answers s p landed := by
      rw [first, takeTranslated_store store] at received
      exact answers_of up units received
    refine ⟨fun h => ?_, fun h => ?_, fun h => ?_, fun h => ?_⟩
    · obtain ⟨-, -, wr, -⟩ := stores (by rcases h with h | h <;> rw [h] <;> decide)
      exact wr h
    · obtain ⟨-, -, -, msg, -⟩ := stores (by rw [h]; decide)
      exact msg h
    · obtain ⟨-, -, -, -, atom, -⟩ := stores (by rw [h]; decide)
      exact atom h
    · obtain ⟨-, -, -, -, -, vacc⟩ := stores (by rw [h]; decide)
      exact vacc h

/-- A port that takes nothing leaves a request where it is (R139). -/
theorem receiveTyped_held {types : List (BitVec 6)} {p : Packet} {s : State} (whole : p.abt = false)
    (held : ejectHeld s p = true) : receiveTyped types p s = s := by
  have stays : receiveRequest p s = s := by rw [receiveRequest, whole, held]; rfl
  rw [receiveTyped, onlyIf, stays, ite_self]

/-- Settles O43. -/
theorem requestsRefused : Obligations.RequestsRefused := by
  intro s p up units u all looked
  refine ⟨fun cut => ?_, fun whole held => ?_, fun whole taken key => ?_, fun whole taken key off => ?_,
    fun st whole taken key on bad => ?_, fun part st va whole taken key on good fault => ?_,
    fun part va whole taken key on good miss => ⟨fun room => ?_, fun full => ?_⟩, fun st x loads => ?_,
    fun st x stores => ?_, fun unlisted => ?_⟩
  · exact answers_of up units (if_pos cut)
  · have stays (types : List (BitVec 6)) : (.next (receiveTyped types p s) : Res) = .next s :=
      congrArg _ (receiveTyped_held whole held)
    exact ⟨stays _, stays _, stays _, stays _, stays _, stays _⟩
  · exact answers_of up units (receiveRequest_taken whole taken (processTarget_unknown key))
  · exact answers_of up units (receiveRequest_taken whole taken (processTarget_disabled key off))
  · exact answers_of up units (receiveRequest_taken whole taken (processTarget_bad key on bad))
  · have process := processTarget_fault (s := u) key on good fault
    exact answers_of up units (receiveRequest_taken whole taken process)
  · have process := processTarget_miss (s := u) key on good miss
    rw [if_pos (show u.txn.miss.length < 64 from room)] at process
    exact answers_of up units (receiveRequest_taken whole taken process)
  · have process := processTarget_miss (s := u) key on good miss
    rw [if_neg (show ¬ u.txn.miss.length < 64 from Nat.not_lt.mpr full)] at process
    exact answers_of up units (receiveRequest_blocked whole taken process)
  · rw [failRequest, loads]; rfl
  · rw [failRequest, stores]; rfl
  · exact next_onlyIf (by rw [up, unlisted]; rfl)

end Sys2Proof.Proofs

/-! ### Answers and timers (R31, R45 to R62, R119) -/

namespace Sys2Proof.Proofs

open Sys2Proof Sys2Proof.Machine Sys2Proof.Laws

/-! #### What the ports hand to the initiator -/

theorem exec_rdrReceive {s : State} {p : Packet} (up : coreUp s = true) (type : p.ptype = tRDR)
    (whole : p.abt = false) :
    exec (.rdrReceive p) s = .next (if masterEn s then issueAll (takeRdr p (takeEjected p s))
      else bump Reg.GEN_MEM_DROP (takeEjected p s)) := by
  refine (next_onlyIf (by rw [up, type]; rfl)).trans ?_
  rw [whole]
  rfl

theorem exec_atomrReceive {s : State} {p : Packet} (up : coreUp s = true) (type : p.ptype = tATOMR)
    (whole : p.abt = false) :
    exec (.atomrReceive p) s = .next (if masterEn s then issueAll (takeAtomr p (takeEjected p s))
      else bump Reg.GEN_MEM_DROP (takeEjected p s)) := by
  refine (next_onlyIf (by rw [up, type]; rfl)).trans ?_
  rw [whole]
  rfl

theorem lackTaken (s : State) (p : Packet) (up : coreUp s = true) (type : p.ptype = tLACK) (whole : p.abt = false) :
    exec (.lackReceive p) s = .next (issueAll
      (each (lackRecords p) (fun r s => takeRecord r.1 r.2.1 r.2.2.1 r.2.2.2 s) (takeEjected p s))) := by
  refine (next_onlyIf (by rw [up, type]; rfl)).trans ?_
  rw [whole, if_neg (by decide)]

/-! #### Responses of loads -/

section
variable {p : Packet} {s : State} {x : TagSt}

theorem takeRdr_stray (none : tagOf s p.tag.toNat = none) : takeRdr p s = bump Reg.GEN_STRAY_DROP s := by
  unfold takeRdr
  dsimp only
  rw [none]
  rfl

theorem takeAtomr_stray (none : tagOf s p.tag.toNat = none) : takeAtomr p s = bump Reg.GEN_STRAY_DROP s := by
  unfold takeAtomr
  dsimp only
  rw [none]
  rfl

variable {v : Desc} {e : Expected} (tag : tagOf s p.tag.toNat = some x) (live : x.quarantine = false)
  (sealing : sealedOk x p = true) (held : desc s x.desc = some v)
include tag live sealing held

/-- An RDR that fits an expected one is taken out of those its tag expects, and settles it. -/
theorem takeRdr_fits (plain : opcode v.bits ≠ opRESUME)
    (found : x.expects.find? (fits (opcode v.bits == opGATHER) p) = some e) :
    takeRdr p s =
      let g := opcode v.bits == opGATHER
      let u := setTag p.tag.toNat { x with
        expects := x.expects.filter fun y => if g && p.status != stOK then !fits g p y else y != e
        sump := x.sump || p.status == stSUMP } s
      settleTag p.tag.toNat
        (if p.status = stOK then placeData x.desc p.tag.toNat e p u else partEnded x.desc e.elem p.status u) := by
  unfold takeRdr
  dsimp only
  rw [tag]
  dsimp only
  rw [live, if_neg (by decide), sealing, if_neg (by decide), held]
  dsimp only
  rw [if_neg plain, found]

/-- An ATOMR that its tag expects ends its descriptor's wait, and settles the tag (R54). -/
theorem takeAtomr_fits (found : x.expects.find? (fun e => e.atom && e.seq == p.seq.toNat) = some e) :
    takeAtomr p s =
      let w := atomWidth { blankPacket with subop := BitVec.ofNat 8 (dSubop v.bits) }
      settleTag p.tag.toNat (setDesc x.desc { v with
        resend := none
        result := if p.status = stOK || p.status = stPOISONED then BitVec.ofNat 128 (sliceNat p.payload 0 w)
          else v.result
        done := if p.status = stOK then v.done + w else v.done
        ends := if p.status = stOK then v.ends else v.ends ++ [p.status] }
        (setTag p.tag.toNat { x with
          expects := x.expects.filter (fun y => y != e), sump := x.sump || p.status == stSUMP } s)) := by
  unfold takeAtomr
  dsimp only
  rw [tag]
  dsimp only
  rw [live, if_neg (by decide), sealing, if_neg (by decide), found, held]
  dsimp only
  rw [modDesc_of_desc (s := setTag _ _ s) _ held]

end

theorem rdrTaken (s : State) (p : Packet) (x : TagSt) (v : Desc) (e : Expected) (up : coreUp s = true)
    (on : masterEn s = true) (type : p.ptype = tRDR) (whole : p.abt = false) (tag : tagOf s p.tag.toNat = some x)
    (live : x.quarantine = false) (sealing : sealedOk x p = true) (held : desc s x.desc = some v)
    (plain : opcode v.bits ≠ opRESUME) :
    let g := opcode v.bits == opGATHER
    x.expects.find? (fits g p) = some e →
    (p.status = stOK → exec (.rdrReceive p) s = .next (issueAll (settleTag p.tag.toNat
      (placeData x.desc p.tag.toNat e p (setTag p.tag.toNat { x with expects := x.expects.filter (fun y => y != e) }
        (takeEjected p s)))))) ∧
    (p.status ≠ stOK → exec (.rdrReceive p) s = .next (issueAll (settleTag p.tag.toNat
      (partEnded x.desc e.elem p.status (setTag p.tag.toNat { x with
        expects := x.expects.filter (fun y => if g then !fits g p y else y != e)
        sump := x.sump || p.status == stSUMP } (takeEjected p s)))))) := by
  intro g found
  have taken := takeRdr_fits (s := takeEjected p s) tag live sealing held plain found
  refine ⟨fun ok => ?_, fun failed => ?_⟩
  · rw [exec_rdrReceive up type whole, if_pos on, taken, ok]
    simp
  · have bad : (p.status != stOK) = true := by simpa using failed
    rw [exec_rdrReceive up type whole, if_pos on, taken]
    simp only [if_neg failed, bad, Bool.and_true]
    rfl

theorem atomrTaken (s : State) (p : Packet) (x : TagSt) (v : Desc) (e : Expected) (up : coreUp s = true)
    (on : masterEn s = true) (type : p.ptype = tATOMR) (whole : p.abt = false) (tag : tagOf s p.tag.toNat = some x)
    (live : x.quarantine = false) (sealing : sealedOk x p = true) (held : desc s x.desc = some v)
    (found : x.expects.find? (fun e => e.atom && e.seq == p.seq.toNat) = some e) :
    let w := atomWidth { blankPacket with subop := BitVec.ofNat 8 (dSubop v.bits) }
    let u := setTag p.tag.toNat { x with
      expects := x.expects.filter (fun y => y != e), sump := x.sump || p.status == stSUMP } (takeEjected p s)
    (p.status = stOK → exec (.atomrReceive p) s = .next (issueAll (settleTag p.tag.toNat (setDesc x.desc { v with
      resend := none, result := BitVec.ofNat 128 (sliceNat p.payload 0 w), done := v.done + w } u)))) ∧
    (p.status = stPOISONED → exec (.atomrReceive p) s = .next (issueAll (settleTag p.tag.toNat (setDesc x.desc { v with
      resend := none, result := BitVec.ofNat 128 (sliceNat p.payload 0 w), ends := v.ends ++ [p.status] } u)))) ∧
    (p.status ≠ stOK → p.status ≠ stPOISONED → exec (.atomrReceive p) s = .next (issueAll (settleTag p.tag.toNat
      (setDesc x.desc { v with resend := none, ends := v.ends ++ [p.status] } u)))) := by
  intro w u
  have taken := takeAtomr_fits (s := takeEjected p s) tag live sealing held found
  refine ⟨fun ok => ?_, fun poisoned => ?_, fun failed clean => ?_⟩
  · rw [exec_atomrReceive up type whole, if_pos on, taken]
    simp [ok, u, w]
  · rw [exec_atomrReceive up type whole, if_pos on, taken]
    simp [poisoned, u, w]
  · rw [exec_atomrReceive up type whole, if_pos on, taken]
    have lost : ¬ (decide (p.status = stOK) || decide (p.status = stPOISONED)) = true := by
      rw [decide_eq_false failed, decide_eq_false clean]; decide
    simp only [if_neg failed, if_neg lost]
    rfl

theorem strayCounted (s : State) (p : Packet) (up : coreUp s = true) (on : masterEn s = true) (whole : p.abt = false)
    (none : tagOf s p.tag.toNat = none) :
    let t := issueAll (bump Reg.GEN_STRAY_DROP (takeEjected p s))
    (p.ptype = tRDR → exec (.rdrReceive p) s = .next t) ∧ (p.ptype = tATOMR → exec (.atomrReceive p) s = .next t) := by
  refine ⟨fun type => ?_, fun type => ?_⟩
  · rw [exec_rdrReceive up type whole, if_pos on, takeRdr_stray (s := takeEjected p s) none]
  · rw [exec_atomrReceive up type whole, if_pos on, takeAtomr_stray (s := takeEjected p s) none]

theorem answerDropped (s : State) (p : Packet) (up : coreUp s = true) (off : masterEn s = false)
    (whole : p.abt = false) :
    let t := bump Reg.GEN_MEM_DROP (takeEjected p s)
    (p.ptype = tRDR → exec (.rdrReceive p) s = .next t) ∧ (p.ptype = tATOMR → exec (.atomrReceive p) s = .next t) := by
  refine ⟨fun type => ?_, fun type => ?_⟩
  · rw [exec_rdrReceive up type whole, off, if_neg (by decide)]
  · rw [exec_atomrReceive up type whole, off, if_neg (by decide)]

/-! #### Records (R57, R60, R61) -/

theorem recordElem_plain {s : State} {x : TagSt} {st : Byte} (plain : st ≠ stSUMP) (elem : Nat) :
    recordElem s x st elem = elem := by
  refine if_neg ?_
  rw [decide_eq_false plain]
  exact Bool.false_ne_true

theorem takeRecord_counted {s : State} {st : Byte} {t elem n : Nat} {x : TagSt} {a : LineAcct}
    (tag : tagOf s t = some x) (live : x.quarantine = false) (room : st ≠ stHOLDFULL) (plain : st ≠ stSUMP)
    (line : x.lines.find elem = some a) (fits : n ≤ a.left) :
    takeRecord st t elem n s =
      let b : LineAcct := { a with left := a.left - n, ok := if st = stOK then a.ok + n else a.ok }
      let u := setTag t { x with lines := x.lines.set elem b } s
      settleTag t (if st = stOK then u else partEnded x.desc elem st u) := by
  have sump : (x.sump || st == stSUMP) = x.sump := by rw [beq_false_of_ne plain, Bool.or_false]
  unfold takeRecord
  rw [tag]
  dsimp only
  rw [live, if_neg (by decide), if_neg room, recordElem_plain plain, line]
  dsimp only
  rw [if_neg (by omega), sump]

/-! #### Timers (R45, R47, R58, R60, R62) -/

theorem resent (s : State) (d : Nat) (v : Desc) (r : Resend) (held : desc s d = some v) (again : v.resend = some r)
    (stage : r.stage = 1) (on : masterEn s = true) (live : v.disabled = false) (going : v.stopped = false) :
    exec (.holdFullResend d) s =
      .next (issueAll (resume d (setDesc d { v with resend := some { r with stage := 2 } } s))) := by
  change Host.Outcome.next _ = _
  rw [held]
  dsimp only
  rw [again]
  dsimp only
  rw [if_pos (by simp [stage, on, live, going])]

theorem heldTimedOut (s : State) (h : Nat) (x : Held) (found : s.txn.held.find? (fun x => x.no == h) = some x) :
    exec (.holdTimeout h) s =
      .next (bump Reg.GEN_HOLD_TMO_CNT (postEvent 0x0102 (ownId s) x.part x.packet.win.toNat x.packet.tag.toNat
        (failWrite x.packet stHOLDTMO true { s with txn := { s.txn with
          held := s.txn.held.filter fun y => y.no != x.no } }))) := by
  change Host.Outcome.next _ = _
  rw [found]
  rfl

theorem setSent (s : State) (n : NodeId) (k : PKey) (vc7 : Bool) (r : RecSet)
    (found : s.txn.sets.find? (fun x => x.node == n && x.pkey == k && x.vc7 == vc7) = some r) (some : r.recs ≠ []) :
    exec (.lackCoalesceTimeout n k vc7) s = .next (inject 0 { blankPacket with
      ptype := tLACK, vc := if r.vc7 then 7 else 3, pkey := r.pkey, src := ownId s, dst := r.node,
      len := BitVec.ofNat 12 (8 * r.recs.length), payload := r.recs.flatMap LackRec.bytes }
      { s with txn := { s.txn with sets := s.txn.sets.filter fun x =>
        !(x.node == r.node && x.pkey == r.pkey && x.vc7 == r.vc7) } }) := by
  have full : ¬ r.recs.isEmpty = true := by simpa using some
  change Host.Outcome.next _ = _
  rw [found]
  exact congrArg _ (if_neg full)

/-- The state in which a tag's timeout leaves its descriptor: the tag is in quarantine, and a fence-final packet under
it is not read for any more (R58, R72). -/
theorem exec_operationTimeout {s : State} {tag : Tag} {x : TagSt} (held : tagOf s tag.toNat = some x)
    (live : x.quarantine = false) :
    exec (.operationTimeout tag) s = .next (timedOut x (freeTag tag.toNat true
      (onlyIf (((desc s x.desc).bind (·.resend)).any fun r => r.packet.tag == tag)
        (withdrawReads x.desc RdWhat.ofResend) s))) := by
  change Host.Outcome.next _ = _
  rw [held]
  dsimp only
  rw [live, if_neg (by decide)]
  cases (desc s x.desc).bind (·.resend) <;> rfl

theorem timedOut_eq {x : TagSt} {s : State} {v : Desc} (held : desc s x.desc = some v) :
    timedOut x s = if isCollective (opcode v.bits) || opcode v.bits = opRESUME then stopDesc x.desc stTIMEOUT false s
      else modDesc x.desc (fun v => { v with ends := v.ends ++ [stTIMEOUT] })
        (each (if isElement v.bits then x.openElems else []) (fun e s => partEnded x.desc e stTIMEOUT s) s) := by
  unfold timedOut
  rw [held]

theorem tagTimedOut (s : State) (tag : Tag) (x : TagSt) (v : Desc) :
    let own := ((desc s x.desc).bind (·.resend)).any fun r => r.packet.tag == tag
    let u := freeTag tag.toNat true (onlyIf own (withdrawReads x.desc RdWhat.ofResend) s)
    tagOf s tag.toNat = some x → x.quarantine = false → desc u x.desc = some v →
    (isCollective (opcode v.bits) = true ∨ opcode v.bits = opRESUME →
      exec (.operationTimeout tag) s = .next (stopDesc x.desc stTIMEOUT false u)) ∧
    (isCollective (opcode v.bits) = false → opcode v.bits ≠ opRESUME → isElement v.bits = false →
      exec (.operationTimeout tag) s = .next (setDesc x.desc { v with ends := v.ends ++ [stTIMEOUT] } u)) ∧
    (isCollective (opcode v.bits) = false → opcode v.bits ≠ opRESUME → isElement v.bits = true →
      exec (.operationTimeout tag) s = .next (modDesc x.desc (fun v => { v with ends := v.ends ++ [stTIMEOUT] })
        (each x.openElems (fun e s => partEnded x.desc e stTIMEOUT s) u))) := by
  intro own u tagged live held
  refine ⟨fun whole => ?_, fun parts plain single => ?_, fun parts plain elements => ?_⟩
  · rw [exec_operationTimeout tagged live, timedOut_eq held, if_pos (by simpa using whole)]
  · rw [exec_operationTimeout tagged live, timedOut_eq held, if_neg (by simp [parts, plain]), single,
      if_neg (by decide), each_nil, modDesc_of_desc _ held]
  · rw [exec_operationTimeout tagged live, timedOut_eq held, if_neg (by simp [parts, plain]), if_pos elements]

theorem quarantineEnded (s : State) (tag : Tag) (x : TagSt) (held : tagOf s tag.toNat = some x)
    (old : x.quarantine = true) :
    exec (.tagQuarantineEnd tag) s = .next { s with txn := { s.txn with tags := s.txn.tags.erase tag.toNat } } := by
  change Host.Outcome.next _ = _
  rw [held]
  exact congrArg _ (if_pos old)

/-- Settles O45. -/
theorem answersAndTimers : Obligations.AnswersAndTimers := by
  refine ⟨rdrTaken, atomrTaken, strayCounted, answerDropped, lackTaken, fun s t elem n x a tag live line fits => ?_,
    fun s st t elem n x a tag live bad room plain line fits => ?_, resent, heldTimedOut, setSent, tagTimedOut,
    quarantineEnded⟩
  · rw [takeRecord_counted tag live (by decide) (by decide) line fits, if_pos rfl]
    rfl
  · rw [takeRecord_counted tag live room plain line fits]
    simp only [if_neg bad]

end Sys2Proof.Proofs

/-! ### Chain programs and pipes (R156 to R166) -/

namespace Sys2Proof.Proofs

open Sys2Proof Sys2Proof.Machine Sys2Proof.Laws

/-! #### Loads of chain programs (R163, R164, R166) -/

/-- A LOAD that comes while none is under way. -/
theorem exec_chainLoad {s : State} {v : Word} (up : unitsUp s = true) (load : natField v.toNat 0 2 = 1)
    (idle : s.imp.loading = none) :
    exec (.chainLoad v) s = .next (
      let i := natField v.toNat 8 6
      let n := natField v.toNat 16 7
      let u := storeReg Reg.IMP_CHAIN_CTL v.toNat s
      if n = 0 || 64 < i + n then raise Reg.IMP_CHAIN_STATUS 1 (chainRefused i 8 u)
      else if !masterEn u then raise Reg.IMP_CHAIN_STATUS 1 (chainRefused i 7 u)
      else issueAll (askPrograms { u with imp := { u.imp with loading := some (i, n) } })) := by
  refine (next_onlyIf up).trans ?_
  rw [chainCtlWrite, load, idle]
  rfl

theorem askPrograms_eq {s : State} {i n : Nat} (loading : s.imp.loading = some (i, n)) :
    askPrograms s = askWhole .programs (fld s Reg.IMP_CHAIN_BASE 8 40 * 256) (256 * n) s := by
  rw [askPrograms, loading]

theorem chainsBack_kept {s u : State} {w : Whole}
    (back : wholeBack (fun w => w == .programs) s = (some (w, false), u)) (bs : List Blob) :
    chainsBack bs s = chainsIn bs u := by
  unfold chainsBack
  rw [back]

theorem chainsBack_dropped {s u : State} {w : Whole}
    (back : wholeBack (fun w => w == .programs) s = (some (w, true), u)) (bs : List Blob) :
    chainsBack bs s = issueAll (askPrograms u) := by
  unfold chainsBack
  rw [back]

/-- What becomes of the one program of a load: its slot holds it, or is empty and the load is refused (R164). -/
theorem chainsIn_one {u : State} {i : Nat} (loading : u.imp.loading = some (i, 1)) (b : Blob) :
    chainsIn [b] u =
      let c := if b.bad then 6 else progCause (fit 256 b.data)
      let w : State := { u with imp := { u.imp with
        loading := none
        chains := if c = 0 then u.imp.chains.set i (fit 256 b.data) else u.imp.chains.erase i } }
      raise Reg.IMP_CHAIN_STATUS 1 (if c = 0 then w else chainRefused i c w) := by
  unfold chainsIn
  rw [loading]
  dsimp only [List.range, List.range.loop, List.map, List.foldl, List.getD, List.find?, Nat.add_zero,
    List.getElem?_cons_zero, Option.getD]
  generalize (if b.bad = true then 6 else progCause (fit 256 b.data)) = c
  by_cases ok : c = 0
  · subst ok
    rfl
  · have refused : (c != 0) = true := by simpa using ok
    simp only [refused, if_neg ok]

theorem programLoaded (s u : State) (w : Whole) (i : Nat) (b : Blob) (up : coreUp s = true)
    (back : wholeBack (fun w => w == .programs) s = (some (w, false), u)) (loading : u.imp.loading = some (i, 1)) :
    (b.bad = false → progCause (fit 256 b.data) = 0 → exec (.chainLoadDone [b]) s = .next (raise Reg.IMP_CHAIN_STATUS 1
      { u with imp := { u.imp with loading := none, chains := u.imp.chains.set i (fit 256 b.data) } })) ∧
    (b.bad = false → progCause (fit 256 b.data) ≠ 0 → exec (.chainLoadDone [b]) s = .next (raise Reg.IMP_CHAIN_STATUS 1
      (chainRefused i (progCause (fit 256 b.data))
        { u with imp := { u.imp with loading := none, chains := u.imp.chains.erase i } }))) ∧
    (b.bad = true → exec (.chainLoadDone [b]) s = .next (raise Reg.IMP_CHAIN_STATUS 1
      (chainRefused i 6 { u with imp := { u.imp with loading := none, chains := u.imp.chains.erase i } }))) := by
  have done : exec (.chainLoadDone [b]) s = .next (chainsIn [b] u) :=
    (next_wholeCommand up).trans (congrArg _ (chainsBack_kept back [b]))
  refine ⟨fun good fine => ?_, fun good refused => ?_, fun bad => ?_⟩
  · rw [done, chainsIn_one loading, good, if_neg (by decide), fine]
    rfl
  · rw [done, chainsIn_one loading, good, if_neg (by decide)]
    dsimp only
    rw [if_neg refused, if_neg refused]
  · rw [done, chainsIn_one loading, if_pos bad]
    rfl

theorem programsAskedAgain (s u : State) (w : Whole) (bs : List Blob) (i n : Nat) (up : coreUp s = true)
    (back : wholeBack (fun w => w == .programs) s = (some (w, true), u)) (loading : u.imp.loading = some (i, n)) :
    exec (.chainLoadDone bs) s =
      .next (issueAll (askWhole .programs (fld u Reg.IMP_CHAIN_BASE 8 40 * 256) (256 * n) u)) := by
  refine (next_wholeCommand up).trans ?_
  rw [chainsBack_dropped back, askPrograms_eq loading]

/-! #### Pipes (R156 to R158) -/

/-- The one descriptor that waits binds the pipe that is free for it. -/
theorem bindNext_one {s : State} {d p : Nat} {v : Desc}
    (waits : (s.qe.descs.entries.filter fun e => wantsPipe s e.1 e.2 && !slotLoading s e.2.bits) = [(d, v)])
    (free : choosePipe s (collFormat (opcode v.bits)) = some p) : bindNext s = bindPipe d p v s := by
  unfold bindNext
  rw [waits]
  dsimp only [sortBy, insertBy, List.foldl, List.find?]
  cases coll : collFormat (opcode v.bits)
  · rw [coll] at free
    rw [free]
    rfl
  · rw [coll] at free
    rw [free]

theorem collFormat_of_collective {o : Nat} (coll : isCollective o = true) : collFormat o = true := by
  obtain ⟨low, -⟩ := Bool.and_eq_true_iff.mp coll
  exact low

theorem next_bind {s t : State} (up : unitsUp s = true) (on : masterEn s = true) (binds : bindNext s = t) :
    exec .pipeBind s = .next (proceedAll t) := by
  refine (next_onlyIf (by rw [up, on]; rfl)).trans ?_
  rw [binds]

theorem collectiveBinds (s : State) (d p : Nat) (v : Desc) (up : unitsUp s = true) (on : masterEn s = true)
    (waits : (s.qe.descs.entries.filter fun e => wantsPipe s e.1 e.2 && !slotLoading s e.2.bits) = [(d, v)])
    (coll : isCollective (opcode v.bits) = true) (free : choosePipe s true = some p) :
    (chainBad s v.bits = false →
      exec .pipeBind s = .next (proceedAll (goOn d (setDesc d { v with
        pipe := some p, flags := 0, phase := .running, chain := (slotProgram s v.bits).getD [] }
        { s with imp := { s.imp with pipes := s.imp.pipes.set p d } })))) ∧
    (chainBad s v.bits = true → exec .pipeBind s = .next (proceedAll (endColl d stBADOP true s))) := by
  have binds := bindNext_one waits (collFormat_of_collective coll ▸ free)
  refine ⟨fun good => next_bind up on (binds.trans ?_), fun bad => next_bind up on (binds.trans ?_)⟩
  · rw [bindPipe]
    dsimp only
    rw [if_pos coll, good, if_neg (by decide)]
  · rw [bindPipe]
    dsimp only
    rw [if_pos coll, bad, if_pos rfl]

theorem otherBinds (s : State) (d p : Nat) (v : Desc) (up : unitsUp s = true) (on : masterEn s = true)
    (waits : (s.qe.descs.entries.filter fun e => wantsPipe s e.1 e.2 && !slotLoading s e.2.bits) = [(d, v)])
    (other : isCollective (opcode v.bits) = false) (free : choosePipe s (collFormat (opcode v.bits)) = some p) :
    let w := { v with chain := (slotProgram s v.bits).getD [] }
    let u := lookAhead w (setDesc d { w with pipe := some p, flags := 0, phase := .running }
      { s with imp := { s.imp with pipes := s.imp.pipes.set p d } })
    (∀ st, startFault s w = some st → exec .pipeBind s = .next (proceedAll (endUnstarted d st s))) ∧
    (startFault s w = none → opcode v.bits ≠ opRESUME → exec .pipeBind s = .next (proceedAll (goOn d u))) ∧
    (startFault s w = none → opcode v.bits = opRESUME → exec .pipeBind s =
      .next (proceedAll (goOn d (setColl d (Coll.start (dCid v.bits) 0 0 [] none) u)))) := by
  intro w u
  have plain : ¬ isCollective (opcode v.bits) = true := by rw [other]; decide
  have binds := bindNext_one waits free
  refine ⟨fun st fails => next_bind up on (binds.trans ?_), fun good moves => next_bind up on (binds.trans ?_),
    fun good resumes => next_bind up on (binds.trans ?_)⟩
  · rw [bindPipe]
    dsimp only
    rw [if_neg plain, show startFault s _ = _ from fails]
  · rw [bindPipe]
    dsimp only
    rw [if_neg plain, show startFault s _ = _ from good]
    dsimp only
    rw [if_neg moves]
  · rw [bindPipe]
    dsimp only
    rw [if_neg plain, show startFault s _ = _ from good]
    dsimp only
    rw [if_pos resumes]

/-- Settles O48. -/
theorem impellerCommands : Obligations.ImpellerCommands := by
  refine ⟨fun s v => ?_, fun s v => ?_,
    fun s v up load busy => ?_, fun s v up load idle bad => ?_, programLoaded, programsAskedAgain,
    fun s v up => next_onlyIf up, collectiveBinds, otherBinds⟩
  · intro u up load idle some fits on
    rw [exec_chainLoad up load idle]
    dsimp only
    rw [if_neg (by simp; omega), show masterEn (storeReg _ _ s) = true from on, if_neg (by decide)]
    rfl
  · intro u up load idle some fits off
    rw [exec_chainLoad up load idle]
    dsimp only
    rw [if_neg (by simp; omega), show masterEn (storeReg _ _ s) = false from off, if_pos (by decide)]
  · refine (next_onlyIf up).trans ?_
    have loading : s.imp.loading.isSome = true := Option.isSome_iff_ne_none.mpr busy
    rw [chainCtlWrite, load, loading]
    rfl
  · rw [exec_chainLoad up load idle]
    dsimp only
    rw [if_pos (by simpa using bad)]

end Sys2Proof.Proofs

/-! ### Collectives, experts and parking (R199 to R216) -/

namespace Sys2Proof.Proofs

open Sys2Proof Sys2Proof.Machine Sys2Proof.Laws

/-! #### The port, and the member that a packet names (R199) -/

/-- A collective packet that is whole leaves its port and is taken. -/
theorem next_collPacketIn {ty : BitVec 6} {p : Packet} {f : Packet → State → State} {s t : State} (up : coreUp s = true)
    (whole : p.abt = false) (type : p.ptype = ty) (does : f p (takeEjected p s) = t) :
    (.next (collPacketIn ty p f s) : Res) = .next (issueAll t) := by
  refine (next_onlyIf (by rw [up, type, beq_self_eq_true]; rfl)).trans ?_
  rw [whole, if_neg (by decide), does]

theorem exec_ecmbReceive {p : Packet} {s t : State} (up : coreUp s = true) (whole : p.abt = false)
    (type : p.ptype = tECMB) (does : takeEcmb p s = t) : exec (.ecmbReceive p) s = .next (issueAll t) := by
  refine (next_onlyIf (by rw [up, type]; rfl)).trans ?_
  rw [whole, if_neg (by decide), does]

theorem memberPacket_takeEjected (p q : Packet) (s : State) :
    memberPacket p (takeEjected q s) = memberPacket p s := rfl

/-- A packet's member has a collective that takes part, a descriptor and its own entry. -/
theorem parts_of_memberPacket {p : Packet} {s : State} {d : Nat} {v : Desc} {c : Coll} {m : Member}
    (named : memberPacket p s = some (d, v, c, m)) :
    slotOf s p.win.toNat = some (d, c) ∧ c.members.find p.src.toNat = some m := by
  unfold memberPacket at named
  split at named
  · cases named
  · rename_i slot
    split at named
    · rename_i member
      cases named
      exact ⟨slot, member⟩
    · cases named

/-- The TAG of a packet's member is fixed by the packet (R199). -/
def tagFixed (d : Nat) (p : Packet) (s : State) : State :=
  modMember d p.src.toNat (fun x => { x with tag := some p.tag }) s

/-- An ECMB that names no token of its combine, or a write that could not be asked for (R211). -/
def ecmbMisplaced (v : Desc) (p : Packet) : Bool :=
  opcode v.bits != opCOMBINE || dNtok v.bits ≤ p.addr.toNat / rowBytes v.bits
    || (requestFault { p with ptype := tVACC }).isSome

theorem ecmbMisplaced_iff (v : Desc) (p : Packet) : ecmbMisplaced v p = true ↔
    opcode v.bits ≠ opCOMBINE ∨ dNtok v.bits ≤ p.addr.toNat / rowBytes v.bits ∨
      requestFault { p with ptype := tVACC } ≠ none := by
  rw [ecmbMisplaced, Bool.or_eq_true, Bool.or_eq_true, bne_iff_ne, decide_eq_true_eq, Option.isSome_iff_ne_none,
    or_assoc]

theorem ecmb_placed {v : Desc} {p : Packet} (op : opcode v.bits = opCOMBINE)
    (row : p.addr.toNat / rowBytes v.bits < dNtok v.bits) (good : requestFault { p with ptype := tVACC } = none) :
    ¬ ecmbMisplaced v p = true := by
  rw [ecmbMisplaced_iff]
  rintro (h | h | h)
  · exact h op
  · omega
  · exact h good

section
variable {p : Packet} {s : State} {d : Nat} {v : Desc} {c : Coll} {m : Member}

theorem withMember_stray (none : memberPacket p s = none) (f : Nat → Desc → Coll → State → State) :
    withMember p f s = stray s := by
  unfold withMember
  rw [none]

theorem takeCjoin_stray (none : memberPacket p s = none) : takeCjoin p s = stray s := by
  unfold takeCjoin
  rw [none]

theorem takeEcmb_stray (none : memberPacket p s = none) : takeEcmb p s = stray (takeEjected p s) := by
  unfold takeEcmb
  rw [none]

/-- Another TAG than the one fixed. -/
theorem tag_differs (fixed : m.tag ≠ none) (other : m.tag ≠ some p.tag) :
    (m.tag.isSome && m.tag != some p.tag) = true := by
  rw [Option.isSome_iff_ne_none.mpr fixed, Bool.true_and]
  simpa using other

theorem tag_agrees (same : m.tag = none ∨ m.tag = some p.tag) : (m.tag.isSome && m.tag != some p.tag) = false := by
  rcases same with h | h <;> rw [h] <;> simp

section
variable (named : memberPacket p s = some (d, v, c, m)) (going : v.stopped = false)
include named

theorem withMember_differs (fixed : m.tag ≠ none) (other : m.tag ≠ some p.tag)
    (f : Nat → Desc → Coll → State → State) : withMember p f s = stray s := by
  unfold withMember
  rw [named]
  exact if_pos (tag_differs fixed other)

theorem takeEcmb_differs (fixed : m.tag ≠ none) (other : m.tag ≠ some p.tag) :
    takeEcmb p s = stray (takeEjected p s) := by
  unfold takeEcmb
  rw [named]
  exact if_pos (tag_differs fixed other)

include going

theorem takeCjoin_differs (fixed : m.tag ≠ none) (other : m.tag ≠ some p.tag) :
    takeCjoin p s = endColl d stBADOP true s := by
  unfold takeCjoin
  rw [named]
  dsimp only
  rw [going, if_neg (by decide), tag_differs fixed other, Bool.true_or, if_pos rfl]

variable (same : m.tag = none ∨ m.tag = some p.tag)

theorem takeCjoin_long (long : p.len ≠ 8) : takeCjoin p s = endColl d stBADOP true s := by
  have wrong : (p.len != 8) = true := by simpa using long
  unfold takeCjoin
  rw [named]
  dsimp only
  rw [going, if_neg (by decide), wrong, Bool.or_true, if_pos rfl]

include same

theorem withMember_taken (f : Nat → Desc → Coll → State → State) : withMember p f s = f d v c (tagFixed d p s) := by
  unfold withMember
  rw [named]
  dsimp only
  rw [tag_agrees same, if_neg (by decide), going, if_neg (by decide)]
  rfl

theorem takeCjoin_taken (len : p.len = 8) :
    takeCjoin p s =
      if sliceNat p.payload 0 4 != c.sig.toNat then endColl d stBADOP true (tagFixed d p s)
      else goOn d (onlyIf (natField (sliceNat p.payload 4 4) 12 1 == 0)
        (modMember d p.src.toNat (fun x => { x with owed := true }))
        (modMember d p.src.toNat (fun x => { x with joined := true }) (tagFixed d p s))) := by
  unfold takeCjoin
  rw [named]
  dsimp only
  rw [going, if_neg (by decide), tag_agrees same, len, if_neg (by decide)]
  rfl

theorem takeEcmb_misplaced (bad : ecmbMisplaced v p = true) :
    takeEcmb p s = endColl d stBADOP true (tagFixed d p (takeEjected p s)) := by
  unfold takeEcmb
  rw [named]
  dsimp only
  rw [tag_agrees same, if_neg (by decide), going, if_neg (by decide)]
  exact if_pos bad

section
variable (placed : ¬ ecmbMisplaced v p = true)
include placed

/-- An ECMB whose member takes part and that lies in its combine is looked up (R211). -/
theorem takeEcmb_ok {xs : List Extent} {fs : List Frag} {ms : List BlockMap} {g : Nat} {c' : Coll}
    (look : lookLocal s v permLW ((dYaddr v.bits + p.addr.toNat) % 2 ^ 52) p.len.toNat = .ok xs fs ms g)
    (slot : collOf (useLook d fs ms (tagFixed d p (takeEjected p s))) d = some c') :
    takeEcmb p s = enterAtomic p xs v.part g (setColl d { c' with writes := c'.writes + p.len.toNat / 64 }
      (useLook d fs ms (tagFixed d p (takeEjected p s)))) := by
  unfold takeEcmb
  rw [named]
  dsimp only
  rw [tag_agrees same, if_neg (by decide), going, if_neg (by decide)]
  refine (if_neg placed).trans ?_
  rw [look]
  dsimp only
  rw [show collOf (useLook d fs ms (modMember _ _ _ _)) d = _ from slot]
  rfl

theorem takeEcmb_miss {w : Nat}
    (look : lookLocal s v permLW ((dYaddr v.bits + p.addr.toNat) % 2 ^ 52) p.len.toNat = .miss w) :
    takeEcmb p s = awaitWalk .initiator v.part w (.desc d w) s := by
  unfold takeEcmb
  rw [named]
  dsimp only
  rw [tag_agrees same, if_neg (by decide), going, if_neg (by decide)]
  refine (if_neg placed).trans ?_
  rw [look]

theorem takeEcmb_fault {w : Nat}
    (look : lookLocal s v permLW ((dYaddr v.bits + p.addr.toNat) % 2 ^ 52) p.len.toNat = .fault w) :
    takeEcmb p s = localFault d w (tagFixed d p (takeEjected p s)) := by
  unfold takeEcmb
  rw [named]
  dsimp only
  rw [tag_agrees same, if_neg (by decide), going, if_neg (by decide)]
  refine (if_neg placed).trans ?_
  rw [look]
  rfl

end

end
end

/-! #### Stray packets -/

theorem strayPackets (s : State) (p : Packet) (up : coreUp s = true) (whole : p.abt = false)
    (none : memberPacket p s = none) :
    let t := issueAll (stray (takeEjected p s))
    (p.ptype = tCJOIN → exec (.cjoinReceive p) s = .next t) ∧ (p.ptype = tCDATA → exec (.cdataReceive p) s = .next t) ∧
    (p.ptype = tEDSP → exec (.edspReceive p) s = .next t) ∧ (p.ptype = tECMB → exec (.ecmbReceive p) s = .next t) ∧
    (p.ptype = tETALLY → exec (.etallyReceive p) s = .next t) := by
  have left := (memberPacket_takeEjected p p s).trans none
  exact ⟨fun type => next_collPacketIn up whole type (takeCjoin_stray left),
    fun type => next_collPacketIn up whole type (withMember_stray left _),
    fun type => next_collPacketIn up whole type (withMember_stray left _),
    fun type => exec_ecmbReceive up whole type (takeEcmb_stray none),
    fun type => next_collPacketIn up whole type (withMember_stray left _)⟩

theorem packetsOfAnotherTag (s : State) (p : Packet) (d : Nat) (v : Desc) (c : Coll) (m : Member)
    (up : coreUp s = true) (whole : p.abt = false) (named : memberPacket p s = some (d, v, c, m))
    (going : v.stopped = false) (fixed : m.tag ≠ none) (other : m.tag ≠ some p.tag) :
    (p.ptype = tCJOIN → exec (.cjoinReceive p) s = .next (issueAll (endColl d stBADOP true (takeEjected p s)))) ∧
    (p.ptype = tCDATA → exec (.cdataReceive p) s = .next (issueAll (stray (takeEjected p s)))) ∧
    (p.ptype = tEDSP → exec (.edspReceive p) s = .next (issueAll (stray (takeEjected p s)))) ∧
    (p.ptype = tECMB → exec (.ecmbReceive p) s = .next (issueAll (stray (takeEjected p s)))) ∧
    (p.ptype = tETALLY → exec (.etallyReceive p) s = .next (issueAll (stray (takeEjected p s)))) := by
  have left := (memberPacket_takeEjected p p s).trans named
  exact ⟨fun type => next_collPacketIn up whole type (takeCjoin_differs left going fixed other),
    fun type => next_collPacketIn up whole type (withMember_differs left fixed other _),
    fun type => next_collPacketIn up whole type (withMember_differs left fixed other _),
    fun type => exec_ecmbReceive up whole type (takeEcmb_differs named fixed other),
    fun type => next_collPacketIn up whole type (withMember_differs left fixed other _)⟩

/-! #### Packets that a collective takes -/

section
variable {p : Packet} {s : State} {d : Nat} {v : Desc} {c : Coll} {m : Member}
  (named : memberPacket p s = some (d, v, c, m)) (going : v.stopped = false)
  (same : m.tag = none ∨ m.tag = some p.tag)
include named going same

theorem takeCdata_placed {st va : Nat} (place : cdataPlace (tagFixed d p s) v p = some (st, va)) :
    takeCdata p s = collWrite d (.arrival st (touched p.addr.toNat p.len.toNat)
      (if opcode v.bits = opBROADCAST && natField p.subop.toNat 4 4 = 0 && bcastForwards (tagFixed d p s) v.bits then
        some { (cdataOf (tagFixed d p s) v c (bcastMasks (tagFixed d p s) v.bits).2 1 p.addr.toNat (poisoned p)) with
          mcast := true }
      else none)) va (poisoned p) (tagFixed d p s) := by
  rw [takeCdata, withMember_taken named going same, place]

theorem takeCdata_misplaced (place : cdataPlace (tagFixed d p s) v p = none) :
    takeCdata p s = endColl d stBADOP true (tagFixed d p s) := by
  rw [takeCdata, withMember_taken named going same, place]

/-- An EDSP whose row part lies in its row (R210). -/
theorem takeEdsp_placed (op : opcode v.bits = opDISPATCH) (row : p.addr.toNat / rowBytes v.bits < dNrow v.bits)
    (some : p.len ≠ 0) (most : p.len.toNat ≤ 2048)
    (inside : p.addr.toNat % rowBytes v.bits + p.len.toNat ≤ rowBytes v.bits) :
    takeEdsp p s =
      let r := collWrite d (.row (touched p.addr.toNat p.len.toNat) p.len.toNat) (dYaddr v.bits + p.addr.toNat)
        (poisoned p) (tagFixed d p s)
      if p.addr.toNat % rowBytes v.bits = 0 then collWrite d .entry
        (dZaddr v.bits + 4 * (p.addr.toNat / rowBytes v.bits))
        (clean (leBytes 4 (2 ^ 31 + 2 ^ 8 * p.aux.toNat + p.src.toNat))) r
      else r := by
  have sized : p.len.toNat ≠ 0 := fun zero => some (BitVec.eq_of_toNat_eq zero)
  rw [takeEdsp, withMember_taken named going same]
  exact if_neg (by simp [op]; omega)

theorem takeEdsp_misplaced (bad : opcode v.bits ≠ opDISPATCH ∨ dNrow v.bits ≤ p.addr.toNat / rowBytes v.bits ∨
    p.len = 0 ∨ 2048 < p.len.toNat ∨ rowBytes v.bits < p.addr.toNat % rowBytes v.bits + p.len.toNat) :
    takeEdsp p s = endColl d stBADOP true (tagFixed d p s) := by
  rw [takeEdsp, withMember_taken named going same]
  refine if_pos ?_
  rcases bad with h | h | h | h | h <;> simp [h]

theorem takeEtally_eq :
    takeEtally p s = if p.len != 8 then endColl d stBADOP true (tagFixed d p s) else goOn d
      (modMember d p.src.toNat (fun x => { x with tally := some (sliceNat p.payload 0 4) }) (tagFixed d p s)) := by
  rw [takeEtally, withMember_taken named going same]

omit going in
/-- A member's CABORT: its own status, or BAD_OP where its length is not 4 (R216). -/
theorem takeCabort_member {st : Byte} (status : (if p.len = 4 then p.payload.headD 0 else stBADOP) = st)
    (member : st ≠ stSUMP) : takeCabort p s = endColl d st false (tagFixed d p s) := by
  obtain ⟨slot, entry⟩ := parts_of_memberPacket named
  have other : ¬ (decide (st = stSUMP) && decide (p.tag.toNat = c.tag)) = true := by
    rw [decide_eq_false member]
    exact Bool.false_ne_true
  unfold takeCabort
  dsimp only
  rw [status, slot]
  dsimp only
  rw [if_neg other, entry]
  dsimp only
  rw [tag_agrees same, if_neg (by decide)]
  rfl

end

theorem memberPackets (s : State) (p : Packet) (d : Nat) (v : Desc) (c : Coll) (m : Member) (up : coreUp s = true)
    (whole : p.abt = false) (named : memberPacket p s = some (d, v, c, m)) (going : v.stopped = false)
    (same : m.tag = none ∨ m.tag = some p.tag) :
    let u := modMember d p.src.toNat (fun x => { x with tag := some p.tag }) (takeEjected p s)
    let j := modMember d p.src.toNat (fun x => { x with joined := true }) u
    (p.ptype = tCJOIN → p.len = 8 → sliceNat p.payload 0 4 = c.sig.toNat → natField (sliceNat p.payload 4 4) 12 1 = 1 →
      exec (.cjoinReceive p) s = .next (issueAll (goOn d j))) ∧
    (p.ptype = tCJOIN → p.len = 8 → sliceNat p.payload 0 4 = c.sig.toNat → natField (sliceNat p.payload 4 4) 12 1 = 0 →
      exec (.cjoinReceive p) s = .next (issueAll (goOn d (modMember d p.src.toNat (fun x => { x with owed := true })
      j)))) ∧
    (p.ptype = tCJOIN → p.len = 8 → sliceNat p.payload 0 4 ≠ c.sig.toNat →
      exec (.cjoinReceive p) s = .next (issueAll (endColl d stBADOP true u))) ∧
    (p.ptype = tCJOIN → p.len ≠ 8 →
      exec (.cjoinReceive p) s = .next (issueAll (endColl d stBADOP true (takeEjected p s)))) ∧
    (∀ st va, p.ptype = tCDATA → cdataPlace u v p = some (st, va) →
      opcode v.bits ≠ opBROADCAST ∨ natField p.subop.toNat 4 4 ≠ 0 ∨ bcastForwards u v.bits = false →
      exec (.cdataReceive p) s = .next (issueAll (collWrite d (.arrival st (touched p.addr.toNat p.len.toNat) none) va
        (poisoned p) u))) ∧
    (∀ st va, p.ptype = tCDATA → cdataPlace u v p = some (st, va) → opcode v.bits = opBROADCAST →
      natField p.subop.toNat 4 4 = 0 → bcastForwards u v.bits = true →
      exec (.cdataReceive p) s = .next (issueAll (collWrite d (.arrival st (touched p.addr.toNat p.len.toNat)
        (some { (cdataOf u v c (bcastMasks u v.bits).2 1 p.addr.toNat (poisoned p)) with mcast := true })) va
        (poisoned p) u))) ∧
    (p.ptype = tCDATA → cdataPlace u v p = none →
      exec (.cdataReceive p) s = .next (issueAll (endColl d stBADOP true u))) ∧
    (p.ptype = tEDSP → opcode v.bits = opDISPATCH → p.addr.toNat / rowBytes v.bits < dNrow v.bits → p.len ≠ 0 →
      p.len.toNat ≤ 2048 → p.addr.toNat % rowBytes v.bits + p.len.toNat ≤ rowBytes v.bits →
      let r := collWrite d (.row (touched p.addr.toNat p.len.toNat) p.len.toNat) (dYaddr v.bits + p.addr.toNat)
        (poisoned p) u
      (p.addr.toNat % rowBytes v.bits ≠ 0 → exec (.edspReceive p) s = .next (issueAll r)) ∧
      (p.addr.toNat % rowBytes v.bits = 0 → exec (.edspReceive p) s = .next (issueAll (collWrite d .entry
        (dZaddr v.bits + 4 * (p.addr.toNat / rowBytes v.bits))
        (clean (leBytes 4 (2 ^ 31 + 2 ^ 8 * p.aux.toNat + p.src.toNat))) r)))) ∧
    (p.ptype = tEDSP → opcode v.bits ≠ opDISPATCH ∨ dNrow v.bits ≤ p.addr.toNat / rowBytes v.bits ∨ p.len = 0 ∨
      2048 < p.len.toNat ∨ rowBytes v.bits < p.addr.toNat % rowBytes v.bits + p.len.toNat →
      exec (.edspReceive p) s = .next (issueAll (endColl d stBADOP true u))) ∧
    (p.ptype = tECMB → opcode v.bits = opCOMBINE → p.addr.toNat / rowBytes v.bits < dNtok v.bits →
      requestFault { p with ptype := tVACC } = none →
      let look := lookLocal s v permLW ((dYaddr v.bits + p.addr.toNat) % 2 ^ 52) p.len.toNat
      (∀ xs fs ms g c', look = .ok xs fs ms g → collOf (useLook d fs ms u) d = some c' →
        exec (.ecmbReceive p) s = .next (issueAll (enterAtomic p xs v.part g
          (setColl d { c' with writes := c'.writes + p.len.toNat / 64 } (useLook d fs ms u))))) ∧
      (∀ w, look = .miss w → exec (.ecmbReceive p) s =
        .next (issueAll (awaitWalk .initiator v.part w (.desc d w) s))) ∧
      (∀ w, look = .fault w → exec (.ecmbReceive p) s = .next (issueAll (localFault d w u)))) ∧
    (p.ptype = tECMB → opcode v.bits ≠ opCOMBINE ∨ dNtok v.bits ≤ p.addr.toNat / rowBytes v.bits ∨
      requestFault { p with ptype := tVACC } ≠ none →
      exec (.ecmbReceive p) s = .next (issueAll (endColl d stBADOP true u))) ∧
    (p.ptype = tETALLY → p.len = 8 → exec (.etallyReceive p) s = .next (issueAll (goOn d
      (modMember d p.src.toNat (fun x => { x with tally := some (sliceNat p.payload 0 4) }) u)))) ∧
    (p.ptype = tETALLY → p.len ≠ 8 → exec (.etallyReceive p) s = .next (issueAll (endColl d stBADOP true u))) ∧
    (p.ptype = tCABORT → p.len = 4 → p.payload.headD 0 ≠ stSUMP → exec (.cabortReceive p) s =
      .next (issueAll (endColl d (p.payload.headD 0) false u))) ∧
    (p.ptype = tCABORT → p.len ≠ 4 → exec (.cabortReceive p) s = .next (issueAll (endColl d stBADOP false u))) := by
  intro u j
  have left := (memberPacket_takeEjected p p s).trans named
  refine ⟨fun type len sig answers => ?_, fun type len sig asks => ?_, fun type len sig => ?_, fun type len => ?_,
    fun st va type place plain => ?_, fun st va type place op first forwards => ?_, fun type place => ?_,
    fun type op row some most inside => ⟨fun inner => ?_, fun start => ?_⟩, fun type bad => ?_,
    fun type op row good => ⟨fun xs fs ms g c' look slot => ?_, fun w look => ?_, fun w look => ?_⟩,
    fun type bad => ?_, fun type len => ?_, fun type len => ?_, fun type len status => ?_, fun type len => ?_⟩
  · refine next_collPacketIn up whole type ((takeCjoin_taken left going same len).trans ?_)
    rw [sig, if_neg (by simp), answers]
    rfl
  · refine next_collPacketIn up whole type ((takeCjoin_taken left going same len).trans ?_)
    rw [sig, if_neg (by simp), asks]
    rfl
  · refine next_collPacketIn up whole type ((takeCjoin_taken left going same len).trans ?_)
    rw [if_pos (by simpa using sig)]
    rfl
  · exact next_collPacketIn up whole type (takeCjoin_long left going len)
  · refine next_collPacketIn up whole type ((takeCdata_placed left going same place).trans ?_)
    rw [if_neg (by rcases plain with h | h | h <;> simp [h, tagFixed, u] at *)]
    rfl
  · refine next_collPacketIn up whole type ((takeCdata_placed left going same place).trans ?_)
    rw [if_pos (by rw [op, first, show bcastForwards (tagFixed d p _) _ = true from forwards]; rfl)]
    rfl
  · exact next_collPacketIn up whole type (takeCdata_misplaced left going same place)
  · refine next_collPacketIn up whole type ((takeEdsp_placed left going same op row some most inside).trans ?_)
    exact if_neg inner
  · refine next_collPacketIn up whole type ((takeEdsp_placed left going same op row some most inside).trans ?_)
    exact if_pos start
  · exact next_collPacketIn up whole type (takeEdsp_misplaced left going same bad)
  · exact exec_ecmbReceive up whole type (takeEcmb_ok named going same (ecmb_placed op row good) look slot)
  · exact exec_ecmbReceive up whole type (takeEcmb_miss named going same (ecmb_placed op row good) look)
  · exact exec_ecmbReceive up whole type (takeEcmb_fault named going same (ecmb_placed op row good) look)
  · exact exec_ecmbReceive up whole type
      (takeEcmb_misplaced named going same ((ecmbMisplaced_iff v p).mpr bad))
  · refine next_collPacketIn up whole type ((takeEtally_eq left going same).trans ?_)
    rw [len]
    rfl
  · refine next_collPacketIn up whole type ((takeEtally_eq left going same).trans ?_)
    exact if_pos (by simpa using len)
  · exact next_collPacketIn up whole type (takeCabort_member left same (if_pos len) status)
  · exact next_collPacketIn up whole type (takeCabort_member left same (if_neg len) (by decide))

theorem sumpAbort (s : State) (p : Packet) (d : Nat) (c : Coll) (up : coreUp s = true) (whole : p.abt = false)
    (type : p.ptype = tCABORT) (slot : slotOf s p.win.toNat = some (d, c)) (len : p.len = 4)
    (status : p.payload.headD 0 = stSUMP) (tag : p.tag.toNat = c.tag) :
    exec (.cabortReceive p) s = .next (issueAll (endColl d stSUMP true
      (modTag c.tag (fun x => { x with sump := true }) (takeEjected p s)))) := by
  refine next_collPacketIn up whole type ?_
  have slot' : slotOf (takeEjected p s) p.win.toNat = some (d, c) := slot
  unfold takeCabort
  dsimp only
  rw [if_pos len, slot', status, tag]
  dsimp only
  rw [decide_eq_true rfl, decide_eq_true rfl, if_pos (by decide)]

/-! #### Answers of parked data (R202, R213, R216) -/

theorem takePrdr_fits {p : Packet} {s : State} {x : TagSt} {v : Desc} {e : Expected}
    (tag : tagOf s p.tag.toNat = some x) (live : x.quarantine = false) (sealing : sealedOk x p = true)
    (held : desc s x.desc = some v) (resumes : opcode v.bits = opRESUME)
    (found : x.expects.find? (fits false p) = some e) (going : v.stopped = false) :
    takePrdr p s =
      let u := setTag p.tag.toNat
        { x with expects := x.expects.filter (fun y => y != e), sump := x.sump || p.status == stSUMP } s
      if p.status != stOK then settleTag p.tag.toNat (stopDesc x.desc p.status false u)
      else settleTag p.tag.toNat
        (if dChainEn v.bits then placeStaged x.desc e p u else placeData x.desc p.tag.toNat e p u) := by
  have kept : (desc s x.desc).filter (fun v => opcode v.bits == opRESUME) = some v := by
    rw [held]
    exact if_pos (by simpa using resumes)
  unfold takePrdr
  dsimp only
  rw [tag]
  dsimp only
  rw [live, if_neg (by decide), sealing, if_neg (by decide), kept, found]
  dsimp only
  rw [going, if_neg (by decide)]

theorem parkedAnswer (s : State) (p : Packet) (x : TagSt) (v : Desc) (e : Expected) (up : coreUp s = true)
    (on : masterEn s = true) (type : p.ptype = tPRDR) (whole : p.abt = false) (tag : tagOf s p.tag.toNat = some x)
    (live : x.quarantine = false) (sealing : sealedOk x p = true) (held : desc s x.desc = some v)
    (resumes : opcode v.bits = opRESUME) (found : x.expects.find? (fits false p) = some e)
    (going : v.stopped = false) :
    let u := setTag p.tag.toNat
      { x with expects := x.expects.filter (fun y => y != e), sump := x.sump || p.status == stSUMP } (takeEjected p s)
    (p.status = stOK → dChainEn v.bits = true → exec (.prdrReceive p) s =
      .next (issueAll (settleTag p.tag.toNat (placeStaged x.desc e p u)))) ∧
    (p.status = stOK → dChainEn v.bits = false → exec (.prdrReceive p) s =
      .next (issueAll (settleTag p.tag.toNat (placeData x.desc p.tag.toNat e p u)))) ∧
    (p.status ≠ stOK → exec (.prdrReceive p) s =
      .next (issueAll (settleTag p.tag.toNat (stopDesc x.desc p.status false u)))) := by
  intro u
  have taken : (if masterEn (takeEjected p s) then takePrdr p (takeEjected p s) else dropData (takeEjected p s)) = _ :=
    (if_pos on).trans (takePrdr_fits (s := takeEjected p s) tag live sealing held resumes found going)
  refine ⟨fun ok chained => next_collPacketIn up whole type (taken.trans ?_),
    fun ok plain => next_collPacketIn up whole type (taken.trans ?_),
    fun failed => next_collPacketIn up whole type (taken.trans ?_)⟩
  · dsimp only
    rw [if_neg (by rw [ok]; decide), if_pos chained]
  · dsimp only
    rw [if_neg (by rw [ok]; decide), plain, if_neg (by decide)]
  · exact if_pos (by simpa using failed)

/-! #### Steps and chunks (R203, R204, R213) -/

theorem stepLanded (s : State) (d : Nat) (v : Desc) (c : Coll) (held : desc s d = some v) (slot : collOf s d = some c)
    (may : mayIssue s v = true) (runs : v.phase = .running) (waits : c.phase = .await)
    (op : opcode v.bits ≠ opBROADCAST) (written : c.writes = 0)
    (landed : stepLines s v.bits c.step ≤ c.landed.get c.step 0) :
    (isReduceStep v.bits c.step = true →
      exec (.collectiveStep d) s = .next (issueAll (setPhase d .reduce c.step s))) ∧
    (isReduceStep v.bits c.step = false → c.step + 1 < totalSteps v.bits →
      exec (.collectiveStep d) s = .next (issueAll (goOn d (setPhase d .send (c.step + 1) s)))) ∧
    (isReduceStep v.bits c.step = false → totalSteps v.bits ≤ c.step + 1 →
      exec (.collectiveStep d) s =
        .next (issueAll (finishColl d (modDesc d (fun v => { v with done := dLen v.bits }) s)))) := by
  have next : nextStep d s = if isReduceStep v.bits c.step then setPhase d .reduce c.step s
      else if c.step + 1 < totalSteps v.bits then goOn d (setPhase d .send (c.step + 1) s)
      else finishColl d (modDesc d (fun v => { v with done := dLen v.bits }) s) := by
    have done : modDesc d (fun w => { w with done := dLen v.bits }) s =
        modDesc d (fun v => { v with done := dLen v.bits }) s := by
      rw [modDesc_of_desc _ held, modDesc_of_desc _ held]
    unfold nextStep
    rw [held, slot]
    dsimp only
    rw [if_neg (by simp [may, runs, waits, op, written]), if_neg (by omega), done]
  refine ⟨fun reduces => ?_, fun moves more => ?_, fun moves last => ?_⟩
  · change Host.Outcome.next (issueAll (nextStep d s)) = _
    rw [next, if_pos reduces]
  · change Host.Outcome.next (issueAll (nextStep d s)) = _
    rw [next, moves, if_neg (by decide), if_pos more]
  · change Host.Outcome.next (issueAll (nextStep d s)) = _
    rw [next, moves, if_neg (by decide), if_neg (by omega)]

theorem chunkLanded (s : State) (d : Nat) (v : Desc) (c : Coll) (held : desc s d = some v) (slot : collOf s d = some c)
    (may : mayIssue s v = true) (runs : v.phase = .running) (sends : c.phase = .send)
    (op : opcode v.bits = opRESUME) (sized : chunkAt v c.chunk < chunkAt v (c.chunk + 1))
    (landed : chunkAt v (c.chunk + 1) - chunkAt v c.chunk ≤ c.chunks.get c.chunk 0) :
    exec (.resumeChunk d) s =
      .next (issueAll (goOn d (setColl d { c with phase := .reduce, busy := false, a := none } (windlass v.part
        (dStream v.bits) [((dLaddr v.bits + (parseProg v.chain).outBytes (c.chunk * chunkElems (parseProg v.chain))) %
          2 ^ 52, permLW)] s)))) := by
  change Host.Outcome.next (issueAll (beginChunk d s)) = _
  unfold beginChunk
  rw [held, slot]
  dsimp only
  rw [if_neg (by simp [may, runs, sends, op]; omega)]

/-! #### The expert table (R208) -/

theorem askExperts_eq {s : State} {i n : Nat} (loading : s.seq.loading = some (i, n)) :
    askExperts s = askWhole .experts (fld s Reg.GEN_EXP_BASE 3 45 * 8) (8 * n) s := by
  rw [askExperts, loading]

theorem expertsAsked (s : State) (v : Word) :
    let u := setReg Reg.GEN_EXP_CTL (BitVec.ofNat 64 (v.toNat % 2 ^ 21)) s
    coreUp s = true → v.getLsbD 31 = true → exchangeRuns s = false → s.seq.loading = none →
    0 < natField v.toNat 10 11 → natField v.toNat 0 10 + natField v.toNat 10 11 ≤ 1024 → exec (.expertTableLoad v) s =
      .next (issueAll (askWhole .experts (fld u Reg.GEN_EXP_BASE 3 45 * 8) (8 * natField v.toNat 10 11)
        { u with seq := { u.seq with loading := some (natField v.toNat 0 10, natField v.toNat 10 11) } })) := by
  intro u up load idle free some fits
  refine (next_onlyIf up).trans ?_
  have low : natField v.toNat 0 21 = v.toNat % 2 ^ 21 := by rw [natField, pow_zero, Nat.div_one]
  unfold expertLoad
  dsimp only
  rw [load, idle, free, if_neg (by simp; omega), if_pos rfl, low]
  rfl

theorem expertsRefused (s : State) (v : Word) (up : coreUp s = true) (load : v.getLsbD 31 = true)
    (bad : exchangeRuns s = true ∨ s.seq.loading ≠ none ∨ natField v.toNat 10 11 = 0 ∨
      1024 < natField v.toNat 0 10 + natField v.toNat 10 11) :
    exec (.expertTableLoad v) s = .next (raise Reg.GEN_EXP_STATUS 2 s) := by
  refine (next_onlyIf up).trans (congrArg _ (if_pos ?_))
  rw [load, Bool.true_and]
  rcases bad with h | h | h | h
  · simp [h]
  · simp [Option.isSome_iff_ne_none.mpr h]
  · simp [h]
  · simp [h]

theorem exec_expertTableLoadDone {s u : State} {w : Whole} {dropped : Bool} (b : Blob) (up : coreUp s = true)
    (back : wholeBack (fun w => w == .experts) s = (some (w, dropped), u)) :
    exec (.expertTableLoadDone b) s = .next (issueAll (if dropped then askExperts u else expertStore b u)) := by
  refine (next_wholeCommand up).trans ?_
  rw [back]
  cases dropped <;> rfl

/-- What becomes of the one entry of a load (R208). -/
theorem expertStore_one {u : State} {i : Nat} (loading : u.seq.loading = some (i, 1)) (b : Blob) :
    expertStore b u =
      let e := sliceNat b.data 0 8
      let bad := natField e 40 23 != 0 || b.bad
      let w : State := { u with seq := { u.seq with
        experts := u.seq.experts.set i (BitVec.ofNat 64 (if bad then e % 2 ^ 63 else e)) } }
      let x := if bad then raise Reg.GEN_EXP_STATUS 3 w else w
      raise Reg.GEN_EXP_STATUS 1 { x with seq := { x.seq with loading := none } } := by
  unfold expertStore
  rw [loading]
  rfl

theorem expertLoaded (s u : State) (w : Whole) (b : Blob) (i : Nat) : let e := sliceNat b.data 0 8
    coreUp s = true → wholeBack (fun w => w == .experts) s = (some (w, false), u) → u.seq.loading = some (i, 1) →
    (b.bad = false → natField e 40 23 = 0 → exec (.expertTableLoadDone b) s =
      .next (issueAll (raise Reg.GEN_EXP_STATUS 1 { u with seq := { u.seq with
        loading := none, experts := u.seq.experts.set i (BitVec.ofNat 64 e) } }))) ∧
    (b.bad = true ∨ natField e 40 23 ≠ 0 →
      let x := raise Reg.GEN_EXP_STATUS 3
        { u with seq := { u.seq with experts := u.seq.experts.set i (BitVec.ofNat 64 (e % 2 ^ 63)) } }
      exec (.expertTableLoadDone b) s =
        .next (issueAll (raise Reg.GEN_EXP_STATUS 1 { x with seq := { x.seq with loading := none } }))) := by
  intro e up back loading
  refine ⟨fun whole good => ?_, fun bad => ?_⟩
  · have fine : (natField (sliceNat b.data 0 8) 40 23 != 0 || b.bad) = false := by
      rw [whole, show natField (sliceNat b.data 0 8) 40 23 = 0 from good]; rfl
    rw [exec_expertTableLoadDone b up back, if_neg (by decide), expertStore_one loading]
    dsimp only
    rw [fine]
    rfl
  · have broken : (natField (sliceNat b.data 0 8) 40 23 != 0 || b.bad) = true := by
      rcases bad with h | h
      · rw [h, Bool.or_true]
      · rw [bne_iff_ne.mpr h, Bool.true_or]
    intro x
    rw [exec_expertTableLoadDone b up back, if_neg (by decide), expertStore_one loading]
    dsimp only
    rw [broken, if_pos rfl, if_pos rfl]

theorem expertsAskedAgain (s u : State) (w : Whole) (b : Blob) (i n : Nat) (up : coreUp s = true)
    (back : wholeBack (fun w => w == .experts) s = (some (w, true), u)) (loading : u.seq.loading = some (i, n)) :
    exec (.expertTableLoadDone b) s =
      .next (issueAll (askWhole .experts (fld u Reg.GEN_EXP_BASE 3 45 * 8) (8 * n) u)) := by
  rw [exec_expertTableLoadDone b up back, if_pos rfl, askExperts_eq loading]

/-- Settles O49. -/
theorem collectiveCommands : Obligations.CollectiveCommands :=
  ⟨strayPackets, memberPackets, packetsOfAnotherTag, sumpAbort, parkedAnswer, stepLanded, chunkLanded, expertsAsked,
    expertsRefused, expertLoaded, expertsAskedAgain⟩

end Sys2Proof.Proofs

/-! ### Router and fabric (R225 to R253) -/

namespace Sys2Proof.Proofs

open Sys2Proof Sys2Proof.Machine Sys2Proof.Laws

theorem next_routePacket {s t : State} {src : RouterIn} (up : coreUp s = true) (does : routeFrom src false s = t) :
    exec (.routePacket src) s = .next (settle t) := by
  refine (next_onlyIf up).trans ?_
  rw [does]

theorem next_escWaitExpiry {s t : State} {src : RouterIn} (up : coreUp s = true) (does : routeFrom src true s = t) :
    exec (.escWaitExpiry src) s = .next (settle t) := by
  refine (next_onlyIf up).trans ?_
  rw [does]

theorem decideNow_first (s : State) (p : Packet) (enter : Bool) : decideNow s p enter false = decide1 s p enter false :=
  rfl

theorem decideNow_forced {s : State} {p : Packet} {enter : Bool} (waits : decide1 s p enter false = .wait) :
    decideNow s p enter true = decide1 s p enter true := by
  rw [decideNow, waits]
  rfl

/-! #### Packets from a link -/

section
variable {s : State} {k : Nat} {vc : BitVec 3} {a : Arrived}
  (found : (link s k).inbuf.find? (fun a => a.packet.vc == vc && !isControl a.packet.ptype) = some a)
  (may : mayTake s k a = true)
include found may

/-- The first packet of a VC, taken off its link. -/
theorem routeLink_eq (forced : Bool) :
    routeLink k vc forced s =
      let p := a.packet
      let src := some (k, vc, s.router.copyNo + 1)
      if p.mcast then
        if ejectRoom s p && !forced then takeMulticast k p src (takeFromLink k a s) else s
      else if p.dst = ownId s then
        if ejectRoom s p && !forced then eject (some k) p (takeFromLink k a s) else s
      else if decideNow s p false forced = .wait then s
      else sendOn (decideNow s p false forced) p src (takeFromLink k a s) := by
  unfold routeLink
  rw [found]
  dsimp only
  rw [may, if_neg (by decide)]
  split
  · rfl
  · split
    · rfl
    · cases decideNow s a.packet false forced <;> rfl

theorem routeLink_multicast (mcast : a.packet.mcast = true) (room : ejectRoom s a.packet = true) :
    routeLink k vc false s =
      takeMulticast k a.packet (some (k, vc, s.router.copyNo + 1)) (takeFromLink k a s) := by
  rw [routeLink_eq found may]
  dsimp only
  rw [if_pos mcast, room, if_pos (by decide)]

theorem routeLink_here (single : a.packet.mcast = false) (here : a.packet.dst = ownId s)
    (room : ejectRoom s a.packet = true) :
    routeLink k vc false s = eject (some k) a.packet (takeFromLink k a s) := by
  rw [routeLink_eq found may]
  dsimp only
  rw [single, if_neg (by decide), if_pos here, room, if_pos (by decide)]

theorem routeLink_away (forced : Bool) (single : a.packet.mcast = false) (away : a.packet.dst ≠ ownId s)
    (moves : decideNow s a.packet false forced ≠ .wait) :
    routeLink k vc forced s = sendOn (decideNow s a.packet false forced) a.packet
      (some (k, vc, s.router.copyNo + 1)) (takeFromLink k a s) := by
  rw [routeLink_eq found may]
  dsimp only
  rw [single, if_neg (by decide), if_neg away, if_neg moves]

theorem routeLink_waits (single : a.packet.mcast = false) (away : a.packet.dst ≠ ownId s)
    (waits : decide1 s a.packet false false = .wait) : routeLink k vc false s = s := by
  rw [routeLink_eq found may]
  dsimp only
  rw [single, if_neg (by decide), if_neg away, decideNow_first, if_pos waits]

/-- A decision other than to wait is carried out. -/
theorem routeLink_decided {x : Decision} (single : a.packet.mcast = false) (away : a.packet.dst ≠ ownId s)
    (decided : decide1 s a.packet false false = x) (moves : x ≠ .wait) :
    routeLink k vc false s =
      sendOn x a.packet (some (k, vc, s.router.copyNo + 1)) (takeFromLink k a s) := by
  rw [routeLink_away found may false single away (by rw [decideNow_first, decided]; exact moves), decideNow_first,
    decided]

theorem routeLink_forced {x : Decision} (single : a.packet.mcast = false) (away : a.packet.dst ≠ ownId s)
    (waits : decide1 s a.packet false false = .wait) (decided : decide1 s a.packet false true = x) (moves : x ≠ .wait) :
    routeLink k vc true s =
      sendOn x a.packet (some (k, vc, s.router.copyNo + 1)) (takeFromLink k a s) := by
  rw [routeLink_away found may true single away (by rw [decideNow_forced waits, decided]; exact moves),
    decideNow_forced waits, decided]

end

theorem takeMulticast_eq (k : Nat) (p : Packet) (src : Option (Nat × BitVec 3 × Nat)) (s : State) :
    takeMulticast k p src s =
      if p.abt || localAdmits s p then makeCopies p src (eject (some k) p s) else eject (some k) p s := rfl

theorem linkPackets (s : State) (k : Fin 36) (vc : BitVec 3) (a : Arrived) (up : coreUp s = true)
    (found : (link s k.val).inbuf.find? (fun a => a.packet.vc == vc && !isControl a.packet.ptype) = some a)
    (may : mayTake s k.val a = true) :
    let p := a.packet
    let u := takeFromLink k.val a s
    let src := some (k.val, vc, s.router.copyNo + 1)
    (p.mcast = true → ejectRoom s p = true →
      (p.abt = true ∨ localAdmits u p = true →
        exec (.routePacket (.link k vc)) s = .next (settle (makeCopies p src (eject (some k.val) p u)))) ∧
      (p.abt = false → localAdmits u p = false →
        exec (.routePacket (.link k vc)) s = .next (settle (eject (some k.val) p u)))) ∧
    (p.mcast = false → p.dst = ownId s → ejectRoom s p = true →
      exec (.routePacket (.link k vc)) s = .next (settle (eject (some k.val) p u))) ∧
    (∀ out q, p.mcast = false → p.dst ≠ ownId s → decide1 s p false false = .go out q →
      exec (.routePacket (.link k vc)) s = .next (settle (enqueue out q u))) ∧
    (p.mcast = false → p.dst ≠ ownId s → decide1 s p false false = .noroute →
      exec (.routePacket (.link k vc)) s = .next (settle (dropNoRoute p u))) ∧
    (∀ port, p.mcast = false → p.dst ≠ ownId s → decide1 s p false false = .barred port →
      exec (.routePacket (.link k vc)) s = .next (settle (pkeyDrop 1 port p u))) ∧
    (∀ port, p.mcast = false → p.dst ≠ ownId s → decide1 s p false false = .flush port →
      exec (.routePacket (.link k vc)) s = .next (settle (flushAtRouter port p.dst p u))) ∧
    (∀ q, p.mcast = false → p.dst ≠ ownId s → decide1 s p false false = .hold q →
      exec (.routePacket (.link k vc)) s = .next (settle (putWaiting q none src u))) ∧
    (p.mcast = false → p.dst ≠ ownId s → decide1 s p false false = .restamp →
      exec (.routePacket (.link k vc)) s = .next (settle (restampPacket p src u))) ∧
    (p.mcast = false → p.dst ≠ ownId s → decide1 s p false false = .wait →
      exec (.routePacket (.link k vc)) s = .next (settle s)) ∧
    (∀ out q, p.mcast = false → p.dst ≠ ownId s → decide1 s p false false = .wait → decide1 s p false true = .go out q →
      exec (.escWaitExpiry (.link k vc)) s = .next (settle (enqueue out q u))) ∧
    (∀ q, p.mcast = false → p.dst ≠ ownId s → decide1 s p false false = .wait → decide1 s p false true = .hold q →
      exec (.escWaitExpiry (.link k vc)) s = .next (settle (putWaiting q none src u))) := by
  intro p u src
  refine ⟨fun mcast room => ⟨fun admitted => ?_, fun whole barred => ?_⟩, fun single here room => ?_,
    fun out q single away go => ?_, fun single away lost => ?_, fun port single away barred => ?_,
    fun port single away flush => ?_, fun q single away hold => ?_, fun single away restamp => ?_,
    fun single away waits => ?_, fun out q single away waits go => ?_, fun q single away waits hold => ?_⟩
  · refine next_routePacket up ((routeLink_multicast found may mcast room).trans ?_)
    exact (takeMulticast_eq _ _ _ _).trans (if_pos (by simpa using admitted))
  · refine next_routePacket up ((routeLink_multicast found may mcast room).trans ?_)
    exact (takeMulticast_eq _ _ _ _).trans (if_neg (by rw [show a.packet.abt = false from whole,
      show localAdmits (takeFromLink k.val a s) _ = _ from barred]; decide))
  · exact next_routePacket up (routeLink_here found may single here room)
  · exact next_routePacket up (routeLink_decided found may single away go (by simp))
  · exact next_routePacket up (routeLink_decided found may single away lost (by simp))
  · exact next_routePacket up (routeLink_decided found may single away barred (by simp))
  · exact next_routePacket up (routeLink_decided found may single away flush (by simp))
  · exact next_routePacket up (routeLink_decided found may single away hold (by simp))
  · exact next_routePacket up (routeLink_decided found may single away restamp (by simp))
  · exact next_routePacket up (routeLink_waits found may single away waits)
  · exact next_escWaitExpiry up (routeLink_forced found may single away waits go (by simp))
  · exact next_escWaitExpiry up (routeLink_forced found may single away waits hold (by simp))

/-! #### Packets of this node, and packets that wait -/

theorem routeInject_eq {s : State} {u : Nat} {p : Packet} {forced : Bool}
    (found : (s.router.inject.getD u []).find? (fun p => injectReady s p forced) = some p) :
    routeInject u forced s =
      let q : Packet := { p with epoch := epochInj s }
      let w := takeFromInject u p s
      if p.mcast then makeCopies q none w
      else if p.dst = ownId s then eject none q (countInj q w)
      else sendOn (decide1 w q true forced) q none (countInj q w) := by
  unfold routeInject
  rw [found]
  rfl

theorem injectedPackets (s : State) (u : Fin 3) (p : Packet) (up : coreUp s = true)
    (found : (s.router.inject.getD u.val []).find? (fun p => injectReady s p false) = some p) :
    let q : Packet := { p with epoch := epochInj s }
    let w := takeFromInject u.val p s
    (p.mcast = true → exec (.routePacket (.inject u)) s = .next (settle (makeCopies q none w))) ∧
    (p.mcast = false → p.dst = ownId s →
      exec (.routePacket (.inject u)) s = .next (settle (eject none q (countInj q w)))) ∧
    (∀ out r, p.mcast = false → p.dst ≠ ownId s → decide1 w q true false = .go out r →
      exec (.routePacket (.inject u)) s = .next (settle (enqueue out r (countInj q w)))) := by
  intro q w
  refine ⟨fun mcast => ?_, fun single here => ?_, fun out r single away go => ?_⟩
  · exact next_routePacket up ((routeInject_eq found).trans (if_pos mcast))
  · refine next_routePacket up ((routeInject_eq found).trans ?_)
    exact (if_neg (by rw [single]; decide)).trans (if_pos here)
  · refine next_routePacket up ((routeInject_eq found).trans ?_)
    refine ((if_neg (by rw [single]; decide)).trans (if_neg away)).trans ?_
    rw [show decide1 (takeFromInject u.val p s) _ true false = _ from go]
    rfl

theorem waitingPackets (s : State) (n : Nat) (w : Waiting) (up : coreUp s = true)
    (place : s.router.waiting[n]? = some w) :
    let u : State := { s with router := { s.router with waiting := s.router.waiting.eraseIdx n } }
    (∀ d out q, w.dim = some d → decideCopy s w.packet d = .go out q →
      exec (.routePacket (.waiting n)) s = .next (settle (enqueue out q u))) ∧
    (∀ out q, w.dim = none → decide1 s w.packet false false = .go out q →
      exec (.routePacket (.waiting n)) s = .next (settle (enqueue out q u))) := by
  intro u
  refine ⟨fun d out q copy go => next_routePacket up ?_, fun out q single go => next_routePacket up ?_⟩
  · change routeWaiting n false s = _
    unfold routeWaiting
    rw [place]
    dsimp only
    rw [copy]
    dsimp only
    rw [go]
    rfl
  · change routeWaiting n false s = _
    unfold routeWaiting
    rw [place]
    dsimp only
    rw [single]
    dsimp only
    rw [decideNow_first, go]
    rfl

/-! #### Writes of the fabric's registers -/

theorem routeTableWritten (s : State) (b : Bool) (d : Byte) (v : Word) (up : coreUp s = true) :
    (fabReady s = true → epochInj s = b → exec (.routeTableWrite b d v) s = .next (raise Reg.FAB_STATUS 0 s)) ∧
    (fabReady s = false ∨ epochInj s ≠ b → exec (.routeTableWrite b d v) s =
      .next (storeReg (if b then Reg.FAB_RT_B d.toNat else Reg.FAB_RT_A d.toNat) v.toNat s)) := by
  refine ⟨fun ready used => ?_, fun free => ?_⟩
  · exact (next_onlyIf up).trans (congrArg _ (if_pos (by simp [ready, used])))
  · refine (next_onlyIf up).trans (congrArg _ (if_neg ?_))
    rcases free with h | h <;> simp [h]

theorem epochWritten (s : State) (b : Bool) (up : coreUp s = true) :
    (epochInj s = b → exec (.epochInjWrite b) s = .next s ∧
      exec (.epochClear b) s = .next (raise Reg.FAB_STATUS 0 s)) ∧
    (epochInj s ≠ b → exec (.epochInjWrite b) s =
      .next (settleLinks (helloAll (setFld Reg.FAB_EPOCH_CTL 0 1 (if b then 1 else 0) s)))) := by
  refine ⟨fun same => ?_, fun other => ?_⟩
  · have used : (epochInj s == b) = true := by rw [same, beq_self_eq_true]
    exact ⟨(next_onlyIf up).trans (congrArg _ (if_pos used)), (next_onlyIf up).trans (congrArg _ (if_pos used))⟩
  · have free : ¬ (epochInj s == b) = true := by simpa using other
    exact (next_onlyIf up).trans (congrArg _ (if_neg free))

theorem epochCleared (s : State) (up : coreUp s = true) :
    (epochInj s = true → exec (.epochClear false) s =
      .next (setReg Reg.FAB_EPOCH_INJ_A 0 (setReg Reg.FAB_EPOCH_EJ_A 0 s))) ∧
    (epochInj s = false → exec (.epochClear true) s =
      .next (setReg Reg.FAB_EPOCH_INJ_B 0 (setReg Reg.FAB_EPOCH_EJ_B 0 s))) := by
  refine ⟨fun inj => ?_, fun inj => ?_⟩
  · refine (next_onlyIf up).trans ?_
    rw [epochClear, inj]
    rfl
  · refine (next_onlyIf up).trans ?_
    rw [epochClear, inj]
    rfl

theorem pkeyListWritten (s : State) (v : Word) (up : coreUp s = true) :
    (v.getLsbD 31 = false ∨ v.toNat % 65536 ≠ 0 → exec (.pkeyListWrite v) s =
      .next (setReg (pkeyEntry (fld s Reg.FAB_PKEY_SEL 0 4) (fld s Reg.FAB_PKEY_SEL 8 6))
        (BitVec.ofNat 64 (v.toNat % 65536 + (if v.getLsbD 31 then 2 ^ 31 else 0))) s)) ∧
    (v.getLsbD 31 = true → v.toNat % 65536 = 0 → exec (.pkeyListWrite v) s = .next (raise Reg.FAB_STATUS 0 s)) := by
  refine ⟨fun taken => ?_, fun valid zero => ?_⟩
  · rw [exec_pkeyListWrite v up]
    refine congrArg _ (if_neg ?_)
    rw [Bool.and_eq_true, decide_eq_true_eq]
    rintro ⟨valid, zero⟩
    rcases taken with h | h
    · rw [show v.toNat.testBit 31 = false from h] at valid; cases valid
    · exact h zero
  · rw [exec_pkeyListWrite v up, pkeyListWrite_zero valid zero]

theorem fabCtlWrite_eq (v : Nat) (s : State) :
    fabCtlWrite v s =
      let u := storeReg Reg.FAB_CTL v s
      if fabReady u == fabReady s then u
      else settle (helloAll (if fabReady s then each u.links.keys
        (fun k => requeueLink k (fun p => p.vc != 4 && p.vc != 6)) u else u)) := rfl

theorem fabCtlWritten (s : State) (v : Word) : let u := storeReg Reg.FAB_CTL v.toNat s
    coreUp s = true →
    (fabReady u = fabReady s → exec (.fabCtlWrite v) s = .next u) ∧
    (fabReady s = false → fabReady u = true → exec (.fabCtlWrite v) s = .next (settle (helloAll u))) ∧
    (fabReady s = true → fabReady u = false → exec (.fabCtlWrite v) s =
      .next (settle (helloAll (each u.links.keys
        (fun k => requeueLink k (fun p => p.vc != 4 && p.vc != 6)) u)))) := by
  intro u up
  refine ⟨fun same => ?_, fun was now => ?_, fun was now => ?_⟩
  · refine (next_onlyIf up).trans (congrArg _ (if_pos ?_))
    rw [show fabReady (storeReg _ _ s) = _ from same, beq_self_eq_true]
  · refine (next_onlyIf up).trans (congrArg _ ((fabCtlWrite_eq _ _).trans ?_))
    dsimp only
    rw [show fabReady (storeReg _ _ s) = _ from now, was, if_neg (by decide), if_neg (by decide)]
  · refine (next_onlyIf up).trans (congrArg _ ((fabCtlWrite_eq _ _).trans ?_))
    dsimp only
    rw [show fabReady (storeReg _ _ s) = _ from now, was, if_neg (by decide), if_pos rfl]

theorem nodeIdWritten (s : State) (v : Word) (up : coreUp s = true) :
    (fabEn s = true → exec (.nodeIdWrite false v) s = .next (raise Reg.FAB_STATUS 0 s) ∧
      exec (.nodeIdWrite true v) s = .next (raise Reg.FAB_STATUS 0 s)) ∧
    (v.toNat % 256 = 0 → exec (.nodeIdWrite true v) s = .next (raise Reg.FAB_STATUS 0 s)) ∧
    (fabEn s = false → exec (.nodeIdWrite false v) s =
      .next (settleLinks (helloAll (storeReg Reg.FAB_NODE_ID v.toNat s)))) ∧
    (fabEn s = false → v.toNat % 256 ≠ 0 → exec (.nodeIdWrite true v) s =
      .next (settleLinks (helloAll (storeReg Reg.FAB_DIM_EN v.toNat s)))) := by
  refine ⟨fun on => ⟨?_, ?_⟩, fun zero => ?_, fun off => ?_, fun off some => ?_⟩
  · exact (next_onlyIf up).trans (congrArg _ (if_pos (by rw [on]; rfl)))
  · exact (next_onlyIf up).trans (congrArg _ (if_pos (by rw [on]; rfl)))
  · exact (next_onlyIf up).trans (congrArg _ (if_pos (by rw [decide_eq_true zero]; simp)))
  · exact (next_onlyIf up).trans (congrArg _ (if_neg (by rw [off]; simp)))
  · exact (next_onlyIf up).trans (congrArg _ (if_neg (by rw [off, decide_eq_false some]; simp)))

/-! #### Neighbours and probes (R225 to R228, R236) -/

/-- A fabric control packet is taken from an ACTIVE link. -/
theorem next_onControl {s : State} {k : Nat} {ty : BitVec 6} {p : Packet} (f : State → State) (up : coreUp s = true)
    (tile : tileUp s k = true) (active : (link s k).state = .active) (type : p.ptype = ty) :
    (.next (onControl k ty p f s) : Res) = .next (settle
      (if p.abt then bump (Reg.LNK_ABORT_CNT k) (takeControl k p s) else f (takeControl k p s))) := by
  refine congrArg _ (if_pos ?_)
  simp [up, tile, active, type]

theorem sendHello_active {s : State} {k : Nat} (active : (link s k).state = .active) :
    sendHello k s = sendControl k tHELLO (helloPayload s k) s := if_pos active

theorem neighbourTimers (s : State) (k : Fin 36) (up : coreUp s = true) (tile : tileUp s k.val = true)
    (active : (link s k.val).state = .active) :
    exec (.helloTimer k) s = .next (settleLinks (sendControl k.val tHELLO (helloPayload s k.val) s)) ∧
    exec (.nbrLost k) s = .next (settle (setOutcome k.val 3 s)) := by
  refine ⟨?_, next_onlyIf (by rw [up, tile, active]; rfl)⟩
  refine (next_onlyIf (by rw [up, tile]; rfl)).trans ?_
  rw [sendHello_active active]

/-- What the answer to the probe that waits leaves behind (R228). -/
theorem takeProbeReply_eq {s : State} {k : Nat} {p : Packet} {c : Word} {x : Probe} (probe : s.router.probe = some x)
    (here : x.link = k) (number : BitVec.ofNat 16 (sliceNat p.payload 4 2) = x.number) :
    takeProbeReply k p c s =
      let rtt := (c - BitVec.ofNat 32 (sliceNat p.payload 0 4) - BitVec.ofNat 32 (sliceNat p.payload 6 2)).toNat
      let w := setReg Reg.FAB_PROBE_STATUS (BitVec.ofNat 64
          (rtt % 2 ^ 24 + 2 ^ 24 * k + 2 ^ 30 * fld s Reg.FAB_PROBE_STATUS 30 1 + 2 ^ 31))
        { s with router := { s.router with probe := none } }
      if x.keeper && keeperRuns s && 10 * coverNs (link s k) < 64 * rtt then postLink 0x0505 k rtt w else w := by
  have same : ¬ (x.link != k || BitVec.ofNat 16 (sliceNat p.payload 4 2) != x.number) = true := by
    rw [here, number]; simp
  unfold takeProbeReply
  rw [probe]
  dsimp only
  rw [if_neg same]
  rfl

theorem controlPackets (s : State) (k : Fin 36) (p : Packet) (up : coreUp s = true) (tile : tileUp s k.val = true)
    (active : (link s k.val).state = .active) :
    let u := takeControl k.val p s
    (p.abt = true →
      let t := settle (bump (Reg.LNK_ABORT_CNT k.val) u)
      (p.ptype = tHELLO → exec (.helloReceive k p) s = .next t) ∧
      (p.ptype = tDRAIN → exec (.drainReceive k p) s = .next t) ∧
      (∀ c, p.ptype = tPROBE → exec (.probeReceive k p c) s = .next t) ∧
      (∀ c, p.ptype = tPROBER → exec (.probeReplyReceive k p c) s = .next t)) ∧
    (p.abt = false → p.ptype = tHELLO → exec (.helloReceive k p) s = .next (settle (takeHello k.val p u))) ∧
    (∀ port, p.abt = false → p.ptype = tDRAIN → verified s k.val = true → portOfLink s k.val = some port →
      exec (.drainReceive k p) s = .next (settle { u with router := { u.router with
        drained := port :: u.router.drained.filter (fun q => q != port) } })) ∧
    (∀ c, p.abt = false → p.ptype = tPROBE → exec (.probeReceive k p c) s =
      .next (settle (sendControl k.val tPROBER (fit 6 p.payload ++ leBytes 2 c.toNat) u))) ∧
    (∀ c x, p.abt = false → p.ptype = tPROBER → s.router.probe = some x → x.link = k.val →
      BitVec.ofNat 16 (sliceNat p.payload 4 2) = x.number →
      let rtt := (c - BitVec.ofNat 32 (sliceNat p.payload 0 4) - BitVec.ofNat 32 (sliceNat p.payload 6 2)).toNat
      let w := setReg Reg.FAB_PROBE_STATUS (BitVec.ofNat 64
          (rtt % 2 ^ 24 + 2 ^ 24 * k.val + 2 ^ 30 * fld s Reg.FAB_PROBE_STATUS 30 1 + 2 ^ 31))
        { u with router := { u.router with probe := none } }
      (x.keeper = false → exec (.probeReplyReceive k p c) s = .next (settle w)) ∧
      (x.keeper = true → keeperRuns s = true →
        (10 * coverNs (link w k.val) < 64 * rtt →
          exec (.probeReplyReceive k p c) s = .next (settle (postLink 0x0505 k.val rtt w))) ∧
        (64 * rtt ≤ 10 * coverNs (link w k.val) → exec (.probeReplyReceive k p c) s = .next (settle w)))) := by
  intro u
  have taken (ty : BitVec 6) (f : State → State) (type : p.ptype = ty) :=
    next_onControl f up tile active type
  refine ⟨fun cut => ?_, fun whole type => ?_, fun port whole type known place => ?_, fun c whole type => ?_,
    fun c x whole type probe here number => ?_⟩
  · intro t
    have dropped (ty : BitVec 6) (f : State → State) (type : p.ptype = ty) :
        (.next (onControl k.val ty p f s) : Res) = .next t :=
      (taken ty f type).trans (congrArg (fun x => Host.Outcome.next (settle x)) (if_pos cut))
    exact ⟨dropped _ _, dropped _ _, fun _ => dropped _ _, fun _ => dropped _ _⟩
  · refine (taken tHELLO _ type).trans ?_
    rw [whole, if_neg (by decide)]
  · refine (taken tDRAIN _ type).trans ?_
    have known' : verified u k.val = true := known
    have place' : portOfLink u k.val = some port := place
    rw [whole, if_neg (by decide), show verified (takeControl k.val p s) k.val = true from known',
      if_neg (by decide), show portOfLink (takeControl k.val p s) k.val = some port from place']
  · refine (taken tPROBE _ type).trans ?_
    rw [whole, if_neg (by decide)]
  · intro rtt w
    have replied := taken tPROBER (takeProbeReply k.val p c) type
    rw [whole, if_neg (by decide), takeProbeReply_eq (s := takeControl k.val p s) probe here number] at replied
    refine ⟨fun software => replied.trans ?_, fun keeper runs => ⟨fun far => replied.trans ?_,
      fun near => replied.trans ?_⟩⟩
    · rw [software]
      rfl
    · refine congrArg (fun x => Host.Outcome.next (settle x)) (if_pos ?_)
      rw [keeper, show keeperRuns (takeControl k.val p s) = true from runs]
      exact decide_eq_true far
    · refine congrArg (fun x => Host.Outcome.next (settle x)) (if_neg ?_)
      rw [Bool.and_eq_true, decide_eq_true_eq]
      exact fun h => Nat.not_lt.mpr near h.2

theorem probeControl_bit (k : Fin 36) : (k.val + 2 ^ 31).testBit 31 = true ∧ natField (k.val + 2 ^ 31) 0 6 = k.val := by
  have small := k.isLt
  refine ⟨?_, ?_⟩
  · rw [Nat.add_comm, Nat.testBit_two_pow_add_eq, Nat.testBit_lt_two_pow (by omega)]
    rfl
  · rw [natField]
    omega

theorem probeCtlWrite_go (keeper : Bool) {v k : Nat} (s : State) (go : v.testBit 31 = true)
    (named : natField v 0 6 = k) :
    probeCtlWrite keeper v s =
      if (link s k).state != .active || !tileUp s k || probeWaits s then raise Reg.FAB_STATUS 0 s
      else sendProbe k keeper (storeReg Reg.FAB_PROBE_CTL v s) := by
  unfold probeCtlWrite
  dsimp only
  rw [named, go]
  rfl

theorem exec_probeGo {s : State} (k : Fin 36) (up : coreUp s = true) :
    exec (.probeGo (BitVec.ofNat 6 k.val)) s = .next (probeCtlWrite false (k.val + 2 ^ 31) s) := by
  have small : (BitVec.ofNat 6 k.val).toNat = k.val := Nat.mod_eq_of_lt (by omega)
  refine (next_onlyIf up).trans ?_
  rw [small]

theorem probesSent (s : State) (k : Fin 36) (v : Nat) (word : v = k.val + 2 ^ 31) :
    let u := storeReg Reg.FAB_PROBE_CTL v s
    coreUp s = true →
    ((link s k.val).state ≠ .active ∨ tileUp s k.val = false ∨ probeWaits s = true →
      exec (.probeGo (BitVec.ofNat 6 k.val)) s = .next (raise Reg.FAB_STATUS 0 s)) ∧
    ((link s k.val).state = .active → tileUp s k.val = true → probeWaits s = false →
      let n := (link u k.val).probeNo + 1
      let go (keeper : Bool) := settleLinks (sendControl k.val tPROBE
        (leBytes 4 (BitVec.ofNat 32 (u.now * 25 / 16)).toNat
          ++ leBytes 2 n.toNat ++ [0, 0])
        { (modLink k.val (fun l => { l with probeNo := n }) u) with
          router := { u.router with probe := some ⟨k.val, n, keeper, true⟩ } })
      exec (.probeGo (BitVec.ofNat 6 k.val)) s = .next (go false) ∧
      (keeperRuns s = true → verified s k.val = true → exec (.keeperProbe k) s = .next (go true))) := by
  intro u up
  have software : exec (.probeGo (BitVec.ofNat 6 k.val)) s = .next (probeCtlWrite false v s) :=
    word ▸ exec_probeGo k up
  have keeper (runs : keeperRuns s = true) (known : verified s k.val = true) :
      exec (.keeperProbe k) s = .next (probeCtlWrite true v s) :=
    word ▸ next_onlyIf (by rw [up, runs, known]; rfl)
  obtain ⟨go, named⟩ : v.testBit 31 = true ∧ natField v 0 6 = k.val := word ▸ probeControl_bit k
  refine ⟨fun barred => ?_, fun active tile free => ?_⟩
  · rw [software, probeCtlWrite_go false s go named]
    refine congrArg _ (if_pos ?_)
    rcases barred with h | h | h <;> simp [h]
  · have sent (keeper : Bool) : probeCtlWrite keeper v s = sendProbe k.val keeper u := by
      rw [probeCtlWrite_go keeper s go named, if_neg (by simp [active, tile, free])]
    exact ⟨software.trans (congrArg _ (sent false)), fun runs known =>
      (keeper runs known).trans (congrArg _ (sent true))⟩

theorem probeTimedOut (s : State) (x : Probe) (up : coreUp s = true) (probe : s.router.probe = some x) :
    (x.waiting = true → exec .probeTimeout s =
      .next (raise Reg.FAB_PROBE_STATUS 30
        { s with router := { s.router with probe := some { x with waiting := false } } })) ∧
    (x.waiting = false → exec .probeTimeout s = .next s) := by
  have runs : exec .probeTimeout s = .next (onlyIf (coreUp s && x.waiting) (fun s =>
      raise Reg.FAB_PROBE_STATUS 30
        { s with router := { s.router with probe := some { x with waiting := false } } }) s) := by
    change execProbeTimeout s = _
    rw [execProbeTimeout, probe]
  refine ⟨fun waiting => runs.trans (next_onlyIf (by rw [up, waiting]; rfl)),
    fun late => runs.trans (next_onlyIf_not (by rw [late, Bool.and_false]))⟩

/-- Settles O51. -/
theorem fabricCommands : Obligations.FabricCommands :=
  ⟨linkPackets, injectedPackets, waitingPackets,
    fun s p vc up waits => next_onlyIf (by rw [up, waits]; rfl), fun s i v up => next_onlyIf up, routeTableWritten,
    epochWritten, epochCleared, pkeyListWritten, fabCtlWritten, nodeIdWritten, neighbourTimers, controlPackets,
    fun s k => probesSent s k _ rfl, probeTimedOut⟩

end Sys2Proof.Proofs

/-! ### Flits that arrive (R262 to R277) -/

namespace Sys2Proof.Proofs

open Sys2Proof Sys2Proof.Machine Sys2Proof.Laws

/-! #### What a flit counts, and who takes it -/

theorem link_modLink_same (k : Nat) (f : Link → Link) (s : State) : link (modLink k f s) k = f (link s k) :=
  link_setLink_same _ _ _

theorem state_noteUncorr (k : Nat) (s : State) : (link (noteUncorr k s) k).state = (link s k).state := by
  unfold noteUncorr
  dsimp only
  rw [link_modLink_same]

theorem state_countCodeword (k : Nat) (c : Codeword) (s : State) :
    (link (countCodeword k c s) k).state = (link s k).state := by
  unfold countCodeword
  dsimp only
  split
  · rw [state_noteUncorr]
    split <;> rfl
  · split
    · split <;> rfl
    · split <;> rfl

/-- Counting a flit's codewords leaves the state of its link. -/
theorem state_counted (k : Nat) (cws : List Codeword) (s : State) :
    (link (each cws (countCodeword k) s) k).state = (link s k).state :=
  each_keeps (g := fun s => (link s k).state) (state_countCodeword k) cws s

section
variable {ts : List Nat} {k : Nat} {f : RxFlit} {s : State}

theorem takeFlit_deaf (deaf : coreUp s = false ∨ tileUp s k = false ∨ (link s k).rxSleep = true) :
    takeFlit ts k f s = s := by
  refine if_pos ?_
  rcases deaf with h | h | h <;> simp [h]

variable (up : coreUp s = true) (tile : tileUp s k = true) (awake : (link s k).rxSleep = false)
include up tile awake

/-- A flit in which an error is found, whatever it is (R265). -/
theorem takeFlit_error (active : (link s k).state = .active) (error : flitError (link s k) f = true) :
    takeFlit ts k f s = settle (flitFailed k (each f.cws (countCodeword k) s)) := by
  unfold takeFlit
  dsimp only
  rw [if_neg (by simp [up, tile, awake, active]), if_neg (by simp [error]), if_pos error, if_pos active]

variable (good : flitError (link s k) f = false) (type : ts.contains f.ftype = true)
include good type

theorem takeFlit_active (active : (link s k).state = .active) :
    takeFlit ts k f s = settle (takeActive k f (each f.cws (countCodeword k) s)) := by
  unfold takeFlit
  dsimp only
  rw [if_neg (by simp [up, tile, awake, active]), if_neg (by rw [type]; simp), good, if_neg (by decide), if_pos active]

/-- A flit in a handshake (R276). -/
theorem takeFlit_shaking (shakes : shaking (link s k) = true) (idle : (link s k).state ≠ .active) :
    takeFlit ts k f s =
      let u := each f.cws (countCodeword k) s
      if f.ftype = ftINIT then settle (takeInit k f u)
      else if f.ftype = ftDATA || f.ftype = ftIDLE then
        let t := tryActive k (modLink k (fun l => { l with initSeen := true }) u)
        settle (if (link t k).state = .active then takeActive k f t else t)
      else u := by
  unfold takeFlit
  dsimp only
  rw [if_neg (by simp [up, tile, awake, shakes]), if_neg (by rw [type]; simp), good, if_neg (by decide), if_neg idle]

end

/-- A flit error in ACTIVE: a REPLAY_REQ leaves where the transmitter is awake, and the wait for a replay begins. -/
theorem flitFailed_eq (k : Nat) (u : State) :
    flitFailed k u =
      let a := modLink k (fun l => { l with awaiting := true }) u
      if (link u k).awaiting = true then
        (if txReady u k = true then sendUnseq k ftREPLAY false [] u else u)
      else if txReady a k = true then sendUnseq k ftREPLAY false [] a else a := by
  unfold flitFailed awaitReplay
  by_cases waits : (link u k).awaiting = true
  · by_cases ready : txReady u k = true
    · simp only [waits, ready]; rfl
    · rw [Bool.not_eq_true] at ready
      simp only [waits, ready]; rfl
  · rw [Bool.not_eq_true] at waits
    simp only [waits]; rfl

/-! #### Flits of a link in ACTIVE -/

theorem takeActive_beyond {k : Nat} {f : RxFlit} {u w : State} (acked : takeAck k f.ack u = (true, w)) :
    takeActive k f u = startRetrain k true w := by
  unfold takeActive
  rw [acked]
  rfl

section
variable {k : Nat} {f : RxFlit} {u w : State} (acked : takeAck k f.ack u = (false, w))
include acked

theorem takeActive_data (type : f.ftype = ftDATA) : takeActive k f u = takeData k f w := by
  unfold takeActive
  rw [acked]
  dsimp only
  rw [if_neg (by decide), if_pos type]

theorem takeActive_audit (type : f.ftype = ftAUDIT) : takeActive k f u = takeAudit k f w := by
  unfold takeActive
  rw [acked]
  dsimp only
  rw [if_neg (by decide), type, if_neg (by decide), if_pos rfl]

theorem takeActive_ctrl (type : f.ftype = ftCTRL) : takeActive k f u = takeCtrl k f w := by
  unfold takeActive
  rw [acked]
  dsimp only
  rw [if_neg (by decide), type, if_neg (by decide), if_neg (by decide), if_pos rfl]

theorem takeActive_replay (type : f.ftype = ftREPLAY) :
    takeActive k f u = replayAsked k f.ack (takeSlp k f (checkSeq k f w)) := by
  unfold takeActive
  rw [acked]
  dsimp only
  rw [if_neg (by decide), type, if_neg (by decide), if_neg (by decide), if_neg (by decide), if_pos rfl]

/-- An IDLE or an INIT flit acts by its sequence number and its SLP alone. -/
theorem takeActive_other (type : f.ftype = ftIDLE ∨ f.ftype = ftINIT) :
    takeActive k f u = takeSlp k f (checkSeq k f w) := by
  unfold takeActive
  rw [acked]
  dsimp only
  rcases type with type | type <;>
    rw [if_neg (by decide), type, if_neg (by decide), if_neg (by decide), if_neg (by decide), if_neg (by decide)]

end

theorem takeSlp_awake {k : Nat} {f : RxFlit} {s : State} (slp : f.slp = false) : takeSlp k f s = s := by
  rw [takeSlp, slp]; rfl

theorem takeSlp_sleeps {k : Nat} {f : RxFlit} {s : State} (slp : f.slp = true) :
    takeSlp k f s = modLink k (fun l => { l with rxSleep := true }) s := if_pos slp

theorem checkSeq_in {k : Nat} {f : RxFlit} {s : State} (seq : f.seq = (link s k).rxSeq) : checkSeq k f s = s :=
  if_pos seq

theorem checkSeq_out {k : Nat} {f : RxFlit} {s : State} (seq : f.seq ≠ (link s k).rxSeq) :
    checkSeq k f s = awaitReplay k s := if_neg seq

theorem takeData_in {k : Nat} {f : RxFlit} {w : State} (seq : f.seq = (link w k).rxSeq) (slp : f.slp = false) :
    takeData k f w = modLink k (fun l => { l with
      rxSeq := l.rxSeq + 1, accepted := l.accepted + 1, awaiting := false
      landing := l.landing ++ [(f.abt, fit 248 f.payload)] }) w :=
  (if_pos seq).trans (takeSlp_awake slp)

theorem takeData_out {k : Nat} {f : RxFlit} {w : State} (seq : f.seq ≠ (link w k).rxSeq) :
    takeData k f w = awaitReplay k w := if_neg seq

/-- The counts of an AUDIT flit agree with the receiver's (R272). -/
def auditAgrees (k : Nat) (f : RxFlit) (w : State) : Bool :=
  sliceNat f.payload 0 4 == (link w k).accepted.toNat
    && ((link w k).accepted - (link w k).relOut).toNat == (link w k).landing.length

theorem auditAgrees_iff (k : Nat) (f : RxFlit) (w : State) : auditAgrees k f w = true ↔
    sliceNat f.payload 0 4 = (link w k).accepted.toNat ∧
      ((link w k).accepted - (link w k).relOut).toNat = (link w k).landing.length := by
  rw [auditAgrees, Bool.and_eq_true, beq_iff_eq, beq_iff_eq]

/-- An AUDIT flit has been taken, with the outcome that `LNK_AUDIT` shows. -/
def audited (k : Nat) (n : Byte) (w : State) : State :=
  modLink k (fun l => { l with rxSeq := l.rxSeq + 1, awaiting := false, aud := n }) w

theorem takeAudit_agrees {k : Nat} {f : RxFlit} {w : State} (seq : f.seq = (link w k).rxSeq) (slp : f.slp = false)
    (agrees : auditAgrees k f w = true) : takeAudit k f w = audited k 1 w := by
  refine (if_pos seq).trans ((if_pos agrees).trans ((takeSlp_awake slp).trans ?_))
  rw [show (_ && _ : Bool) = true from agrees]
  rfl

theorem takeAudit_differs {k : Nat} {f : RxFlit} {w : State} (seq : f.seq = (link w k).rxSeq) (slp : f.slp = false)
    (differs : ¬ auditAgrees k f w = true) :
    takeAudit k f w =
      startRetrain k true (postLink 0x0603 k 0 (bump (Reg.LNK_AUDIT_ERR_CNT k) (audited k 2 w))) := by
  have unequal := Bool.eq_false_iff.mpr differs
  refine (if_pos seq).trans ((if_neg differs).trans ?_)
  rw [takeSlp_awake slp, show (_ && _ : Bool) = false from unequal]
  rfl

/-- A REPLAY_REQ that the replay being sent meets (R266, R289). -/
theorem replayAsked_met {k : Nat} {a : BitVec 12} {w : State} {r : Replay} (rpl : (link w k).rpl = some r)
    (running : w.now < r.until_) (meets : r.first = a + 1 ∨ (r.byTmo = true ∧ r.since = w.now)) :
    replayAsked k a w = w := by
  unfold replayAsked
  rw [rpl]
  exact if_pos (by simpa [running] using meets)

theorem replayAsked_unmet {k : Nat} {a : BitVec 12} {w : State}
    (unmet : ∀ r, (link w k).rpl = some r →
      r.until_ ≤ w.now ∨ (r.first ≠ a + 1 ∧ (r.byTmo = false ∨ r.since ≠ w.now))) :
    replayAsked k a w = startReplay k false w := by
  unfold replayAsked
  split
  · rename_i r rpl
    refine if_neg ?_
    rw [Bool.and_eq_true, decide_eq_true_eq, Bool.or_eq_true, beq_iff_eq, Bool.and_eq_true, beq_iff_eq]
    rintro ⟨running, meets⟩
    rcases unmet r rpl with past | ⟨other, fresh⟩
    · omega
    · obtain ⟨tmo, since⟩ := meets.resolve_left other
      rcases fresh with h | h
      · rw [tmo] at h; cases h
      · exact h since
  · rfl

/-! #### INIT flits (R274 to R277) -/

/-- An INIT flit that matches has been read. -/
def initRead (k : Nat) (f : RxFlit) (u : State) : State :=
  modLink k (fun l => { l with
    rxOk := true, initWord := some f.payload, initSeen := l.initSeen || (f.payload.getD 1 0).getLsbD 5 }) u

theorem takeInit_matches {k : Nat} {f : RxFlit} {u : State} (same : initMatches (link u k) f.payload = true) :
    takeInit k f u =
      if (link u k).state = .retrain && !startsFresh (link (initRead k f u) k) then
        (if (takeAck k f.ack (initRead k f u)).1
            || serialAfter 12 (sliceNat f.payload 6 2 % 4096) (link u k).txSeq.toNat then
          startRetrain k true (takeAck k f.ack (initRead k f u)).2
        else tryActive k (takeAck k f.ack (initRead k f u)).2)
      else tryActive k (initRead k f u) := by
  unfold takeInit
  dsimp only
  rw [if_pos same]
  rfl

theorem takeInit_differs {k : Nat} {f : RxFlit} {u : State} (other : initMatches (link u k) f.payload = false)
    (init : (link u k).state = .init) :
    takeInit k f u = stopLink k .down (postLink 0x0605 k 0 (raise (Reg.LNK_STATUS k) 8 u)) := by
  unfold takeInit
  dsimp only
  rw [other, if_neg (by decide), if_pos init]

/-! #### The commands -/

section
variable {s : State} {k : Fin 36} {f : RxFlit} (up : coreUp s = true) (tile : tileUp s k.val = true)
  (awake : (link s k.val).rxSleep = false)
include up tile awake

theorem flitsInError (active : (link s k.val).state = .active) (error : flitError (link s k.val) f = true) :
    let u := each f.cws (countCodeword k.val) s
    let a := modLink k.val (fun l => { l with awaiting := true }) u
    let t := settle (if (link u k.val).awaiting = true then
        (if txReady u k.val = true then sendUnseq k.val ftREPLAY false [] u else u)
      else if txReady a k.val = true then sendUnseq k.val ftREPLAY false [] a else a)
    exec (.flitReceive k f) s = .next t ∧ exec (.ctrlFlitReceive k f) s = .next t ∧
    exec (.replayReqReceive k f) s = .next t ∧ exec (.auditReceive k f) s = .next t ∧
    exec (.initFlitReceive k f) s = .next t := by
  intro u a t
  have failed (ts : List Nat) : (.next (takeFlit ts k.val f s) : Res) = .next t := by
    rw [takeFlit_error up tile awake active error, flitFailed_eq]
  exact ⟨failed _, failed _, failed _, failed _, failed _⟩

variable (good : flitError (link s k.val) f = false)
include good

theorem next_takeFlit {ts : List Nat} {t : State} (active : (link s k.val).state = .active)
    (type : ts.contains f.ftype = true) (does : takeActive k.val f (each f.cws (countCodeword k.val) s) = t) :
    (.next (takeFlit ts k.val f s) : Res) = .next (settle t) := by
  rw [takeFlit_active up tile awake good type active, does]

theorem flitsInOrder (active : (link s k.val).state = .active) (w : State)
    (acked : takeAck k.val f.ack (each f.cws (countCodeword k.val) s) = (false, w)) :
    (f.ftype = ftDATA → f.seq = (link w k.val).rxSeq → f.slp = false → exec (.flitReceive k f) s =
      .next (settle (modLink k.val (fun l => { l with
        rxSeq := l.rxSeq + 1, accepted := l.accepted + 1, awaiting := false
        landing := l.landing ++ [(f.abt, fit 248 f.payload)] }) w))) ∧
    (f.ftype = ftDATA → f.seq ≠ (link w k.val).rxSeq →
      exec (.flitReceive k f) s = .next (settle (awaitReplay k.val w))) ∧
    (f.ftype = ftIDLE → f.seq = (link w k.val).rxSeq → f.slp = false →
      exec (.flitReceive k f) s = .next (settle w)) ∧
    (f.ftype = ftIDLE → f.seq = (link w k.val).rxSeq → f.slp = true → exec (.flitReceive k f) s =
      .next (settle (modLink k.val (fun l => { l with rxSleep := true }) w))) ∧
    (f.ftype = ftINIT → f.seq = (link w k.val).rxSeq → f.slp = false →
      exec (.initFlitReceive k f) s = .next (settle w)) ∧
    (f.ftype = ftINIT → f.seq ≠ (link w k.val).rxSeq → f.slp = false →
      exec (.initFlitReceive k f) s = .next (settle (awaitReplay k.val w))) ∧
    (f.ftype = ftCTRL → exec (.ctrlFlitReceive k f) s = .next (settle (takeCtrl k.val f w))) ∧
    (f.ftype = ftREPLAY → f.seq = (link w k.val).rxSeq → f.slp = false →
      (∀ r, (link w k.val).rpl = some r → w.now < r.until_ →
        r.first = f.ack + 1 ∨ (r.byTmo = true ∧ r.since = w.now) →
        exec (.replayReqReceive k f) s = .next (settle w)) ∧
      ((∀ r, (link w k.val).rpl = some r →
          r.until_ ≤ w.now ∨ (r.first ≠ f.ack + 1 ∧ (r.byTmo = false ∨ r.since ≠ w.now))) →
        exec (.replayReqReceive k f) s = .next (settle (startReplay k.val false w)))) ∧
    (f.ftype = ftAUDIT → f.slp = false → f.seq = (link w k.val).rxSeq →
      let good (n : Byte) := modLink k.val (fun l => { l with rxSeq := l.rxSeq + 1, awaiting := false, aud := n }) w
      (sliceNat f.payload 0 4 = (link w k.val).accepted.toNat →
        ((link w k.val).accepted - (link w k.val).relOut).toNat = (link w k.val).landing.length →
        exec (.auditReceive k f) s = .next (settle (good 1))) ∧
      (sliceNat f.payload 0 4 ≠ (link w k.val).accepted.toNat ∨
        ((link w k.val).accepted - (link w k.val).relOut).toNat ≠ (link w k.val).landing.length →
        exec (.auditReceive k f) s = .next (settle (startRetrain k.val true (postLink 0x0603 k.val 0
          (bump (Reg.LNK_AUDIT_ERR_CNT k.val) (good 2))))))) := by
  have taken {ts : List Nat} {t : State} (type : ts.contains f.ftype = true) :=
    next_takeFlit (ts := ts) (t := t) up tile awake good active type
  refine ⟨fun type seq slp => ?_, fun type seq => ?_, fun type seq slp => ?_, fun type seq slp => ?_,
    fun type seq slp => ?_, fun type seq slp => ?_, fun type => ?_, fun type seq slp => ?_, fun type slp seq => ?_⟩
  · exact taken (by rw [type]; decide) ((takeActive_data acked type).trans (takeData_in seq slp))
  · exact taken (by rw [type]; decide) ((takeActive_data acked type).trans (takeData_out seq))
  · refine taken (by rw [type]; decide) ((takeActive_other acked (.inl type)).trans ?_)
    rw [takeSlp_awake slp, checkSeq_in seq]
  · refine taken (by rw [type]; decide) ((takeActive_other acked (.inl type)).trans ?_)
    rw [takeSlp_sleeps slp, checkSeq_in seq]
  · refine taken (by rw [type]; decide) ((takeActive_other acked (.inr type)).trans ?_)
    rw [takeSlp_awake slp, checkSeq_in seq]
  · refine taken (by rw [type]; decide) ((takeActive_other acked (.inr type)).trans ?_)
    rw [takeSlp_awake slp, checkSeq_out seq]
  · exact taken (by rw [type]; decide) (takeActive_ctrl acked type)
  · have asked := takeActive_replay acked type
    rw [takeSlp_awake slp, checkSeq_in seq] at asked
    exact ⟨fun r rpl running meets => taken (by rw [type]; decide) (asked.trans (replayAsked_met rpl running meets)),
      fun unmet => taken (by rw [type]; decide) (asked.trans (replayAsked_unmet unmet))⟩
  · have audit := takeActive_audit acked type
    refine ⟨fun count room => taken (by rw [type]; decide) (audit.trans (takeAudit_agrees seq slp ?_)),
      fun differs => taken (by rw [type]; decide) (audit.trans (takeAudit_differs seq slp ?_))⟩
    · exact (auditAgrees_iff _ _ _).mpr ⟨count, room⟩
    · rw [auditAgrees_iff]
      rintro ⟨count, room⟩
      exact differs.elim (· count) (· room)

theorem flitsBeyond (active : (link s k.val).state = .active) (w : State)
    (acked : takeAck k.val f.ack (each f.cws (countCodeword k.val) s) = (true, w)) :
    let t := settle (startRetrain k.val true w)
    (f.ftype = ftDATA ∨ f.ftype = ftIDLE → exec (.flitReceive k f) s = .next t) ∧
    (f.ftype = ftCTRL → exec (.ctrlFlitReceive k f) s = .next t) ∧
    (f.ftype = ftREPLAY → exec (.replayReqReceive k f) s = .next t) ∧
    (f.ftype = ftAUDIT → exec (.auditReceive k f) s = .next t) ∧
    (f.ftype = ftINIT → exec (.initFlitReceive k f) s = .next t) := by
  have taken {ts : List Nat} (type : ts.contains f.ftype = true) :=
    next_takeFlit (ts := ts) up tile awake good active type (takeActive_beyond acked)
  refine ⟨fun type => taken ?_, fun type => taken ?_, fun type => taken ?_, fun type => taken ?_,
    fun type => taken ?_⟩
  · rcases type with h | h <;> rw [h] <;> decide
  · rw [type]; decide
  · rw [type]; decide
  · rw [type]; decide
  · rw [type]; decide

theorem initBeyond (v : State)
    (read : v = modLink k.val (fun l => { l with
      rxOk := true, initWord := some f.payload, initSeen := l.initSeen || (f.payload.getD 1 0).getLsbD 5 })
      (each f.cws (countCodeword k.val) s))
    (retrain : (link s k.val).state = .retrain)
    (still : (link (each f.cws (countCodeword k.val) s) k.val).state = .retrain) (step : 4 ≤ (link s k.val).rtStep)
    (type : f.ftype = ftINIT) (same : initMatches (link (each f.cws (countCodeword k.val) s) k.val) f.payload = true)
    (resumes : startsFresh (link v k.val) = false) (beyond : (takeAck k.val f.ack v).1 = true) :
    exec (.initFlitReceive k f) s = .next (settle (startRetrain k.val true (takeAck k.val f.ack v).2)) := by
  have shakes : shaking (link s k.val) = true := by simp [shaking, retrain, step]
  have taken := takeFlit_shaking (ts := [ftINIT]) up tile awake good (by rw [type]; decide) shakes
    (by rw [retrain]; decide)
  have read' : initRead k.val f (each f.cws (countCodeword k.val) s) = v := read.symm
  refine congrArg Host.Outcome.next (taken.trans ?_)
  dsimp only
  rw [if_pos type, takeInit_matches same, read', if_pos (by rw [still, resumes]; rfl),
    if_pos (by rw [beyond, Bool.true_or])]

theorem handshakeFlits (init : (link s k.val).state = .init) :
    let u := each f.cws (countCodeword k.val) s
    (f.ftype = ftINIT → initMatches (link u k.val) f.payload = true → exec (.initFlitReceive k f) s =
      .next (settle (tryActive k.val (modLink k.val (fun l => { l with
        rxOk := true, initWord := some f.payload
        initSeen := l.initSeen || (f.payload.getD 1 0).getLsbD 5 }) u)))) ∧
    (f.ftype = ftINIT → initMatches (link u k.val) f.payload = false → (link u k.val).state = .init →
      exec (.initFlitReceive k f) s =
        .next (settle (stopLink k.val .down (postLink 0x0605 k.val 0 (raise (Reg.LNK_STATUS k.val) 8 u))))) ∧
    (f.ftype = ftDATA ∨ f.ftype = ftIDLE →
      let t := tryActive k.val (modLink k.val (fun l => { l with initSeen := true }) u)
      (link t k.val).state ≠ .active → exec (.flitReceive k f) s = .next (settle t)) := by
  intro u
  have shakes : shaking (link s k.val) = true := by simp [shaking, init]
  have idle : (link s k.val).state ≠ .active := by rw [init]; decide
  have still : (link u k.val).state = .init := (state_counted _ _ _).trans init
  have taken {ts : List Nat} (type : ts.contains f.ftype = true) :=
    takeFlit_shaking (ts := ts) up tile awake good type shakes idle
  refine ⟨fun type same => ?_, fun type other _ => ?_, fun type => ?_⟩
  · refine congrArg Host.Outcome.next ((taken (by rw [type]; decide)).trans ?_)
    have handshake : ¬ (decide ((link u k.val).state = .retrain) && !startsFresh (link (initRead k.val f u) k.val)) =
    true := by
      rw [still]; simp
    dsimp only
    rw [if_pos type, takeInit_matches same, if_neg handshake]
    rfl
  · refine congrArg Host.Outcome.next ((taken (by rw [type]; decide)).trans ?_)
    dsimp only
    rw [if_pos type, takeInit_differs other still]
  · intro t waits
    have listed : [ftDATA, ftIDLE].contains f.ftype = true := by rcases type with h | h <;> rw [h] <;> decide
    have other : f.ftype ≠ ftINIT := by rcases type with h | h <;> rw [h] <;> decide
    refine congrArg Host.Outcome.next ((taken listed).trans ?_)
    dsimp only
    rw [if_neg other, if_pos (by simpa using type)]
    exact congrArg settle (if_neg waits)

end

/-- Settles O52. -/
theorem flitsArrive : Obligations.FlitsArrive := by
  refine ⟨fun s k f deaf => ?_, fun s k f up tile awake => ⟨flitsInError up tile awake,
    fun w active good acked => flitsInOrder up tile awake good active w acked,
    fun w active good acked => flitsBeyond up tile awake good active w acked,
    fun v read retrain still step good type same resumes beyond =>
      initBeyond up tile awake good v read retrain still step type same resumes beyond,
    fun init good => handshakeFlits up tile awake good init⟩⟩
  have same (ts : List Nat) : (.next (takeFlit ts k.val f s) : Res) = .next s := by rw [takeFlit_deaf deaf]
  exact ⟨same _, same _, same _, same _, same _⟩

end Sys2Proof.Proofs

/-! ### Links: timers, retrains, resets, modes and sleep -/

namespace Sys2Proof.Proofs

open Sys2Proof Sys2Proof.Machine Sys2Proof.Laws

/-! #### Where a command of a link acts -/

section
variable {k : Nat} {c : Bool} {f : State → State} {s : State}

theorem next_onLink (up : coreUp s = true) (tile : tileUp s k = true) (acts : c = true) :
    (.next (onLink k c f s) : Res) = .next (f s) :=
  congrArg _ (if_pos (by rw [up, tile, acts]; rfl))

theorem next_onLink_not (idle : c = false) : (.next (onLink k c f s) : Res) = .next s :=
  congrArg _ (if_neg (by rw [idle, Bool.and_false]; decide))

theorem next_onTile (up : coreUp s = true) (tile : tileUp s k = true) :
    (.next (onTile k f s) : Res) = .next (f s) :=
  congrArg _ ((if_neg (by rw [up]; decide)).trans (if_pos tile))

/-- A write to a tile in reset is noted (R357). -/
theorem next_onTile_reset (up : coreUp s = true) (reset : tileUp s k = false) :
    (.next (onTile k f s) : Res) = .next (raise Reg.RST_STATUS 2 s) :=
  congrArg _ ((if_neg (by rw [up]; decide)).trans (if_neg (by rw [reset]; decide)))

end

@[simp] theorem links_storeReg (a v : Nat) (s : State) : (storeReg a v s).links = s.links := by
  unfold storeReg
  split
  · unfold storeFields
    dsimp only
    split <;> rfl
  · rfl

theorem link_of_links {s u : State} (same : u.links = s.links) (k : Nat) : link u k = link s k := by
  rw [link, link, same]

/-! #### The handshake and its timers (R274, R276, R278 to R281) -/

section
variable {s : State} {k : Fin 36} (up : coreUp s = true) (tile : tileUp s k.val = true)
include up tile

theorem frameLockGain_next {n : Nat} (shakes : shaking (link s k.val) = true)
    (step : (if (link s k.val).state = .retrain then 5 else (link s k.val).rtStep) = n) :
    exec (.frameLockGain k) s =
      .next (tryActive k.val (setLink k.val { link s k.val with frameLock := true, rtStep := n } s)) :=
  (next_onLink up tile shakes).trans (congrArg (fun n => Host.Outcome.next
    (tryActive k.val (setLink k.val { link s k.val with frameLock := true, rtStep := n } s))) step)

theorem handshakeTimers (init : (link s k.val).state = .init) :
    exec (.initFlitTimer k) s = .next (tryActive k.val (modLink k.val
      (fun l => { l with initsSent := if l.rxOk then l.initsSent + 1 else 0 })
      (sendUnseq k.val ftINIT false (initPayload s k.val) s))) ∧
    exec (.initTimeout k) s = .next (sendCommas k.val (beginSteps k.val 1 (modLink k.val (fun l => { l with
        state := .priming, reprime := true }) (primeFailed k.val 5 s)))) ∧
    exec (.frameLockGain k) s =
      .next (tryActive k.val (modLink k.val (fun l => { l with frameLock := true }) s)) := by
  have shakes : shaking (link s k.val) = true := by rw [shaking, init]; rfl
  exact ⟨next_onLink up tile shakes, next_onLink up tile (by rw [init]; rfl),
    frameLockGain_next up tile shakes (if_neg (by rw [init]; decide))⟩

theorem retrainTimers (retrain : (link s k.val).state = .retrain) :
    exec (.retrainAttemptTimeout k) s = .next (settle (startRetrain k.val false s)) ∧
    (4 ≤ (link s k.val).rtStep → exec (.frameLockGain k) s =
      .next (tryActive k.val (modLink k.val (fun l => { l with frameLock := true, rtStep := 5 }) s))) := by
  refine ⟨next_onLink up tile (by rw [retrain]; rfl), fun far => ?_⟩
  have shakes : shaking (link s k.val) = true := by simp [shaking, retrain, far]
  exact frameLockGain_next up tile shakes (if_pos retrain)

/-! #### The transmitter's timers (R265, R266, R269, R273) -/

theorem transmitTimers (active : (link s k.val).state = .active) (awake : (link s k.val).txSleep = .awake) :
    let l := link s k.val
    (replayRuns l s.now = false → exec (.ackTimeout k) s = .next (settle (startReplay k.val true s))) ∧
    (replayRuns l s.now = true → exec (.ackTimeout k) s = .next s) ∧
    exec (.ctrlFlitDue k) s = .next (sendCtrl k.val s) ∧
    (l.awaiting = true → exec (.replayReqRepeat k) s = .next (sendUnseq k.val ftREPLAY false [] s)) ∧
    (hasCredit l = false → l.txq ≠ [] ∨ l.txOut ≠ [] ∨ l.txX ≠ [] → exec (.creditTimeout k) s =
      .next (settle (postLink 0x0604 k.val 0 (bump (Reg.LNK_CREDIT_STALL_CNT k.val)
        (modLink k.val (fun l => { l with auditDue := true }) s))))) := by
  intro l
  have ready : txReady s k.val = true := by rw [txReady, tile, active, awake]; rfl
  refine ⟨fun quiet => next_onLink up tile ?_, fun runs => next_onLink_not ?_, next_onLink up tile ready,
    fun waits => next_onLink up tile ?_, fun none some => next_onLink up tile ?_⟩
  · rw [ready, show replayRuns (link s k.val) s.now = _ from quiet]; rfl
  · rw [show replayRuns (link s k.val) s.now = _ from runs, Bool.not_true, Bool.and_false]
  · rw [ready, show (link s k.val).awaiting = _ from waits]; rfl
  · rw [ready, show hasCredit (link s k.val) = _ from none, Bool.not_false, Bool.true_and, Bool.true_and]
    rcases some with h | h | h <;> simp [l] at h <;> simp [h]

end

/-! #### Sleep and wake of the transmit direction (R288, R312 to R314) -/

section
variable {s : State} {k : Nat}

theorem txSleepEnter_doze (may : maySleep s k = true) (active : (link s k).state = .active)
    (awake : (link s k).txSleep = .awake)
    (free : lastAwake s k = false ∨ (link s k).drainTold = true ∨ holding (link s k) = true) :
    txSleepEnter k s = dozeTx k s := by
  refine (if_neg (by simp [may, active])).trans ((if_pos awake).trans (if_neg ?_))
  rcases free with h | h | h <;> simp [h]

theorem txSleepEnter_last {p : Nat} (may : maySleep s k = true) (active : (link s k).state = .active)
    (awake : (link s k).txSleep = .awake) (last : lastAwake s k = true) (untold : (link s k).drainTold = false)
    (starts : holding (link s k) = false) (port : portOfLink s k = some p) :
    txSleepEnter k s = settleLinks (sendDrain p 3 (setLink k { link s k with drainTold := true } s)) := by
  refine (if_neg (by simp [may, active])).trans
    ((if_pos awake).trans ((if_pos (by simp [last, untold, starts])).trans ?_))
  rw [port]

theorem txSleepEnter_drain (may : maySleep s k = true) (active : (link s k).state = .active)
    (doze : (link s k).txSleep = .doze) (rx : (link s k).rxSleep = true)
    (on : bit s (Reg.LNK_SLEEP_CFG k) 31 = false) :
    txSleepEnter k s = drive (.sleep k true) (setLink k { link s k with txSleep := .drain } s) :=
  (if_neg (by simp [may, active])).trans ((if_neg (by simp [doze])).trans (if_pos (by simp [doze, rx, on])))

theorem wakeTx_asleep (active : (link s k).state = .active) (asleep : (link s k).txSleep ≠ .awake) :
    wakeTx k s = settle (if (link s k).awaiting then
      sendReplayReq k (wakeBurst k ((link s k).txSleep == .drain)
        (setLink k { link s k with txSleep := .awake, holdEnded := true, drainTold := false } s))
      else wakeBurst k ((link s k).txSleep == .drain)
        (setLink k { link s k with txSleep := .awake, holdEnded := true, drainTold := false } s)) :=
  (if_neg (by simp [active])).trans (if_pos (by simpa using asleep))

theorem wakeTx_holding (active : (link s k).state = .active) (awake : (link s k).txSleep = .awake)
    (holds : holding (link s k) = true) : wakeTx k s = settle (setLink k { link s k with holdEnded := true } s) :=
  (if_neg (by simp [active])).trans ((if_neg (by simp [awake])).trans (if_pos holds))

end

section
variable {s : State} {k : Fin 36} (up : coreUp s = true) (tile : tileUp s k.val = true)
  (active : (link s k.val).state = .active)
include up tile active

theorem awakeSleeps (awake : (link s k.val).txSleep = .awake) :
    let l := link s k.val
    (maySleep s k.val = true → lastAwake s k.val = false ∨ l.drainTold = true ∨ holding l = true →
      exec (.txSleepEnter k) s = .next (quiet .idle k.val (drive (.sleep k.val false)
        (modLink k.val (fun l => { l with txSleep := .doze })
          (sendUnseq k.val ftIDLE true [] (padFrame k.val 4 s)))))) ∧
    (∀ p, maySleep s k.val = true → lastAwake s k.val = true → l.drainTold = false → holding l = false →
      portOfLink s k.val = some p → exec (.txSleepEnter k) s =
        .next (settleLinks (sendDrain p 3 (setLink k.val { l with drainTold := true } s)))) ∧
    (holding l = true → wakeCause s k.val = true → exec (.txWake k) s =
      .next (settle (setLink k.val { l with holdEnded := true } s))) := by
  refine ⟨fun may free => ?_, fun p may last untold starts port => ?_, fun holds cause => ?_⟩
  · exact (next_onLink up tile rfl).trans (congrArg _ (txSleepEnter_doze may active awake free))
  · exact (next_onLink up tile rfl).trans
      (congrArg _ (txSleepEnter_last may active awake last untold starts port))
  · exact (next_onLink up tile cause).trans (congrArg _ (wakeTx_holding active awake holds))

theorem dozingDrains (may : maySleep s k.val = true) (doze : (link s k.val).txSleep = .doze)
    (rx : (link s k.val).rxSleep = true) (on : bit s (Reg.LNK_SLEEP_CFG k.val) 31 = false) :
    exec (.txSleepEnter k) s =
      .next (drive (.sleep k.val true) (setLink k.val { link s k.val with txSleep := .drain } s)) :=
  (next_onLink up tile rfl).trans (congrArg _ (txSleepEnter_drain may active doze rx on))

theorem asleepWakes (asleep : (link s k.val).txSleep ≠ .awake) (cause : wakeCause s k.val = true) :
    let l := link s k.val
    let w := wakeBurst k.val (l.txSleep == .drain)
      (setLink k.val { l with txSleep := .awake, holdEnded := true, drainTold := false } s)
    (l.awaiting = true → exec (.txWake k) s = .next (settle (sendUnseq k.val ftREPLAY false [] w))) ∧
    (l.awaiting = false → exec (.txWake k) s = .next (settle w)) := by
  have wakes := (next_onLink (f := wakeTx k.val) up tile cause).trans
    (congrArg Host.Outcome.next (wakeTx_asleep active asleep))
  exact ⟨fun waits => wakes.trans (congrArg (fun u => Host.Outcome.next (settle u)) (if_pos waits)),
    fun calm => wakes.trans (congrArg (fun u => Host.Outcome.next (settle u))
      (if_neg (by rw [show _ = _ from calm]; decide)))⟩

end

section
variable {s : State} {k : Fin 36} (up : coreUp s = true) (tile : tileUp s k.val = true)
include up tile

theorem sleepRegisters :
    (∀ v : Word, let u := storeReg (Reg.LNK_SLEEP_CFG k.val) v.toNat s
      (sleepEn u k.val = true → exec (.lnkSleepCfgWrite k v) s = .next u) ∧
      (sleepEn u k.val = false → exec (.lnkSleepCfgWrite k v) s = .next (wakeTx k.val u))) ∧
    (∀ v : Word, dutyOf (storeReg (Reg.LNK_DUTY_CTL k.val) v.toNat s) k.val ≠ 0 →
      exec (.lnkDutyCtlWrite k v) s = .next (storeReg (Reg.LNK_DUTY_CTL k.val) v.toNat s)) ∧
    (∀ v : Word, dutyOf (storeReg (Reg.LNK_DUTY_CTL k.val) v.toNat s) k.val = 0 → exec (.lnkDutyCtlWrite k v) s =
      .next (settle (modLink k.val (fun l => { l with hold := false, holdEnded := false })
        (storeReg (Reg.LNK_DUTY_CTL k.val) v.toNat s)))) := by
  refine ⟨fun v => ?_, fun v some => ?_, fun v none => ?_⟩
  · intro u
    exact ⟨fun on => (next_onTile up tile).trans (congrArg _ (if_pos on)),
      fun off => (next_onTile up tile).trans (congrArg _ (if_neg (ne_true_of_eq_false off)))⟩
  · exact (next_onTile up tile).trans (congrArg _ (if_neg some))
  · exact (next_onTile up tile).trans (congrArg _ (if_pos none))

end

/-! #### Writes of `LNK_CTL` (R278, R283, R284, R452) -/

theorem lnkCtlNow_lt (s : State) (k : Nat) : lnkCtlNow s k < 2 ^ 16 := natField_lt _ _ _

theorem testBit_iff (v i : Nat) : v.testBit i = true ↔ v / 2 ^ i % 2 = 1 := by
  rw [Nat.testBit_eq_decide_div_mod_eq, decide_eq_true_eq]

section
variable {s : State} {k v : Nat}

theorem modeChanged_same {old : Nat} (same : linkMode s k = old) : modeChanged k old s = s := if_pos same

/-- A write of `LNK_CTL` that is taken: the fields first, then the commands of its bits. -/
theorem lnkCtlWrite_taken (width : natField v 2 2 ≠ 3) (mode : natField v 8 2 ≠ 3) :
    lnkCtlWrite k v s =
      let u := modeChanged k (linkMode s k) (storeReg (Reg.LNK_CTL k) v s)
      let u := if v.testBit 16 then fullReset k u else u
      settle (if v.testBit 17 then retrainWrite 1 k u else u) :=
  if_neg (by simp [width, mode])

variable (width : natField v 2 2 ≠ 3) (mode : natField v 8 2 ≠ 3)
include width mode

theorem lnkCtlWrite_fields (reset : ¬ v.testBit 16 = true) (retrain : ¬ v.testBit 17 = true) :
    lnkCtlWrite k v s = settle (modeChanged k (linkMode s k) (storeReg (Reg.LNK_CTL k) v s)) := by
  rw [lnkCtlWrite_taken width mode]
  dsimp only
  rw [if_neg retrain, if_neg reset]

variable {u : State} (stored : u = storeReg (Reg.LNK_CTL k) v s) (same : linkMode u k = linkMode s k)
include stored same

theorem lnkCtlWrite_retrain (reset : ¬ v.testBit 16 = true) (retrain : v.testBit 17 = true) :
    lnkCtlWrite k v s = settle (retrainWrite 1 k u) := by
  rw [lnkCtlWrite_taken width mode, ← stored, modeChanged_same same]
  dsimp only
  rw [if_pos retrain, if_neg reset]

theorem lnkCtlWrite_reset (reset : v.testBit 16 = true) (retrain : ¬ v.testBit 17 = true) :
    lnkCtlWrite k v s = settle (fullReset k u) := by
  rw [lnkCtlWrite_taken width mode, ← stored, modeChanged_same same]
  dsimp only
  rw [if_neg retrain, if_pos reset]

end

section
variable {s : State} {k : Nat}

theorem retrainWrite_idle {reason : Nat} (idle : (link s k).state ≠ .active) : retrainWrite reason k s = s :=
  if_neg idle

theorem retrainWrite_shared {reason : Nat} (active : (link s k).state = .active) (shared : lastUsable s k = none) :
    retrainWrite reason k s = startRetrain k true s := by
  refine (if_pos active).trans ?_
  rw [shared]

theorem retrainWrite_last {reason p : Nat} (active : (link s k).state = .active) (last : lastUsable s k = some p) :
    retrainWrite reason k s = startRetrain k true (settleLinks (sendDrain p reason s)) := by
  refine (if_pos active).trans ?_
  rw [last]

end

section
variable {s : State} {k : Fin 36} (up : coreUp s = true) (tile : tileUp s k.val = true)
include up tile

theorem linkCommandBits (width : natField (lnkCtlNow s k.val) 2 2 ≠ 3)
    (mode : natField (lnkCtlNow s k.val) 8 2 ≠ 3) :
    (∀ u, u = storeReg (Reg.LNK_CTL k.val) (lnkCtlNow s k.val + 2 ^ 17) s → linkMode u k.val = linkMode s k.val →
      ((link s k.val).state ≠ .active → exec (.lnkRetrain k) s = .next (settle u)) ∧
      ((link s k.val).state = .active → lastUsable u k.val = none →
        exec (.lnkRetrain k) s = .next (settle (startRetrain k.val true u))) ∧
      (∀ p, (link s k.val).state = .active → lastUsable u k.val = some p → exec (.lnkRetrain k) s =
        .next (settle (startRetrain k.val true (settleLinks (sendDrain p 1 u)))))) ∧
    (∀ u, u = storeReg (Reg.LNK_CTL k.val) (lnkCtlNow s k.val + 2 ^ 16) s → linkMode u k.val = linkMode s k.val →
      (linkMode s k.val = 1 → exec (.fullLinkReset k) s = .next (settle (raise (Reg.LNK_STATUS k.val) 5 u))) ∧
      (linkMode s k.val ≠ 1 → exec (.fullLinkReset k) s = .next (settle (fullReset k.val u)))) := by
  have small := lnkCtlNow_lt s k.val
  rw [natField] at width mode
  refine ⟨fun u stored same => ?_, fun u stored same => ?_⟩
  · have done : exec (.lnkRetrain k) s = .next (settle (retrainWrite 1 k.val u)) :=
      (next_onTile up tile).trans (congrArg _ (lnkCtlWrite_retrain (by rw [natField]; omega)
        (by rw [natField]; omega) stored same (by rw [testBit_iff]; omega) (by rw [testBit_iff]; omega)))
    have state : link u k.val = link s k.val := link_of_links (by rw [stored, links_storeReg]) _
    rw [done, ← state]
    exact ⟨fun idle => by rw [retrainWrite_idle idle], fun active shared => by rw [retrainWrite_shared active shared],
      fun p active last => by rw [retrainWrite_last active last]⟩
  · have done : exec (.fullLinkReset k) s = .next (settle (fullReset k.val u)) :=
      (next_onTile up tile).trans (congrArg _ (lnkCtlWrite_reset (by rw [natField]; omega)
        (by rw [natField]; omega) stored same (by rw [testBit_iff]; omega) (by rw [testBit_iff]; omega)))
    rw [done, ← same]
    exact ⟨fun service => congrArg (fun u => Host.Outcome.next (settle u)) (if_pos service), fun _ => rfl⟩

theorem linkModeWrites (m : BitVec 2) (width : natField (lnkCtlNow s k.val) 2 2 ≠ 3) :
    (m ≠ 3 → exec (.lnkModeWrite k m) s = .next (settle (modeChanged k.val (linkMode s k.val)
      (storeReg (Reg.LNK_CTL k.val) (natField (lnkCtlNow s k.val) 0 8 + 2 ^ 8 * m.toNat) s)))) ∧
    (m = 3 → exec (.lnkModeWrite k m) s = .next (raise (Reg.LNK_STATUS k.val) 5 s)) := by
  have small := m.isLt
  rw [natField] at width
  refine ⟨fun known => ?_, fun unknown => ?_⟩
  · have mode : m.toNat ≠ 3 := fun h => known (BitVec.eq_of_toNat_eq h)
    exact (next_onTile up tile).trans (congrArg _ (lnkCtlWrite_fields (by simp only [natField]; omega)
      (by simp only [natField]; omega) (by simp only [testBit_iff, natField]; omega)
      (by simp only [testBit_iff, natField]; omega)))
  · have mode : m.toNat = 3 := congrArg BitVec.toNat unknown
    refine (next_onTile up tile).trans (congrArg _ (if_pos ?_))
    rw [Bool.or_eq_true, decide_eq_true_eq, decide_eq_true_eq]
    simp only [natField]
    omega

end

/-- Settles O53: each timer and write is judged where its link and tile run; a write of `LNK_CTL` is split into its
fields and the commands of its bits. -/
theorem linkCommands : Obligations.LinkCommands := by
  refine ⟨fun s k up tile => ⟨handshakeTimers up tile, retrainTimers up tile, fun locked => next_onLink up tile locked,
    fun active => ⟨fun hears => next_onLink up tile (by rw [active, hears]; rfl),
      fun duty => next_onLink up tile (by simp [duty, active]), fun awake => ?_,
      fun may doze rx on => dozingDrains up tile active may doze rx on,
      asleepWakes up tile active⟩,
    fun held => next_onLink up tile held,
    fun bs asleep whole => next_onLink up tile (by rw [asleep, whole]; rfl),
    fun asleep => next_onLink up tile asleep, sleepRegisters up tile⟩,
    fun s k up reset v m => ⟨next_onTile_reset up reset, next_onTile_reset up reset, next_onTile_reset up reset,
      next_onTile_reset up reset, next_onTile_reset up reset⟩,
    fun s k up tile width mode => linkCommandBits up tile width mode,
    fun s k m => ?_⟩
  · obtain ⟨ack, busy, ctrl, replay, credit⟩ := transmitTimers up tile active awake
    obtain ⟨doze, drain, wake⟩ := awakeSleeps up tile active awake
    exact ⟨ack, busy, ctrl, replay, credit, doze, drain, wake⟩
  · intro v up tile width
    exact linkModeWrites up tile m width

end Sys2Proof.Proofs

/-! ### Lanes: priming, detectors, test and calibration -/

namespace Sys2Proof.Proofs

open Sys2Proof Sys2Proof.Machine Sys2Proof.Laws

/-! #### Priming (R303 to R306) -/

section
variable {s : State} {k : Nat} (state : (link s k).state = .priming)
include state

theorem priming_of (quiet : linkInTest s k = false) : priming s k = true := by
  rw [priming, state, quiet]; rfl

theorem failAttempt_priming (cause : Nat) : failAttempt k cause s = beginCold k 1 (primeFailed k cause s) :=
  if_pos state

end

section
variable {s : State} {k : Fin 36} (up : coreUp s = true) (tile : tileUp s k.val = true)
  (state : (link s k.val).state = .priming)
include up tile state

theorem primingStarts (quiet : linkInTest s k.val = false) (asked : (link s k.val).step = 7) :
    ((link s k.val).reprime = false → exec (.primeStart k) s = .next (beginCold k.val 0 s)) ∧
    ((link s k.val).reprime = true →
      exec (.primeStart k) s = .next (sendCommas k.val (beginSteps k.val 1 s))) := by
  have acts : ((link s k.val).state == .priming && (link s k.val).step == 7) = true := by simp [state, asked]
  have untested : ¬ linkInTest s k.val = true := by rw [quiet]; decide
  exact ⟨fun cold => (next_onLink up tile acts).trans
      (congrArg _ ((if_neg untested).trans (if_neg (by rw [cold]; decide)))),
    fun again => (next_onLink up tile acts).trans (congrArg _ ((if_neg untested).trans (if_pos again)))⟩

theorem primingSteps (quiet : linkInTest s k.val = false) :
    let l := link s k.val
    (l.step = 0 → s.rst.refOk.getLsbD (k.val / 4) = true → exec (.pllLock k) s =
      .next (sendCommas k.val (modLink k.val (fun l => { l with step := 1 }) s))) ∧
    (l.step = 1 → exec (.cdrLock k) s = .next (modLink k.val (fun l => { l with step := 2 })
      (each (activeLanes s k.val) (fun n s => modLane n (fun v => { v with los := false, lol := false }) s) s))) ∧
    (∀ skew, l.step = 2 → exec (.laneAligned k skew) s = .next (laneAligned k.val skew s)) ∧
    (l.step = 4 → exec (.adaptationDone k) s = .next (sendBlocks k.val 1 (modLink k.val
      (fun l => { l with sentReady := true }) (sendBlocks k.val 1 (modLink k.val
        (fun l => { l with step := 5, rxDone := true }) (each (activeLanes s k.val) convergeLane s)))))) ∧
    (l.step ≠ 7 → exec (.primeTimeout k) s = .next (beginCold k.val 1 (primeFailed k.val 4 s))) := by
  intro l
  have primes := priming_of state quiet
  refine ⟨fun step ref => next_onLink up tile ?_, fun step => next_onLink up tile ?_, fun skew step => ?_,
    fun step => next_onLink up tile ?_, fun step => ?_⟩
  · rw [primes, show (link s k.val).step = _ from step, ref]; rfl
  · rw [primes, show (link s k.val).step = _ from step]; rfl
  · exact (next_onLink up tile (by rw [state]; rfl)).trans
      (congrArg _ (if_pos (by rw [primes, show (link s k.val).step = _ from step]; rfl)))
  · rw [primes, show (link s k.val).step = _ from step]; rfl
  · exact (next_onLink up tile (by simpa [state, quiet] using step)).trans
      (congrArg _ (failAttempt_priming state 4))

/-- A link with a lane in test sits in PRIMING (R311). -/
theorem testSits (tested : linkInTest s k.val = true) (skew : List Nat) :
    exec (.laneAligned k skew) s = .next (alignedInTest k.val s) ∧
    ((link s k.val).step = 7 → exec (.primeStart k) s = .next (each
      ((activeLanes s k.val).filter fun n => bit s (Reg.LANE_TEST n) 0) applyLoop
      (sendCommas k.val (beginSteps k.val 0 s)))) := by
  refine ⟨(next_onLink up tile (by rw [state]; rfl)).trans (congrArg _ ((if_neg ?_).trans (if_pos tested))),
    fun asked => (next_onLink up tile (by simp [state, asked])).trans (congrArg _ (if_pos tested))⟩
  rw [priming, tested]
  simp

end

section
variable {s : State} {n k ctype : Nat} {b : CtrlBlock} {f : State → State}
  (up : coreUp s = true) (tile : tileUp s k = true) (primes : priming s k = true) (own : n / 8 = k)
  (far : 3 ≤ (link s k).step) (active : (activeLanes s k).contains n = true) (type : blockIs ctype b = true)
include up tile primes own far active type

theorem onTraining_next : (.next (onTraining n ctype b f s) : Res) =
    .next (if natField (b.getD 1 0).toNat 0 3 != n % 8 then failAttempt k 2 s
      else if natField (b.getD 2 0).toNat 0 2 != (link s k).rate.toNat then failAttempt k 3 s
      else f s) := by
  subst own
  have acts : (priming s (n / 8) && 3 ≤ (link s (n / 8)).step && (activeLanes s (n / 8)).contains n &&
      blockIs ctype b) = true := by
    rw [primes, active, type, decide_eq_true far]; rfl
  unfold onTraining
  exact next_onLink up tile acts

theorem onTraining_good (lane : natField (b.getD 1 0).toNat 0 3 = n % 8)
    (rate : natField (b.getD 2 0).toNat 0 2 = (link s k).rate.toNat) :
    (.next (onTraining n ctype b f s) : Res) = .next (f s) :=
  (onTraining_next up tile primes own far active type).trans
    (congrArg _ ((if_neg (by rw [lane]; simp)).trans (if_neg (by rw [rate]; simp))))

theorem onTraining_lane (lane : natField (b.getD 1 0).toNat 0 3 ≠ n % 8) :
    (.next (onTraining n ctype b f s) : Res) = .next (failAttempt k 2 s) :=
  (onTraining_next up tile primes own far active type).trans (congrArg _ (if_pos (by simpa using lane)))

theorem onTraining_rate (lane : natField (b.getD 1 0).toNat 0 3 = n % 8)
    (rate : natField (b.getD 2 0).toNat 0 2 ≠ (link s k).rate.toNat) :
    (.next (onTraining n ctype b f s) : Res) = .next (failAttempt k 3 s) :=
  (onTraining_next up tile primes own far active type).trans
    (congrArg _ ((if_neg (by rw [lane]; simp)).trans (if_pos (by simpa using rate))))

end

section
variable {s : State} {k : Fin 36} {n : Fin 288} {b : CtrlBlock} (up : coreUp s = true) (tile : tileUp s k.val = true)
  (quiet : linkInTest s k.val = false) (state : (link s k.val).state = .priming) (own : n.val / 8 = k.val)
  (far : 3 ≤ (link s k.val).step) (active : (activeLanes s k.val).contains n.val = true)
include up tile quiet state own far active

theorem trainingTaken (lane : natField (b.getD 1 0).toNat 0 3 = n.val % 8)
    (rate : natField (b.getD 2 0).toNat 0 2 = (link s k.val).rate.toNat) :
    (blockIs 1 b = true → exec (.train n b) s = .next (answerTrain n.val (takeTrain k.val n.val b s))) ∧
    (blockIs 2 b = true → exec (.endBlock n b) s = .next (finishPriming k.val (modLink k.val (fun l => { l with
        endSeen := if l.endSeen.contains n.val then l.endSeen else n.val :: l.endSeen })
        (takeTrain k.val n.val b s)))) := by
  have primes := priming_of state quiet
  rw [← own]
  rw [← own] at tile primes far active rate
  exact ⟨fun type => onTraining_good up tile primes rfl far active type lane rate,
    fun type => onTraining_good up tile primes rfl far active type lane rate⟩

theorem trainingRefused (type : blockIs 1 b = true) :
    (natField (b.getD 1 0).toNat 0 3 ≠ n.val % 8 →
      exec (.train n b) s = .next (beginCold k.val 1 (primeFailed k.val 2 s))) ∧
    (natField (b.getD 1 0).toNat 0 3 = n.val % 8 → natField (b.getD 2 0).toNat 0 2 ≠ (link s k.val).rate.toNat →
      exec (.train n b) s = .next (beginCold k.val 1 (primeFailed k.val 3 s))) := by
  have primes := priming_of state quiet
  exact ⟨fun lane => (onTraining_lane up tile primes own far active type lane).trans
      (congrArg _ (failAttempt_priming state 2)),
    fun lane rate => (onTraining_rate up tile primes own far active type lane rate).trans
      (congrArg _ (failAttempt_priming state 3))⟩

end

/-! #### Detectors and margins (R307, R308, R315, R319) -/

theorem laneDetectors (s : State) (k : Fin 36) (n : Fin 288) (up : coreUp s = true) (tile : tileUp s k.val = true)
    (own : n.val / 8 = k.val) (active : laneActive s n.val = true) :
    (exec (.losAssert n) s = .next (detect n.val (endFarServe n.val (raise (Reg.LANE_STATUS n.val) 2
      (modLane n.val (fun v => { v with los := true }) s))))) ∧
    (exec (.lolAssert n) s = .next (detect n.val (setLol n.val s))) ∧
    (exec (.losClear n) s = .next (modLane n.val (fun v => { v with los := false }) s)) ∧
    ((link s k.val).rxSleep = true →
      exec (.wakeMissingTimeout n) s = .next (settle (startRetrain k.val true (setLol n.val s)))) ∧
    (∀ a b, (link s k.val).rxSleep = false → exec (.marginUpdate n a b) s = .next (setReg (Reg.LANE_MARGIN n.val)
      (BitVec.ofNat 64 (a.toNat + 2 ^ 16 * b.toNat)) (askInService n.val (adaptLane n.val s)))) := by
  rw [← own] at tile ⊢
  refine ⟨next_onLink up tile active, next_onLink up tile active, next_onLink up tile active,
    fun asleep => next_onLink up tile (by rw [asleep, active]; rfl),
    fun a b awake => next_onLink up tile ?_⟩
  rw [awake, show (activeLanes s (n.val / 8)).contains n.val = true from active]
  rfl

/-! #### Test of a lane (R308 to R311) -/

section
variable {s : State} {n v : Nat}

theorem laneTestWrite_refused (forbidden : testAllowed s (n / 8) = false)
    (asks : v.testBit 0 = true ∨ natField v 1 2 ≠ fld s (Reg.LANE_TEST n) 1 2) :
    laneTestWrite n v s = raise (Reg.LANE_STATUS n) 4 s := by
  refine if_pos ?_
  rw [forbidden]
  simpa using asks

variable {u : State} (stored : storeReg (Reg.LANE_TEST n) v s = u)
include stored

/-- A write that is taken on a lane that is not active moves its register only. -/
theorem laneTestWrite_inactive (allowed : testAllowed s (n / 8) = true) (idle : laneActive u n = false) :
    laneTestWrite n v s = u := by
  subst stored
  exact (if_neg (by rw [allowed]; simp)).trans (if_pos (by rw [idle]; rfl))

variable (active : laneActive u n = true)
include active

theorem laneTestWrite_enter (allowed : testAllowed s (n / 8) = true) (was : bit s (Reg.LANE_TEST n) 0 = false)
    (on : v.testBit 0 = true) :
    laneTestWrite n v s = applyLoop n (modLane n (fun x => { x with farOk := false }) (sitInPriming (n / 8) u)) := by
  subst stored
  refine (if_neg (by rw [allowed]; simp)).trans ((if_neg (by rw [active]; decide)).trans ((if_pos on).trans ?_))
  rw [was]
  rfl

theorem laneTestWrite_stay (allowed : testAllowed s (n / 8) = true) (was : bit s (Reg.LANE_TEST n) 0 = true)
    (on : v.testBit 0 = true) (same : natField v 1 2 = fld s (Reg.LANE_TEST n) 1 2) : laneTestWrite n v s = u := by
  subst stored
  refine (if_neg (by rw [allowed]; simp)).trans ((if_neg (by rw [active]; decide)).trans ((if_pos on).trans ?_))
  rw [was, same]
  exact if_neg (by simp)

theorem laneTestWrite_move (allowed : testAllowed s (n / 8) = true) (was : bit s (Reg.LANE_TEST n) 0 = true)
    (on : v.testBit 0 = true) (moved : natField v 1 2 ≠ fld s (Reg.LANE_TEST n) 1 2) :
    laneTestWrite n v s = applyLoop n (modLane n (fun x => { x with farOk := false }) u) := by
  subst stored
  refine (if_neg (by rw [allowed]; simp)).trans ((if_neg (by rw [active]; decide)).trans ((if_pos on).trans ?_))
  rw [was]
  exact if_pos (by simpa using moved)

theorem laneTestWrite_leave (was : bit s (Reg.LANE_TEST n) 0 = true) (off : v.testBit 0 = false)
    (free : natField v 1 2 = fld s (Reg.LANE_TEST n) 1 2 ∨ testAllowed s (n / 8) = true) :
    laneTestWrite n v s = endTest (fld s (Reg.LANE_TEST n) 1 2) n u := by
  subst stored
  refine (if_neg ?_).trans ((if_neg (by rw [active]; decide)).trans
    ((if_neg (by rw [off]; decide)).trans (if_pos was)))
  rcases free with h | h <;> simp [off, h]

end

theorem endTest_eq (loop n : Nat) {s u : State} (now : u.now = s.now) :
    endTest loop n u =
      let x := modLane n (fun x => { x with farOk := false }) u
      let w := if loop = 3 then
          drive (.idle n) (modLane n (fun x => { x with sends := .idle, idleTill := some (s.now + 200) }) x)
        else modLane n (fun x => { x with sends := .commas, scr := scramSeed (n % 8) }) x
      leaveTest (n / 8) (monitorBack n w) := by
  rw [← now]
  rfl

theorem now_storeReg (a v : Nat) (s : State) : (storeReg a v s).now = s.now := by
  unfold storeReg
  split
  · unfold storeFields
    dsimp only
    split <;> rfl
  · rfl

section
variable {s : State} {n : Fin 288} (up : coreUp s = true) (tile : tileUp s (n.val / 8) = true)
include up tile

theorem exec_laneTestWrite (v : Word) :
    exec (.laneTestWrite n v) s = .next (settle (laneTestWrite n.val v.toNat s)) := next_onTile up tile

theorem laneTestWrites (v : Word) :
    let k := n.val / 8
    let u := storeReg (Reg.LANE_TEST n.val) v.toNat s
    (testAllowed s k = false → v.getLsbD 0 = true ∨ natField v.toNat 1 2 ≠ fld s (Reg.LANE_TEST n.val) 1 2 →
      exec (.laneTestWrite n v) s = .next (settle (raise (Reg.LANE_STATUS n.val) 4 s))) ∧
    (testAllowed s k = true → bit s (Reg.LANE_TEST n.val) 0 = false → v.getLsbD 0 = true →
      (laneActive u n.val = true → exec (.laneTestWrite n v) s = .next (settle (applyLoop n.val
        (modLane n.val (fun x => { x with farOk := false }) (sitInPriming k u))))) ∧
      (laneActive u n.val = false → exec (.laneTestWrite n v) s = .next (settle u))) ∧
    (testAllowed s k = true → bit s (Reg.LANE_TEST n.val) 0 = true → v.getLsbD 0 = true → laneActive u n.val = true →
      (natField v.toNat 1 2 = fld s (Reg.LANE_TEST n.val) 1 2 → exec (.laneTestWrite n v) s = .next (settle u)) ∧
      (natField v.toNat 1 2 ≠ fld s (Reg.LANE_TEST n.val) 1 2 → exec (.laneTestWrite n v) s =
        .next (settle (applyLoop n.val (modLane n.val (fun x => { x with farOk := false }) u))))) ∧
    (bit s (Reg.LANE_TEST n.val) 0 = true → v.getLsbD 0 = false → laneActive u n.val = true →
      natField v.toNat 1 2 = fld s (Reg.LANE_TEST n.val) 1 2 ∨ testAllowed s k = true →
      let x := modLane n.val (fun x => { x with farOk := false }) u
      let w := if fld s (Reg.LANE_TEST n.val) 1 2 = 3 then
          drive (.idle n.val) (modLane n.val (fun x => { x with sends := .idle, idleTill := some (s.now + 200) }) x)
        else modLane n.val (fun x => { x with sends := .commas, scr := scramSeed (n.val % 8) }) x
      exec (.laneTestWrite n v) s = .next (settle (leaveTest k (monitorBack n.val w)))) := by
  intro k u
  rw [exec_laneTestWrite up tile]
  refine ⟨fun forbidden asks => ?_, fun allowed was on => ⟨fun active => ?_, fun idle => ?_⟩,
    fun allowed was on active => ⟨fun same => ?_, fun moved => ?_⟩, fun was off active free => ?_⟩
  · rw [laneTestWrite_refused forbidden asks]
  · rw [laneTestWrite_enter rfl active allowed was on]
  · rw [laneTestWrite_inactive rfl allowed idle]
  · rw [laneTestWrite_stay rfl active allowed was on same]
  · rw [laneTestWrite_move rfl active allowed was on moved]
  · rw [laneTestWrite_leave rfl active was off free]
    exact congrArg (fun u => Host.Outcome.next (settle u)) (endTest_eq _ _ (now_storeReg _ _ _))

theorem qualityWrites (v : Word) :
    (laneInTest s n.val = false → v.getLsbD 0 = true →
      exec (.laneSqCtlWrite n v) s = .next (raise (Reg.LANE_STATUS n.val) 4 s)) ∧
    (laneInTest s n.val = true ∨ v.getLsbD 0 = false →
      exec (.laneSqCtlWrite n v) s = .next (storeReg (Reg.LANE_SQ_CTL n.val) v.toNat s)) := by
  refine ⟨fun out on => (next_onTile up tile).trans (congrArg _ (if_pos ?_)),
    fun free => (next_onTile up tile).trans (congrArg _ (if_neg ?_))⟩
  · rw [show v.toNat.testBit 0 = true from on, out]; rfl
  · rcases free with h | h
    · rw [h]; simp
    · rw [show v.toNat.testBit 0 = false from h]; simp

end
/-- The pattern that a write of `LANE_PRBS_CTL` leaves on a lane that drives one, `s` before and `u` after the write. -/
def patternAfter (n : Nat) (s u : State) : State :=
  if laneInTest u n = true ∧ bit u (Reg.LANE_TEST n) 0 = true ∧
    (fld u (Reg.LANE_TEST n) 1 2 = 0 ∨ (lane u n).farOk = true)
  then applyPattern (polyOf u n != polyOf s n) n u else u

/-- A write of `LANE_PRBS_CTL` (R309): the fields and the pattern, then the commands of its bits. -/
theorem prbsCtlWrite_eq (n v : Nat) (s : State) :
    prbsCtlWrite n v s =
      let u := patternAfter n s (storeReg (Reg.LANE_PRBS_CTL n) v s)
      let u := if v.testBit 8 then setReg (Reg.LANE_PRBS_BITS n) 0 (setReg (Reg.LANE_PRBS_ERR n) 0 u) else u
      if v.testBit 9 then
        drive (.invert n) (if counting u n && loopedBack u n then bumpSat48 (Reg.LANE_PRBS_ERR n) 1 u else u)
      else u := by
  unfold prbsCtlWrite patternAfter
  simp only [Bool.and_eq_true, Bool.or_eq_true, beq_iff_eq, and_assoc]

theorem patternCommands (s : State) (n : Fin 288) (up : coreUp s = true) (tile : tileUp s (n.val / 8) = true) :
    let c := patternAfter n.val s (storeReg (Reg.LANE_PRBS_CTL n.val) (prbsCtlNow s n.val + 2 ^ 8) s)
    let j := patternAfter n.val s (storeReg (Reg.LANE_PRBS_CTL n.val) (prbsCtlNow s n.val + 2 ^ 9) s)
    exec (.prbsClr n) s = .next (setReg (Reg.LANE_PRBS_BITS n.val) 0 (setReg (Reg.LANE_PRBS_ERR n.val) 0 c)) ∧
    exec (.prbsInj n) s = .next (drive (.invert n.val)
      (if counting j n.val = true ∧ loopedBack j n.val = true then bumpSat48 (Reg.LANE_PRBS_ERR n.val) 1 j
       else j)) := by
  have small : prbsCtlNow s n.val < 2 ^ 5 := natField_lt _ _ _
  refine ⟨(next_onTile up tile).trans (congrArg _ ?_), (next_onTile up tile).trans (congrArg _ ?_)⟩
  · have clear : (prbsCtlNow s n.val + 2 ^ 8).testBit 8 = true := by rw [testBit_iff]; omega
    have plain : ¬ (prbsCtlNow s n.val + 2 ^ 8).testBit 9 = true := by rw [testBit_iff]; omega
    rw [prbsCtlWrite_eq]
    dsimp only
    rw [if_neg plain, if_pos clear]
  · have keeps : ¬ (prbsCtlNow s n.val + 2 ^ 9).testBit 8 = true := by rw [testBit_iff]; omega
    have inverts : (prbsCtlNow s n.val + 2 ^ 9).testBit 9 = true := by rw [testBit_iff]; omega
    rw [prbsCtlWrite_eq]
    dsimp only
    rw [if_pos inverts, if_neg keeps]
    simp only [Bool.and_eq_true]

theorem patternLocks (s : State) (n : Fin 288) (up : coreUp s = true) (tile : tileUp s (n.val / 8) = true)
    (tested : laneInTest s n.val = true) (counts : bit s (Reg.LANE_SQ_CTL n.val) 0 = true) :
    exec (.prbsLockGain n) s = .next (raise (Reg.LANE_PRBS_STATUS n.val) 0 s) ∧
    (bit s (Reg.LANE_PRBS_STATUS n.val) 0 = true → ∃ errs bits, exec (.prbsLockLoss n) s =
      .next (bump (Reg.LANE_PRBS_RELOCK n.val) (lower (Reg.LANE_PRBS_STATUS n.val) 0
        (bumpSat48 (Reg.LANE_PRBS_ERR n.val) (64 + errs) (bumpSat48 (Reg.LANE_PRBS_BITS n.val) (64 + errs + bits)
          { s with draws := s.draws + 2 }))))) := by
  have checks : checking s n.val = true := by rw [checking, tested, counts]; rfl
  exact ⟨next_onLink up tile checks, fun locked =>
    ⟨_, _, next_onLink up tile (by rw [counting, checks, locked]; rfl)⟩⟩

theorem farLoops (s : State) (n : Fin 288) (up : coreUp s = true) (tile : tileUp s (n.val / 8) = true) :
    (∀ b, blockIs 4 b = true → testAllowed s (n.val / 8) = true → laneActive s n.val = true →
      bit s (Reg.LANE_TEST n.val) 4 = true → exec (.loopReq n b) s =
        .next (settle (setSends .retransmit n.val (sendBlock n.val 5
        (modLane n.val (fun v => { v with farServe := true })
          (sitInPriming (n.val / 8) s)))))) ∧
    (∀ b, blockIs 5 b = true → farAsked s n.val = true →
      exec (.loopAck n b) s = .next (applyPattern false n.val (modLane n.val (fun v => { v with farOk := true }) s))) ∧
    (farAsked s n.val = true →
      exec (.farLoopTimeout n) s = .next (sendBlock n.val 1 (raise (Reg.LANE_TEST_STATUS n.val) 0 s))) :=
  ⟨fun b type allowed active serves => next_onLink up tile (by rw [type, allowed, active, serves]; rfl),
    fun b type asked => next_onLink up tile (by rw [type, asked]; rfl), fun asked => next_onLink up tile asked⟩

/-! #### The temperature check (R318) -/

theorem checkStale_none {s : State} {k : Nat}
    (blank : (activeLanes s k).findSome? (fun n => (lane s n).capture) = none) : checkStale k false s = s := by
  unfold checkStale
  rw [blank]
  rfl

/-- The check in service, by how far the tile's temperature lies from the captured one. -/
theorem checkStale_some {s : State} {k : Nat} {c : Int}
    (kept : (activeLanes s k).findSome? (fun n => (lane s n).capture) = some c) :
    checkStale k false s =
      let far := (tileTemp s k - c).natAbs
      let w := setStale k true s
      if 100 < far then
        if isStale s k then w
        else postOwn 0x060A k (half (tileTemp w k)) (modLink k (fun l => { l with staleAt := some w.now }) w)
      else if far ≤ 80 then setStale k false s else s := by
  unfold checkStale
  rw [kept]
  simp only [Bool.false_or, decide_eq_true_eq]

theorem temperatureCheck (s : State) (k : Fin 36) (up : coreUp s = true) (tile : tileUp s k.val = true)
    (alive : (link s k.val).state ≠ .down) (well : (link s k.val).state ≠ .failed) :
    let far (c : Int) := (tileTemp s k.val - c).natAbs
    let w := setStale k.val true s
    ((activeLanes s k.val).findSome? (fun n => (lane s n).capture) = none → exec (.calTempCheck k) s = .next s) ∧
    (∀ c, (activeLanes s k.val).findSome? (fun n => (lane s n).capture) = some c →
      (100 < far c → isStale s k.val = false → exec (.calTempCheck k) s =
        .next (postOwn 0x060A k.val (half (tileTemp w k.val))
          (modLink k.val (fun l => { l with staleAt := some w.now }) w))) ∧
      (100 < far c → isStale s k.val = true → exec (.calTempCheck k) s = .next w) ∧
      (far c ≤ 80 → exec (.calTempCheck k) s = .next (setStale k.val false s)) ∧
      (80 < far c → far c ≤ 100 → exec (.calTempCheck k) s = .next s)) := by
  intro far w
  have checks : exec (.calTempCheck k) s = .next (checkStale k.val false s) :=
    next_onLink up tile (by simp [alive, well])
  rw [checks]
  refine ⟨fun blank => by rw [checkStale_none blank], fun c kept => ?_⟩
  rw [checkStale_some kept]
  dsimp only [far]
  refine ⟨fun hot fresh => ?_, fun hot stale => ?_, fun near => ?_, fun off near => ?_⟩
  · rw [if_pos hot, if_neg (by rw [fresh]; decide)]
  · rw [if_pos hot, if_pos stale]
  · rw [if_neg (by omega), if_pos near]
  · rw [if_neg (by omega), if_neg (by omega)]

/-- Settles O54: each step of priming, detector, test and check is judged on a link whose tile runs. -/
theorem laneCommands : Obligations.LaneCommands := by
  refine ⟨fun s k up tile quiet state => ?_, fun s k skew up tile tested state => testSits up tile state tested skew,
    laneDetectors, fun s n v up tile => ?_, temperatureCheck⟩
  · obtain ⟨pll, cdr, aligned, adapted, late⟩ := primingSteps up tile state quiet
    exact ⟨fun asked => (primingStarts up tile state quiet asked).1,
      fun asked => (primingStarts up tile state quiet asked).2, pll, cdr, aligned, adapted, late,
      fun n b own far active lane rate => trainingTaken up tile quiet state own far active lane rate,
      fun n b own far active type => trainingRefused up tile quiet state own far active type⟩
  · obtain ⟨forbidden, enter, stay, leave⟩ := laneTestWrites up tile v
    obtain ⟨refused, taken⟩ := qualityWrites up tile v
    obtain ⟨asked, acked, late⟩ := farLoops s n up tile
    exact ⟨forbidden, enter, stay, leave, refused, taken, patternCommands s n up tile,
      fun tested counts => patternLocks s n up tile tested counts, asked, acked, late⟩

end Sys2Proof.Proofs

/-! ### Partitions, security commands and the scrub -/

namespace Sys2Proof.Proofs

open Sys2Proof Sys2Proof.Machine Sys2Proof.Laws

/-! #### ENABLE, TEARDOWN and the steps to FREE (R322, R325, R341) -/

section
variable {p : Nat} (part : p < 64) (s : State)
include part

theorem partCtlWrite_enable : partCtlWrite (p + 2 ^ 8) s = partEnable p (setFld Reg.SEC_PART_CTL 0 6 p s) := by
  have place : natField (p + 2 ^ 8) 0 6 = p := by rw [natField]; omega
  have command : natField (p + 2 ^ 8) 8 2 = 1 := by rw [natField]; omega
  unfold partCtlWrite
  dsimp only
  rw [place, command]
  rfl

theorem partCtlWrite_teardown :
    partCtlWrite (p + 2 * 2 ^ 8) s = partTeardown p (setFld Reg.SEC_PART_CTL 0 6 p s) := by
  have place : natField (p + 2 * 2 ^ 8) 0 6 = p := by rw [natField]; omega
  have command : natField (p + 2 * 2 ^ 8) 8 2 = 2 := by rw [natField]; omega
  unfold partCtlWrite
  dsimp only
  rw [place, command]
  rfl

end

theorem partOf_setFld (a lo w v p : Nat) (s : State) : partOf (setFld a lo w v s) p = partOf s p := rfl

section
variable {s : State} {p : BitVec 6} (up : coreUp s = true)
include up

theorem exec_enable : exec (.enable p) s = .next (partEnable p.toNat (setFld Reg.SEC_PART_CTL 0 6 p.toNat s)) :=
  (next_onlyIf up).trans (congrArg _ (partCtlWrite_enable p.isLt s))

theorem exec_teardown :
    exec (.teardown p) s = .next (partTeardown p.toNat (setFld Reg.SEC_PART_CTL 0 6 p.toNat s)) :=
  (next_onlyIf up).trans (congrArg _ (partCtlWrite_teardown p.isLt s))

end

theorem partitionCommands (s : State) (p : BitVec 6) : let u := setFld Reg.SEC_PART_CTL 0 6 p.toNat s
    coreUp s = true →
    ((partOf s p.toNat).state = .free → keyFree u p.toNat (BitVec.ofNat 16 (fld u Reg.SEC_PART_KEY 0 16)) = true →
      exec (.enable p) s = .next (modPart p.toNat
        (fun _ => ⟨.active, BitVec.ofNat 16 (fld u Reg.SEC_PART_KEY 0 16), ownerDigest u, [], [], false⟩) u)) ∧
    ((partOf s p.toNat).state ≠ .free → exec (.enable p) s = .next (raise Reg.SEC_PART_STATUS 6 u)) ∧
    ((partOf s p.toNat).state = .active → exec (.teardown p) s =
      .next (tearDown false p.toNat (modPart p.toNat (fun v => { v with state := .teardown, drained := false }) u))) ∧
    ((partOf s p.toNat).state ≠ .active → exec (.teardown p) s = .next (raise Reg.SEC_PART_STATUS 6 u)) := by
  intro u up
  rw [exec_enable up, exec_teardown up, ← partOf_setFld Reg.SEC_PART_CTL 0 6 p.toNat p.toNat s]
  refine ⟨fun free key => congrArg _ (if_pos ?_), fun taken => congrArg _ (if_neg ?_),
    fun active => congrArg _ (if_pos active), fun other => congrArg _ (if_neg other)⟩
  · rw [Bool.and_eq_true, decide_eq_true_eq]
    exact ⟨free, key⟩
  · rw [Bool.and_eq_true, decide_eq_true_eq]
    exact fun h => taken h.1

theorem teardownSteps (s : State) (p : BitVec 6) (up : coreUp s = true)
    (state : (partOf s p.toNat).state = .teardown) :
    ((partOf s p.toNat).drained = false → partDrained s p.toNat = true → exec (.teardownDrainEnd p) s =
      .next (modPart p.toNat (fun v => { v with drained := true }) (scrubPart p.toNat s))) ∧
    ((partOf s p.toNat).drained = true → exec (.teardownDone p) s = .next (raise Reg.SEC_PART_STATUS 5
      (quarantineKey (partOf s p.toNat).key (modPart p.toNat (fun _ => Part.initial) s)))) :=
  ⟨fun before done => next_onlyIf (by rw [up, state, before, done]; rfl),
    fun drained => (next_onlyIf (by rw [up, state, drained]; rfl)).trans
      (congrArg (fun u => Host.Outcome.next (raise Reg.SEC_PART_STATUS 5 u)) (if_pos state))⟩

/-! #### The checks of a security command (R328, R330) -/

section
variable {code : Nat} {part closed : Bool} {b : Blob} {run : State → State} {failed : State → SecResult} {s u : State}
  {w : Whole}

theorem answerCmd_pass (passes : secCheck part closed b s = none) :
    answerCmd code part closed b run failed s = run s := by
  unfold answerCmd
  rw [passes]

/-- A command that its checks refuse and that leaves nothing behind. -/
theorem answerCmd_refused {r : Byte} (refused : secCheck part closed b s = some r) :
    answerCmd code part closed b run noFail s = secAnswer (r, [], s) := by
  unfold answerCmd
  rw [refused]
  exact ite_self _

theorem answerCmd_failed {r : Byte} (whole : b.bad = false) (own : (b.data.getD 0 0).toNat = code)
    (refused : secCheck part closed b s = some r) :
    answerCmd code part closed b run failed s = secAnswer (r, [], (failed s).2.2) := by
  unfold answerCmd
  rw [refused]
  exact if_neg (by rw [whole, own]; simp)

variable (own : (b.data.getD 0 0).toNat = code)
include own

theorem blockIsOwn : ¬ (!(b.bad || (b.data.getD 0 0).toNat == code || (b.data.getD 0 0).toNat == 0 ||
    decide (8 < (b.data.getD 0 0).toNat))) = true := by
  rw [own]
  simp

variable (up : coreUp s = true)
include up

theorem next_runSecCmd (back : wholeBack (fun w => w == .command) s = (some (w, false), u)) :
    (.next (runSecCmd code part closed b run failed s) : Res) = .next (answerCmd code part closed b run failed u) := by
  unfold runSecCmd
  dsimp only
  rw [next_wholeCommand up, if_neg (blockIsOwn own), back]

/-- A block whose data was dropped is read again. -/
theorem next_runSecCmd_again (back : wholeBack (fun w => w == .command) s = (some (w, true), u)) :
    (.next (runSecCmd code part closed b run failed s) : Res) = .next (issueAll (askCommand u)) := by
  unfold runSecCmd
  dsimp only
  rw [next_wholeCommand up, if_neg (blockIsOwn own), back]

end

section
variable {code len : Nat} {part closed : Bool} {b arg : Blob} {run : Blob → Blob → State → SecResult} {s u : State}
  {w : Whole}

/-- A command that passes its checks asks for its argument. -/
theorem next_runArgCmd_asks (up : coreUp s = true) (own : (b.data.getD 0 0).toNat = code)
    (fresh : s.sec.cmdBlock = none) (back : wholeBack (fun w => w == .command) s = (some (w, false), u))
    (passes : secCheck part closed b u = none) :
    (.next (runArgCmd code part closed len b arg run s) : Res) = .next (askArgument len b.data u) := by
  unfold runArgCmd
  rw [fresh]
  exact (next_runSecCmd own up back).trans (congrArg _ (answerCmd_pass passes))

variable {block : List Byte} (up : coreUp s = true) (waits : s.sec.cmdBlock = some block)
  (own : (block.getD 0 0).toNat = code)
include up waits own

theorem next_runArgCmd_again (back : wholeBack (fun w => w == .argument) s = (some (w, true), u)) :
    (.next (runArgCmd code part closed len b arg run s) : Res) =
      .next (issueAll (askWhole .argument (cmdArg block) len u)) := by
  unfold runArgCmd
  rw [waits]
  refine (next_wholeCommand up).trans (congrArg _ ((if_neg (by rw [own]; simp)).trans ?_))
  rw [back]

variable (back : wholeBack (fun w => w == .argument) s = (some (w, false), u))
include back

theorem next_runArgCmd : (.next (runArgCmd code part closed len b arg run s) : Res) =
    .next (answerCmd code part closed ⟨block, false⟩ (fun s => secAnswer (run ⟨block, false⟩ arg s)) noFail
      (modSec (fun x => { x with cmdBlock := none }) u)) := by
  unfold runArgCmd
  rw [waits]
  refine (next_wholeCommand up).trans (congrArg _ ((if_neg (by rw [own]; simp)).trans ?_))
  rw [back]

end

/-! #### The security commands (R331, R338, R340, R348) -/

/-- An opened debug access refuses a new channel (R347). -/
theorem secCheck_debug {b : Blob} {s : State} (whole : b.bad = false) (own : (b.data.getD 0 0).toNat = 1)
    (part : cmdPart b < 64) (reserved : allZero (slice b.data 5 3) = true) (spare : allZero (slice b.data 16 48) = true)
    (opened : s.sec.openBit = true) : secCheck true true b s = some resDEBUG := by
  refine (if_neg (by rw [whole]; decide)).trans ((if_neg ?_).trans (if_pos (by rw [opened]; rfl)))
  rw [own, reserved, spare]
  simpa using part

theorem openFailed_pending {r : Byte} {b : Blob} {s : State} (pending : (chanOf s (cmdChan b)).state = .pending) :
    openFailed r b s = (r, [], setChan (cmdChan b) { chanOf s (cmdChan b) with ephSlot := none }
      (zeroize (chanOf s (cmdChan b)).ephSlot s)) := if_pos pending

theorem openFailed_other {r : Byte} {b : Blob} {s : State} (other : (chanOf s (cmdChan b)).state ≠ .pending) :
    openFailed r b s = (r, [], s) := if_neg other

section
variable {s u : State} {w : Whole} {b arg : Blob} (up : coreUp s = true)
  (back : wholeBack (fun w => w == .command) s = (some (w, false), u))
include up back

theorem channelCommands (passes : secCheck true true b u = none) :
    ((b.data.getD 0 0).toNat = 1 → exec (.ephGen b) s = .next (secAnswer (ephRun b u))) ∧
    ((b.data.getD 0 0).toNat = 2 → exec (.chanOpen b) s = .next (secAnswer (openRun b u))) ∧
    ((b.data.getD 0 0).toNat = 4 → s.sec.cmdBlock = none → exec (.wsealOpen b arg) s =
      .next (issueAll (askWhole .argument (cmdArg b.data) blobBytes
        (modSec (fun x => { x with cmdBlock := some b.data }) u)))) :=
  ⟨fun own => (next_runSecCmd own up back).trans (congrArg _ (answerCmd_pass passes)),
    fun own => (next_runSecCmd own up back).trans (congrArg _ (answerCmd_pass passes)),
    fun own fresh => next_runArgCmd_asks up own fresh back passes⟩

theorem attestCommand (passes : secCheck true false b u = none) (own : (b.data.getD 0 0).toNat = 5) :
    ((partOf u (cmdPart b)).state = .active → exec (.attest b) s = .next (secAnswer (resOK,
      reportBody (cmdPart b) (cmdIn b 0 48) u ++ (dikSign (reportBody (cmdPart b) (cmdIn b 0 48) u) u).1,
      { u with draws := u.draws + 1 }))) ∧
    ((partOf u (cmdPart b)).state ≠ .active → exec (.attest b) s = .next (secAnswer (resSTATE, [], u))) := by
  have run := (next_runSecCmd (failed := noFail) (run := fun s => secAnswer (attestRun b s)) own up back).trans
    (congrArg Host.Outcome.next (answerCmd_pass passes))
  exact ⟨fun active => run.trans
      (congrArg (fun r => Host.Outcome.next (secAnswer r)) (if_neg (by rw [active]; decide))),
    fun other => run.trans
      (congrArg (fun r => Host.Outcome.next (secAnswer r)) (if_pos (by simpa using other)))⟩

theorem plainCommands (passes : secCheck false false b u = none) :
    ((b.data.getD 0 0).toNat = 3 → exec (.chanClose b) s = .next (secAnswer (resOK, [], closeChan (cmdChan b) u))) ∧
    ((b.data.getD 0 0).toNat = 6 → exec (.cert b) s = .next (secAnswer (certRun u))) :=
  ⟨fun own => (next_runSecCmd own up back).trans (congrArg _ (answerCmd_pass passes)),
    fun own => (next_runSecCmd own up back).trans (congrArg _ (answerCmd_pass passes))⟩

theorem managementCommands (passes : secCheck false true b u = none) :
    ((b.data.getD 0 0).toNat = 7 → exec (.mgmtKeygen b) s = .next (secAnswer (keygenRun b u))) ∧
    ((b.data.getD 0 0).toNat = 8 → s.sec.cmdBlock = none → exec (.mgmtLoad b arg) s =
      .next (issueAll (askWhole .argument (cmdArg b.data) bundleBytes
        (modSec (fun x => { x with cmdBlock := some b.data }) u)))) :=
  ⟨fun own => (next_runSecCmd own up back).trans (congrArg _ (answerCmd_pass passes)),
    fun own fresh => (next_onlyIf (by rw [fresh]; simp)).trans (next_runArgCmd_asks up own fresh back passes)⟩

theorem ephGen_refused {r : Byte} (own : (b.data.getD 0 0).toNat = 1)
    (refused : secCheck true true b u = some r) : exec (.ephGen b) s = .next (secAnswer (r, [], u)) :=
  (next_runSecCmd own up back).trans (congrArg _ (answerCmd_refused refused))

/-- A CHAN_OPEN that is refused loses its ephemeral key (R330). -/
theorem chanOpen_refused {r : Byte} (whole : b.bad = false) (own : (b.data.getD 0 0).toNat = 2)
    (refused : secCheck true true b u = some r) :
    let v := chanOf u (cmdChan b)
    (v.state = .pending → exec (.chanOpen b) s =
      .next (secAnswer (r, [], setChan (cmdChan b) { v with ephSlot := none } (zeroize v.ephSlot u)))) ∧
    (v.state ≠ .pending → exec (.chanOpen b) s = .next (secAnswer (r, [], u))) := by
  intro v
  have fails : exec (.chanOpen b) s = .next (secAnswer (r, [], (openFailed resOK b u).2.2)) :=
    (next_runSecCmd own up back).trans (congrArg _ (answerCmd_failed whole own refused))
  rw [fails]
  exact ⟨fun pending => by rw [openFailed_pending pending], fun other => by rw [openFailed_other other]⟩

end

/-- The argument of WSEAL_OPEN or MGMT_LOAD has been read. -/
theorem argumentsReturn (s u : State) (w : Whole) (b arg : Blob) (block : List Byte) (again : Bool)
    (up : coreUp s = true) (waits : s.sec.cmdBlock = some block)
    (back : wholeBack (fun w => w == .argument) s = (some (w, again), u)) :
    let x := modSec (fun x => { x with cmdBlock := none }) u
    ((block.getD 0 0).toNat = 4 →
      (again = true → exec (.wsealOpen b arg) s =
        .next (issueAll (askWhole .argument (cmdArg block) blobBytes u))) ∧
      (again = false → secCheck true true ⟨block, false⟩ x = none → exec (.wsealOpen b arg) s =
        .next (secAnswer (wsealRun ⟨block, false⟩ arg x))) ∧
      (∀ r, again = false → secCheck true true ⟨block, false⟩ x = some r →
        exec (.wsealOpen b arg) s = .next (secAnswer (r, [], x)))) ∧
    ((block.getD 0 0).toNat = 8 → keeperRuns s = true →
      (again = true → exec (.mgmtLoad b arg) s =
        .next (issueAll (askWhole .argument (cmdArg block) bundleBytes u))) ∧
      (again = false → secCheck false true ⟨block, false⟩ x = none → exec (.mgmtLoad b arg) s =
        .next (secAnswer (loadRun arg x))) ∧
      (∀ r, again = false → secCheck false true ⟨block, false⟩ x = some r →
        exec (.mgmtLoad b arg) s = .next (secAnswer (r, [], x)))) := by
  refine ⟨fun own => ⟨?_, ?_, fun r => ?_⟩, fun own runs => ?_⟩
  · rintro rfl
    exact next_runArgCmd_again up waits own back
  · rintro rfl passes
    exact (next_runArgCmd up waits own back).trans (congrArg _ (answerCmd_pass passes))
  · rintro rfl refused
    exact (next_runArgCmd up waits own back).trans (congrArg _ (answerCmd_refused refused))
  · have load : exec (.mgmtLoad b arg) s =
        .next (runArgCmd 8 false true bundleBytes b arg (fun _ => loadRun) s) := next_onlyIf (by rw [runs]; simp)
    refine ⟨?_, ?_, fun r => ?_⟩
    · rintro rfl
      exact load.trans (next_runArgCmd_again up waits own back)
    · rintro rfl passes
      exact load.trans ((next_runArgCmd up waits own back).trans (congrArg _ (answerCmd_pass passes)))
    · rintro rfl refused
      exact load.trans ((next_runArgCmd up waits own back).trans (congrArg _ (answerCmd_refused refused)))

/-! #### The whole-block scrub (R344) -/

theorem scrubCommands (s : State) (up : coreUp s = true) :
    (masterEn s = true ∨ bit s Reg.SEC_SCRUB_STATUS 0 = true →
      exec .scrubAll s = .next (raise Reg.SEC_SCRUB_STATUS 2 s)) ∧
    (masterEn s = false → bit s Reg.SEC_SCRUB_STATUS 0 = false → exec .scrubAll s = .next (startScrub false s)) ∧
    (bit s Reg.SEC_SCRUB_STATUS 0 = true → (∀ p ∈ livePart s, partDrained s p = true) →
      markedDue s = true → exec .scrubDone s = .next (endScrub s)) := by
  refine ⟨fun busy => (next_onlyIf up).trans (congrArg _ (if_pos ?_)),
    fun off free => (next_onlyIf up).trans (congrArg _ (if_neg ?_)), fun runs drained due => next_onlyIf ?_⟩
  · rwa [Bool.or_eq_true]
  · rw [off, free]; decide
  · rw [up, runs, List.all_eq_true.mpr drained, due]; rfl

/-- Settles O55. -/
theorem securityCommands : Obligations.SecurityCommands := by
  refine ⟨partitionCommands, teardownSteps, fun s key => rfl, fun s u w b arg up back => ?_, argumentsReturn,
    fun s u w b up own back => next_runSecCmd_again own up back, fun s c pending => next_onlyIf (by rw [pending]; rfl),
    scrubCommands⟩
  exact ⟨channelCommands up back, attestCommand up back, plainCommands up back, managementCommands up back,
    fun r own refused => ephGen_refused up back own refused,
    fun r whole own refused => chanOpen_refused up back whole own refused,
    fun whole own part reserved spare opened =>
      ephGen_refused up back own (secCheck_debug whole own part reserved spare opened)⟩

end Sys2Proof.Proofs

/-! ### What the keeper does -/

namespace Sys2Proof.Proofs

open Sys2Proof Sys2Proof.Machine Sys2Proof.Laws

/-! #### Events (R387, R389, R392, R393) -/

theorem keeper_storeReg (a v : Nat) (s : State) : (storeReg a v s).keeper = s.keeper := by
  unfold storeReg
  split
  · unfold storeFields
    dsimp only
    split <;> rfl
  · rfl

theorem reportLoss_none {s : State} (none : s.keeper.lostNote = false) : reportLoss s = s :=
  if_neg (by rw [none]; simp)

theorem eventTaken (s : State) (e : Event) (rest : List Event) (runs : keeperRuns s = true) (up : coreUp s = true)
    (queued : s.evq = e :: rest) :
    exec .keeperEventCopy s = .next (settle (reportLoss (coalesce e { s with evq := rest }))) := by
  refine (next_onlyIf (by rw [runs, up]; rfl)).trans ?_
  rw [queued]

theorem holddownEnds (s : State) (cause : BitVec 16) (node : NodeId) (c : CoalSlot) (runs : keeperRuns s = true)
    (held : slotFor s cause node = some c) :
    (c.count = 0 → exec (.coalesceHolddownExpiry cause node) s = .next { s with keeper := { s.keeper with
      coal := s.keeper.coal.filter fun x => !(x.cause == cause && x.node == node) } }) ∧
    (c.count ≠ 0 → exec (.coalesceHolddownExpiry cause node) s = .next (settle (publish
      { c.last with summary := true, count := BitVec.ofNat 32 c.count } (setSlot { c with count := 0 } s)))) := by
  refine ⟨fun quiet => (next_onlyIf runs).trans ?_, fun some => (next_onlyIf runs).trans ?_⟩
  · rw [held]
    exact congrArg _ (if_pos quiet)
  · rw [held]
    exact congrArg _ (if_neg some)

theorem relayTaken (s : State) (p : Packet) (up : coreUp s = true) (runs : keeperRuns s = true)
    (type : p.ptype = tMEVT) (whole : p.abt = false) :
    exec (.mevt p) s = .next (settle (coalesce { parseEvent (fit 32 p.payload) with relayed := true, reporter := p.src }
      (takeEjected p s))) :=
  (next_onlyIf (by rw [up, runs, type]; rfl)).trans (congrArg _ (if_neg (by rw [whole]; decide)))

theorem entriesFreed (s : State) (v : Word) (up : coreUp s = true) (none : s.keeper.lostNote = false) :
    exec (.evtConsWrite v) s = .next (modKeeper
      (fun k => { k with toCopy := k.toCopy.filter fun i => !serialAfter 32 v.toNat i })
      (storeReg Reg.MGT_EVT_CONS v.toNat s)) := by
  refine (next_onlyIf up).trans (congrArg _ (reportLoss_none ?_))
  exact (congrArg Keeper.lostNote (keeper_storeReg _ _ s)).trans none

/-! #### Limits and throttling (R369, R371) -/

theorem limits_noteLimits (s : State) (k : Nat) :
    (noteLimits k s).keeper.limits.get k [] = (s.keeper.limits.get k [] ++ limitsPassed s k).eraseDups :=
  get_set_same _ _ _ _

theorem mem_limits_noteLimits (s : State) (k i : Nat) :
    i ∈ (noteLimits k s).keeper.limits.get k [] ↔ i ∈ s.keeper.limits.get k [] ∨ i ∈ limitsPassed s k := by
  rw [limits_noteLimits, List.mem_eraseDups, List.mem_append]

theorem recovered_noteLimits (s : State) (k : Nat) : recovered (noteLimits k s) k = true ↔
    ∀ i ∈ (noteLimits k s).keeper.limits.get k [], holdsRow s k i = false := by
  have rows (i : Nat) : holdsRow (noteLimits k s) k i = holdsRow s k i := rfl
  have passed : limitsPassed (noteLimits k s) k = limitsPassed s k := rfl
  rw [recovered, List.all_eq_true, passed]
  simp only [rows, List.mem_append, Bool.not_eq_true']
  exact ⟨fun all i hi => all i (.inl hi),
    fun all i hi => all i (hi.elim id fun h => (mem_limits_noteLimits s k i).mpr (.inr h))⟩

section
variable {s : State} {k : Nat} {d : Nat} (throttled : s.keeper.throttle.find k = some d)
include throttled

theorem dutyStep_recovered (ended : recovered (noteLimits k s) k = true) :
    dutyStep k s = unthrottle k (noteLimits k s) := by
  unfold dutyStep
  rw [throttled]
  exact if_pos ended

theorem dutyStep_passed (on : recovered (noteLimits k s) k = false) (passes : passesLimit s k = true)
    (policy : bit s Reg.MGT_THERM_CTL 0 = true) :
    dutyStep k s = dutyCtlWrite k (min (d + 1) (fld s Reg.MGT_THERM_CTL 4 3))
      (modKeeper (fun x => { x with throttle := x.throttle.set k (min (d + 1) (fld s Reg.MGT_THERM_CTL 4 3)) })
        (noteLimits k s)) := by
  have still : (passesLimit (noteLimits k s) k && bit (noteLimits k s) Reg.MGT_THERM_CTL 0) = true := by
    rw [show passesLimit (noteLimits k s) k = _ from passes, show bit (noteLimits k s)
      Reg.MGT_THERM_CTL 0 = _ from policy]
    rfl
  unfold dutyStep
  rw [throttled]
  exact (if_neg (by rw [on]; decide)).trans (if_pos still)

end

section
variable (s : State) (k : Fin 36) (up : coreUp s = true) (tile : tileUp s k.val = true) (runs : keeperRuns s = true)
include up tile runs

theorem throttleBegins (policy : bit s Reg.MGT_THERM_CTL 0 = true) (passes : passesLimit s k.val = true)
    (active : (link s k.val).state = .active) (free : s.keeper.throttle.find k.val = none) :
    exec (.keeperThrottle k) s = .next (settle (applyExclusion (noteLimits k.val
      { s with keeper := { s.keeper with throttle := s.keeper.throttle.set k.val 0 } }))) :=
  next_onLink up tile (by rw [runs, policy, passes, active, free]; rfl)

theorem throttleGoesOn (w : State) (noted : w = noteLimits k.val s) :
    (∀ i, i ∈ w.keeper.limits.get k.val [] ↔ i ∈ s.keeper.limits.get k.val [] ∨ i ∈ limitsPassed s k.val) ∧
    (recovered w k.val = true ↔ ∀ i ∈ w.keeper.limits.get k.val [], holdsRow s k.val i = false) ∧
    (∀ d, s.keeper.throttle.find k.val = some d → recovered w k.val = true →
      exec (.throttleDutyStep k) s = .next (settle (unthrottle k.val w))) ∧
    (∀ d, s.keeper.throttle.find k.val = some d → recovered w k.val = false → passesLimit s k.val = true →
      bit s Reg.MGT_THERM_CTL 0 = true →
      let n := min (d + 1) (fld s Reg.MGT_THERM_CTL 4 3)
      exec (.throttleDutyStep k) s = .next (settle (dutyCtlWrite k.val n
        { w with keeper := { w.keeper with throttle := w.keeper.throttle.set k.val n } }))) := by
  subst noted
  refine ⟨mem_limits_noteLimits s k.val, recovered_noteLimits s k.val, fun d throttled ended => ?_,
    fun d throttled on passes policy => ?_⟩
  · exact (next_onLink up tile runs).trans
      (congrArg (fun u => Host.Outcome.next (settle u)) (dutyStep_recovered throttled ended))
  · exact (next_onLink up tile runs).trans
      (congrArg (fun u => Host.Outcome.next (settle u)) (dutyStep_passed throttled on passes policy))

/-! #### Retrains (R382, R383) -/

theorem marginRetrains (n : Fin 288) (own : n.val / 8 = k.val) (policy : bit s Reg.MGT_MARGIN_CTL 0 = true)
    (lane : (activeLanes s k.val).contains n.val = true)
    (low : fld s (Reg.LANE_MARGIN n.val) 0 16 < marginFloor s) (calm : recentStarts s k.val = [])
    (active : (link s k.val).state = .active) :
    (lastUsable s k.val = none →
      exec (.keeperMarginRetrain n) s = .next (settle (startRetrain k.val true s))) ∧
    (∀ p, lastUsable s k.val = some p → exec (.keeperMarginRetrain n) s =
      .next (settle (startRetrain k.val true (settleLinks (sendDrain p 2 s))))) := by
  rw [← own] at tile lane calm active ⊢
  have run : exec (.keeperMarginRetrain n) s = .next (settle (retrainWrite 2 (n.val / 8) s)) :=
    next_onLink up tile (by rw [runs, policy, lane, decide_eq_true low, calm]; rfl)
  rw [run]
  exact ⟨fun shared => by rw [retrainWrite_shared active shared], fun p last => by rw [retrainWrite_last active last]⟩

theorem staleRetrains (policy : bit s Reg.MGT_CAL_CTL 0 = true) (stale : isStale s k.val = true)
    (calm : recentStarts s k.val = []) (active : (link s k.val).state = .active) :
    (lastUsable s k.val = none → exec (.keeperStaleRetrain k) s = .next (settle (startRetrain k.val true s))) ∧
    (∀ p, lastUsable s k.val = some p → exec (.keeperStaleRetrain k) s =
      .next (settle (startRetrain k.val true (settleLinks (sendDrain p 2 s))))) := by
  have run : exec (.keeperStaleRetrain k) s = .next (settle (retrainWrite 2 k.val s)) :=
    next_onLink up tile (by rw [runs, policy, stale, calm]; rfl)
  rw [run]
  exact ⟨fun shared => by rw [retrainWrite_shared active shared], fun p last => by rw [retrainWrite_last active last]⟩

end

/-! #### Captures and restarts (R383, R385) -/

theorem captureStarts (s : State) (up : coreUp s = true) (runs : keeperRuns s = true)
    (policy : bit s Reg.MGT_CAL_CTL 0 = true) (free : storing s = false) (gap : gapForbids s = false)
    (due : ∃ k, k < 36 ∧ captureDue s k = true) :
    exec .keeperCalCapture s =
      .next (startCapture false (modKeeper (fun x => { x with
        captured := ((List.range 36).filter (captureDue s)).foldl (fun t k => t.set k ((lastStart s k).getD 0))
          x.captured }) s)) := by
  obtain ⟨k, small, due⟩ := due
  have some : ((List.range 36).filter (captureDue s)).isEmpty = false :=
    List.isEmpty_eq_false_iff.mpr (List.ne_nil_of_mem (List.mem_filter.mpr ⟨List.mem_range.mpr small, due⟩))
  exact next_onlyIf (by rw [up, runs, policy, some, free, gap]; rfl)

theorem reason_restartKeeper (reason : Nat) (s : State) :
    (restartKeeper reason s).keeper.reason = BitVec.ofNat 4 reason := by
  unfold restartKeeper resetKeeper
  dsimp only
  split <;> rfl

theorem watchdogReason (s : State) (ready : fwReady s = true) :
    ∃ t, exec .watchdogExpiry s = .next t ∧ t.keeper.reason = 2 := by
  refine ⟨_, exec_watchdogExpiry ready, ?_⟩
  split
  · exact reason_restartKeeper 2 _
  · exact reason_restartKeeper 2 _

theorem keeperRestartReason (s : State) (known : s.rst.keeperUp = true ∨ bit s Reg.RST_STATUS 5 = true) :
    ∃ t, exec .keeperRestart s = .next t ∧ t.keeper.reason = 4 :=
  ⟨_, congrArg Host.Outcome.next (if_pos (Bool.or_eq_true _ _ ▸ known)), reason_restartKeeper 4 _⟩

/-- Settles O58: each command is judged where the keeper runs and the link's tile does. -/
theorem keeperCommands : Obligations.KeeperCommands := by
  refine ⟨eventTaken, holddownEnds, relayTaken, entriesFreed, fun s k up tile runs => ?_, captureStarts,
    fun s => rfl, fun s present ready => watchdogReason s (by rw [fwReady, present, ready]; rfl),
    keeperRestartReason⟩
  exact ⟨fun policy => next_onLink up tile (by rw [runs, policy]; rfl), throttleBegins s k up tile runs,
    throttleGoesOn s k up tile runs, fun off => if_neg (by rw [off]; decide), marginRetrains s k up tile runs,
    staleRetrains s k up tile runs, fun w => next_onLink up tile runs⟩

end Sys2Proof.Proofs

/-! ### Boot, firmware and calibration commands -/

namespace Sys2Proof.Proofs

open Sys2Proof Sys2Proof.Machine Sys2Proof.Laws

/-! #### Boot (R398) -/

theorem keeperBoots (s : State) (present : s.rst.keeperUp = true) (idle : s.keeper.running = false) :
    let u : State := { s with keeper := { s.keeper with recovery := false } }
    (∀ b, trialBank u = some b → (bankOf u b).bootsUsed < 3 →
      exec .keeperBoot s = .next (runFirmware b true (setBank b (bankOf u b).countBoot u))) ∧
    (∀ b, trialBank u = none → newest u (fun b => b.isConfirmed (rollback u)) = some b → exec .keeperBoot s =
      .next (runFirmware b false (raiseRollback (Config.manifestSvn (bankOf u b).manifest) u))) ∧
    (trialBank u = none → newest u (fun b => b.isConfirmed (rollback u)) = none →
      exec .keeperBoot s = .next { s with keeper := { s.keeper with recovery := true } }) := by
  intro u
  have boots : exec .keeperBoot s = .next (bootKeeper u) := next_onlyIf (by rw [present, idle]; rfl)
  rw [boots]
  refine ⟨fun b trial left => ?_, fun b trial best => ?_, fun trial best => ?_⟩
  · rw [bootKeeper, trial]
    exact congrArg _ (if_pos left)
  · rw [bootKeeper, trial]
    dsimp only
    rw [best]
  · rw [bootKeeper, trial]
    dsimp only
    rw [best]
    rfl

/-! #### Firmware commands (R399, R400) -/

section
variable {s : State} (up : coreUp s = true) (ready : fwReady s = true)
include up ready

theorem takeFw_busy {f : State → State} (busy : fwBusy s = true) :
    takeFw f s = setFld Reg.MGT_FW_STATUS 8 4 8 s :=
  (if_neg (by rw [up, ready]; decide)).trans (if_pos busy)

theorem takeFw_free {f : State → State} (free : fwBusy s = false) : takeFw f s = f s :=
  (if_neg (by rw [up, ready]; decide)).trans (if_neg (by rw [free]; decide))

omit up in
theorem confirmCmd_ready : confirmCmd s = takeFw confirmBank s :=
  if_neg (by rw [reverting, ready]; simp)

theorem firmwareBusy (busy : fwBusy s = true) :
    let t := setFld Reg.MGT_FW_STATUS 8 4 8 s
    exec .activate s = .next t ∧ exec .confirm s = .next t ∧ exec .revert s = .next t :=
  ⟨congrArg _ (takeFw_busy up ready busy),
    congrArg Host.Outcome.next ((confirmCmd_ready ready).trans (takeFw_busy up ready busy)),
    congrArg _ (takeFw_busy up ready busy)⟩

variable (free : fwBusy s = false)
include free

theorem exec_activate : exec .activate s = .next (activateBank s) := congrArg _ (takeFw_free up ready free)

theorem exec_confirm : exec .confirm s = .next (confirmBank s) :=
  congrArg Host.Outcome.next ((confirmCmd_ready ready).trans (takeFw_free up ready free))

theorem exec_revert : exec .revert s = .next (revertCmd s) := congrArg _ (takeFw_free up ready free)

theorem activateOnTrial (trial : s.keeper.trial = true) : exec .activate s = .next (fwEnd 6 s) := by
  rw [exec_activate up ready free]
  exact congrArg _ (if_pos trial)

end

/-! #### STAGE (R399) -/

section
variable {s : State}

theorem stageStart_unaimed (stable : s.keeper.trial = false) (on : masterEn s = true)
    (long : fld s Reg.MGT_FW_LEN 0 21 < 4096 ∨ 4096 + 1572864 < fld s Reg.MGT_FW_LEN 0 21) :
    stageStart s = fwEnd 3 s :=
  (if_neg (by rw [stable]; decide)).trans ((if_neg (by rw [on]; decide)).trans (if_pos (by simpa using long)))

theorem stageStart_reads (stable : s.keeper.trial = false) (on : masterEn s = true)
    (least : 4096 ≤ fld s Reg.MGT_FW_LEN 0 21) (most : fld s Reg.MGT_FW_LEN 0 21 ≤ 4096 + 1572864) :
    stageStart s = issueAll (readMem .firmware
      [⟨fld s Reg.MGT_FW_BASE 6 42 * 64, fld s Reg.MGT_FW_LEN 0 21, 0⟩] false none
      (setBank (spareBank s) Bank.erased s)) := by
  have fits : ¬ (decide (fld s Reg.MGT_FW_LEN 0 21 < 4096) || decide (4096 + 1572864 < fld s Reg.MGT_FW_LEN 0 21)) =
      true := by
    rw [Bool.or_eq_true, decide_eq_true_eq, decide_eq_true_eq]
    omega
  exact (if_neg (by rw [stable]; decide)).trans ((if_neg (by rw [on]; decide)).trans (if_neg fits))

end

theorem stageStarts (s : State) (image : ImageAt) (up : coreUp s = true) :
    let u := storeReg Reg.MGT_FW_LEN image.len.toNat (storeReg Reg.MGT_FW_BASE image.base.toNat s)
    let len := fld u Reg.MGT_FW_LEN 0 21
    coreUp u = true → fwReady u = true →
    (fwBusy u = true → exec (.stage image) s = .next (setFld Reg.MGT_FW_STATUS 8 4 8 u)) ∧
    (fwBusy u = false → u.keeper.trial = true → exec (.stage image) s = .next (fwEnd 6 u)) ∧
    (fwBusy u = false → u.keeper.trial = false → masterEn u = false → exec (.stage image) s = .next (fwEnd 5 u)) ∧
    (fwBusy u = false → u.keeper.trial = false → masterEn u = true → len < 4096 ∨ 4096 + 1572864 < len →
      exec (.stage image) s = .next (fwEnd 3 u)) ∧
    (fwBusy u = false → u.keeper.trial = false → masterEn u = true → 4096 ≤ len → len ≤ 4096 + 1572864 →
      exec (.stage image) s = .next (issueAll (readMem .firmware [⟨fld u Reg.MGT_FW_BASE 6 42 * 64, len, 0⟩] false none
        (setBank (spareBank u) Bank.erased u)))) := by
  intro u len runs ready
  have aimed : exec (.stage image) s = .next (takeFw stageStart u) := next_onlyIf up
  rw [aimed]
  refine ⟨fun busy => ?_, fun free trial => ?_, fun free stable off => ?_, fun free stable on long => ?_,
    fun free stable on least most => ?_⟩
  · rw [takeFw_busy runs ready busy]
  · rw [takeFw_free runs ready free]
    exact congrArg _ (if_pos trial)
  · rw [takeFw_free runs ready free]
    exact congrArg _ ((if_neg (by rw [stable]; decide)).trans (if_pos (by rw [off]; rfl)))
  · rw [takeFw_free runs ready free, stageStart_unaimed stable on long]
  · rw [takeFw_free runs ready free, stageStart_reads stable on least most]

/-- The bank that a STAGE writes, before it is marked. -/
def stagedBank (data : List PByte) (s : State) : Bank :=
  { Bank.erased with
    seq := stagedSeq s
    seqN := ~~~stagedSeq s
    manifest := (data.map (·.b)).take 4096
    image := (data.map (·.b)).drop 4096 }

/-- What a STAGE answers once its image has come whole: a flash error first, then its checks (R399). -/
theorem stageRead_whole {data : List PByte} {s : State} (whole : data.any (·.p) = false) :
    stageRead data s =
      let b := stagedBank data s
      let r := flashFails (setBank (spareBank s) b s)
      if r.1 then fwEnd 4 r.2
      else if Config.manifestLength b.manifest != (data.map (·.b)).length - 4096 then fwEnd 3 r.2
      else if !b.sound then fwEnd 1 r.2
      else if Config.manifestSvn b.manifest < rollback s then fwEnd 2 r.2
      else fwEnd 0 (setBank (spareBank s) { b with verified := markVERIFIED } r.2) :=
  if_neg (by rw [whole]; decide)

theorem imageStaged (s : State) (data : List PByte) :
    let image := data.map (·.b)
    let b : Bank := { Bank.erased with
      seq := stagedSeq s, seqN := ~~~stagedSeq s, manifest := image.take 4096, image := image.drop 4096 }
    let r := flashFails (setBank (spareBank s) b s)
    let ended (cause : Nat) : State := if r.1 = true then fwEnd 4 r.2 else fwEnd cause r.2
    (data.any (·.p) = true → readDone .firmware data s = fwEnd 5 s) ∧
    (data.any (·.p) = false → Config.manifestLength b.manifest ≠ image.length - 4096 →
      readDone .firmware data s = ended 3) ∧
    (data.any (·.p) = false → Config.manifestLength b.manifest = image.length - 4096 →
      (b.sound = false → readDone .firmware data s = ended 1) ∧
      (b.sound = true → Config.manifestSvn b.manifest < rollback s → readDone .firmware data s = ended 2) ∧
      (b.sound = true → rollback s ≤ Config.manifestSvn b.manifest → readDone .firmware data s =
        if r.1 = true then fwEnd 4 r.2
        else fwEnd 0 (setBank (spareBank s) { b with verified := markVERIFIED } r.2))) := by
  intro image b r ended
  refine ⟨fun bad => if_pos bad, fun whole length => ?_, fun whole length => ⟨fun unsound => ?_, fun sound old => ?_,
    fun sound current => ?_⟩⟩
  · exact (stageRead_whole whole).trans (congrArg (ite _ _) (if_pos (bne_iff_ne.mpr length)))
  · exact (stageRead_whole whole).trans (congrArg (ite _ _)
      ((if_neg (fun h => bne_iff_ne.mp h length)).trans (if_pos (by rw [Bool.not_eq_true']; exact unsound))))
  · exact (stageRead_whole whole).trans (congrArg (ite _ _) ((if_neg (fun h => bne_iff_ne.mp h length)).trans
      ((if_neg (by rw [Bool.not_eq_true', Bool.not_eq_false]; exact sound)).trans (if_pos old))))
  · exact (stageRead_whole whole).trans (congrArg (ite _ _) ((if_neg (fun h => bne_iff_ne.mp h length)).trans
      ((if_neg (by rw [Bool.not_eq_true', Bool.not_eq_false]; exact sound)).trans (if_neg (Nat.not_lt.mpr current)))))

/-! #### CONFIRM, ACTIVATE and REVERT (R399, R402) -/

theorem bankOf_setBank_same (b : Bool) (v : Bank) (s : State) : bankOf (setBank b v s) b = v := by
  cases b <;> rfl

theorem raiseRollback_flash (n : Nat) (s : State) : (raiseRollback n s).flash = s.flash := by
  unfold raiseRollback
  split <;> rfl

theorem rollback_raiseRollback (n : Nat) (s : State) : min 64 n ≤ rollback (raiseRollback n s) := by
  unfold raiseRollback
  split
  · rename_i low
    exact ((Nat.min_comm 64 n).trans (popcount_programTo (Nat.le_of_lt low)).symm).le
  · omega

theorem testBit_raiseRollback {n i : Nat} {s : State} (set : s.fuses.arb.testBit i = true) :
    (raiseRollback n s).fuses.arb.testBit i = true := by
  unfold raiseRollback
  split
  · exact testBit_programTo set
  · exact set

/-- A confirmed bank, with the rollback counter at its version. -/
def confirmedState (s : State) : State :=
  raiseRollback (Config.manifestSvn (runBank s).manifest)
    (setBank s.keeper.bankB { runBank s with confirmed := markCONFIRMED } (flashFails s).2)

theorem confirmBank_done {s : State} (trial : s.keeper.trial = true) (good : (flashFails s).1 = false) :
    confirmBank s = fwEnd 0 (postOwn 0x0903 0 (fwVersion (confirmedState s))
      (modKeeper (fun k => { k with trial := false }) (confirmedState s))) :=
  (if_neg (by rw [trial]; decide)).trans (if_neg (by rw [good]; decide))

section
variable {index data : Nat} {s : State}

theorem flash_fwEnd_postOwn : (fwEnd 0 (postOwn 0x0903 index data s)).flash = s.flash := by
  obtain ⟨regs, evq, posted⟩ := postEvent_frame 0x0903 (ownId s) 0xFF index data s
  rw [postOwn, posted]
  rfl

theorem keeper_fwEnd_postOwn : (fwEnd 0 (postOwn 0x0903 index data s)).keeper = s.keeper :=
  postEvent_keeper _ _ _ _ _ _

theorem fuses_fwEnd_postOwn : (fwEnd 0 (postOwn 0x0903 index data s)).fuses = s.fuses :=
  postEvent_fuses _ _ _ _ _ _

end

/-- CONFIRM of a trial bank (R399, R402). -/
theorem bankConfirmed (s : State) (trial : s.keeper.trial = true) (good : (flashFails s).1 = false) :
    (bankOf (confirmBank s) s.keeper.bankB).confirmed = markCONFIRMED ∧ (confirmBank s).keeper.trial = false ∧
    rollback (confirmBank s) ≥ min 64 (Config.manifestSvn (runBank s).manifest) ∧
    ∀ i, s.fuses.arb.testBit i = true → (confirmBank s).fuses.arb.testBit i = true := by
  rw [confirmBank_done trial good]
  refine ⟨?_, ?_, ?_, fun i set => ?_⟩
  · rw [bankOf, flash_fwEnd_postOwn]
    have kept : (modKeeper (fun k => { k with trial := false }) (confirmedState s)).flash =
        (setBank s.keeper.bankB { runBank s with confirmed := markCONFIRMED } (flashFails s).2).flash :=
      raiseRollback_flash _ _
    rw [kept]
    exact congrArg Bank.confirmed (bankOf_setBank_same _ _ _)
  · rw [keeper_fwEnd_postOwn]
    rfl
  · rw [rollback, fuses_fwEnd_postOwn]
    exact rollback_raiseRollback _ _
  · rw [fuses_fwEnd_postOwn]
    exact testBit_raiseRollback set

theorem bankCommands (s : State) (up : coreUp s = true) (ready : fwReady s = true) (free : fwBusy s = false) :
    let t := spareBank s
    let b := bankOf s t
    let r := flashFails s
    (s.keeper.trial = false → b.seqOk = true → b.verified = markVERIFIED → b.retired ≠ markRETIRED →
      b.active ≠ markACTIVE → exec .activate s =
        .next (if r.1 = true then fwEnd 4 r.2
          else restartKeeper 3 (fwEnd 0 (setBank t { b with active := markACTIVE } r.2)))) ∧
    (s.keeper.trial = false → b.verified ≠ markVERIFIED → exec .activate s = .next (fwEnd 7 s)) ∧
    (s.keeper.trial = false → exec .confirm s = .next (fwEnd 7 s) ∧ exec .revert s = .next (fwEnd 7 s)) ∧
    (s.keeper.trial = true → ∃ u, exec .confirm s = .next u ∧ (r.1 = true → u = fwEnd 4 r.2) ∧
      (r.1 = false → (bankOf u s.keeper.bankB).confirmed = markCONFIRMED ∧ u.keeper.trial = false ∧
        rollback u ≥ min 64 (Config.manifestSvn (runBank s).manifest) ∧
        ∀ i, s.fuses.arb.testBit i = true → u.fuses.arb.testBit i = true)) ∧
    (s.keeper.trial = true → exec .revert s =
      .next (if r.1 = true then fwEnd 4 r.2 else revertBank (fwEnd 0 r.2))) := by
  intro t b r
  rw [exec_activate up ready free, exec_confirm up ready free, exec_revert up ready free]
  refine ⟨fun stable seq verified live inactive => ?_, fun stable unverified => ?_, fun stable => ⟨?_, ?_⟩,
    fun trial => ⟨_, rfl, fun fails => ?_, bankConfirmed s trial⟩, fun trial => congrArg _ (if_pos trial)⟩
  · have fit : (b.seqOk && b.verified == markVERIFIED && b.retired != markRETIRED && b.active != markACTIVE) =
        true := by
      rw [seq, verified, bne_iff_ne.mpr live, bne_iff_ne.mpr inactive]; rfl
    exact congrArg _ ((if_neg (by rw [stable]; decide)).trans
      (if_neg (by rw [Bool.not_eq_true', Bool.not_eq_false]; exact fit)))
  · have unfit : (b.seqOk && b.verified == markVERIFIED && b.retired != markRETIRED && b.active != markACTIVE) =
        false := by rw [beq_eq_false_iff_ne.mpr unverified, Bool.and_false]; rfl
    exact congrArg _ ((if_neg (by rw [stable]; decide)).trans (if_pos (by rw [Bool.not_eq_true']; exact unfit)))
  · exact congrArg _ (if_pos (by rw [stable]; rfl))
  · exact congrArg _ (if_neg (by rw [stable]; decide))
  · exact (if_neg (by rw [trial]; decide)).trans (if_pos fails)

theorem confirmLate (s : State) (up : coreUp s = true) (down : fwReady s = false)
    (reverted : s.keeper.reverted = true) :
    exec .confirm s = .next { s with keeper := { s.keeper with lateConf := true } } :=
  congrArg Host.Outcome.next (if_pos (by rw [up, reverting, reverted, down]; rfl))

/-! #### Calibration commands (R405, R406) -/

theorem importRead_bad {data : List PByte} {s : State} (bad : data.any (·.p) = true) :
    importRead data s = calEnd 4 s := if_pos bad

theorem importRead_refused {data : List PByte} {s : State} (whole : data.any (·.p) = false)
    (refused : calBodyOk s (data.map (·.b)) = false) : importRead data s = calEnd 2 s :=
  (if_neg (by rw [whole]; decide)).trans (if_pos (by rw [refused]; rfl))

theorem importRead_taken {data : List PByte} {s : State} (whole : data.any (·.p) = false)
    (good : calBodyOk s (data.map (·.b)) = true) : importRead data s = startStore (data.map (·.b)) true s :=
  (if_neg (by rw [whole]; decide)).trans (if_neg (by rw [good]; decide))

theorem calibrationCommands (s : State) (ready : calReady s = true) :
    (gapForbids s = true ∨ storing s = true → exec .capture s = .next (calEnd 1 s)) ∧
    (gapForbids s = false → storing s = false → exec .capture s = .next (startStore (captureImage s) true s)) ∧
    (masterEn s = false → exec .calExport s = .next (calEnd 4 s)) ∧
    (∀ data : List PByte, data.any (·.p) = true → readDone .calImage data s = calEnd 4 s) ∧
    (∀ data : List PByte, data.any (·.p) = false → calBodyOk s (data.map (·.b)) = false →
      readDone .calImage data s = calEnd 2 s) ∧
    (∀ data : List PByte, data.any (·.p) = false → calBodyOk s (data.map (·.b)) = true →
      readDone .calImage data s = startStore (data.map (·.b)) true s) ∧
    (masterEn s = true → presentedCal s = none → exec .calExport s = .next (calEnd 2 s)) ∧
    (∀ x, masterEn s = true → presentedCal s = some x → exec .calExport s = .next (issueAll (writeMem .calExport
      [⟨fld s Reg.MGT_CAL_BASE 6 42 * 64, 0, allBytes (clean (fit 4744 x))⟩] false none s))) := by
  have exports : exec .calExport s = .next (exportCmd s) := next_onlyIf ready
  rw [exports]
  refine ⟨fun busy => (next_onlyIf ready).trans (congrArg _ (if_pos ?_)),
    fun gap free => (next_onlyIf ready).trans (congrArg _ (if_neg ?_)), fun off => congrArg _ (if_pos ?_),
    fun data => importRead_bad, fun data => importRead_refused, fun data => importRead_taken,
    fun on blank => congrArg _ ?_, fun x on kept => congrArg _ ?_⟩
  · rwa [storeForbidden, Bool.or_eq_true]
  · rw [storeForbidden, gap, free]; decide
  · rw [off]; rfl
  · refine (if_neg (by rw [on]; decide)).trans ?_
    rw [blank]
  · refine (if_neg (by rw [on]; decide)).trans ?_
    rw [kept]

theorem importStarts (s : State) (base : BitVec 64) (up : coreUp s = true) :
    let u := storeReg Reg.MGT_CAL_BASE base.toNat s
    calReady u = true →
    (masterEn u = false → exec (.calImport base) s = .next (calEnd 4 u)) ∧
    (masterEn u = true → gapForbids u = true ∨ storing u = true → exec (.calImport base) s = .next (calEnd 1 u)) ∧
    (masterEn u = true → gapForbids u = false → storing u = false →
      exec (.calImport base) s = .next (issueAll (readMem .calImage
      [⟨fld u Reg.MGT_CAL_BASE 6 42 * 64, 4736, 0⟩] false none u))) := by
  intro u ready
  have aimed : exec (.calImport base) s = .next (importCmd u) := (next_onlyIf up).trans (next_onlyIf ready)
  rw [aimed]
  refine ⟨fun off => congrArg _ (if_pos (by rw [off]; rfl)),
    fun on busy => congrArg _ ((if_neg (by rw [on]; decide)).trans (if_pos ?_)),
    fun on gap free => congrArg _ ((if_neg (by rw [on]; decide)).trans (if_neg ?_))⟩
  · rwa [storeForbidden, Bool.or_eq_true]
  · rw [storeForbidden, gap, free]; decide

theorem storeEnds (s : State) (c : CalStore) (runs : keeperRuns s = true) (stored : s.keeper.store = some c) :
    let r := flashFails s
    let u := modKeeper (fun k => { k with store := none }) r.2
    let t := if r.1 = true then u else postOwn 0x0904 (if c.slotB = true then 1 else 0) 0 (modKeeper (fun k => { k with
      presented := some c.slotB, lastStore := some s.now }) (setCal c.slotB c.image u))
    exec .calStoreDone s =
      .next (if c.byCmd = true then calEnd (if r.1 = true then 3 else 0) t else t) := by
  have done : exec .calStoreDone s = .next (onlyIf (keeperRuns s) (endStore c) s) := by
    change execCalStoreDone s = _
    rw [execCalStoreDone, stored]
  exact done.trans (next_onlyIf runs)

/-- Settles O60. -/
theorem firmwareAndCalibration : Obligations.FirmwareAndCalibration :=
  ⟨keeperBoots, fun _ up ready busy => firmwareBusy up ready busy,
    fun _ up ready free trial => activateOnTrial up ready free trial, stageStarts, imageStaged, bankCommands,
    confirmLate,
    fun _ runs trial => next_onlyIf (by rw [runs, trial]; rfl), calibrationCommands, importStarts, storeEnds⟩

end Sys2Proof.Proofs

/-! ### The configuration port -/

namespace Sys2Proof.Proofs

open Sys2Proof Sys2Proof.Machine Sys2Proof.Laws

/-! #### One write request (R442, R7) -/

section
variable {addr a : Nat} {d : RegDesc}

/-- The lowest word of a register stands at its base address. -/
theorem findReg_first (found : findReg addr = some (d, a, 0)) : a = addr := by
  obtain ⟨d', -, place⟩ := List.exists_of_findSome?_eq_some found
  obtain ⟨⟨i, j, w⟩, -, rest⟩ := Option.map_eq_some_iff.mp place
  obtain ⟨-, rfl, rfl⟩ : d' = d ∧ addr - 4 * w = a ∧ w = 0 := by simpa using rest
  rfl

variable {v u : Word} {s : State} (answers : portAnswers s a = true)

theorem configWrite_none (unknown : findReg addr = none) : configWrite addr v s = s := by
  unfold configWrite
  rw [unknown]

section
include answers

theorem configWrite_word (found : findReg addr = some (d, a, 0)) (words : d.words = 1) :
    configWrite addr v s = portWrite a v.toNat s := by
  unfold configWrite
  rw [found]
  exact (if_neg (by rw [answers]; decide)).trans (if_neg (by rw [words]; decide))

theorem configWrite_lower (found : findReg addr = some (d, a, 0)) (words : d.words = 2) :
    configWrite addr v s = portWrite a (wholeValue s a v) { s with staged := s.staged.erase a } := by
  unfold configWrite
  rw [found]
  exact (if_neg (by rw [answers]; decide)).trans ((if_pos words).trans (if_neg (by decide)))

theorem configWrite_upper (found : findReg addr = some (d, a, 1)) (words : d.words = 2) :
    configWrite addr v s = stageUpper a v s := by
  unfold configWrite
  rw [found]
  exact (if_neg (by rw [answers]; decide)).trans ((if_pos words).trans (if_pos rfl))

theorem reg64UpperWrite_upper {addr : BitVec 20} (found : findReg addr.toNat = some (d, a, 1))
    (words : d.words = 2) : exec (.reg64UpperWrite addr v) s = .next (stageUpper a v s) := by
  change execReg64UpperWrite addr v s = _
  rw [execReg64UpperWrite, found]
  exact congrArg Host.Outcome.next (if_pos (by rw [words, answers]; rfl))

end

theorem wholeValue_staged (staged : s.staged.find a = some u) : wholeValue s a v = v.toNat + 2 ^ 32 * u.toNat := by
  rw [wholeValue, staged]

theorem wholeValue_eq : wholeValue s a v =
    v.toNat + 2 ^ 32 * ((s.staged.find a).map (·.toNat)).getD ((reg s a).toNat / 2 ^ 32) := by
  rw [wholeValue]
  cases s.staged.find a <;> rfl

end

/-! #### Upper words (R357, R442) -/

section
variable {a k : Nat} {v : Word} {s : State}

/-- A register of a link tile is one of the core island. -/
theorem registerTile_core (tile : registerTile a = some k) : ¬ (0x1000 ≤ a ∧ a < 0x2000) := by
  rintro ⟨-, high⟩
  rw [registerTile, if_pos (by omega)] at tile
  cases tile

theorem portAnswers_core (core : ¬ (0x1000 ≤ a ∧ a < 0x2000)) : portAnswers s a = coreUp s :=
  if_neg (by simpa using core)

theorem stageUpper_taken (answers : portAnswers s a = true)
    (tiles : ∀ k, registerTile a = some k → tileUp s k = true) :
    stageUpper a v s = { s with staged := s.staged.set a v } := by
  unfold stageUpper
  cases tile : registerTile a with
  | none => rfl
  | some k =>
    have up : coreUp s = true := (portAnswers_core (registerTile_core tile)).symm.trans answers
    exact (if_neg (by rw [up]; decide)).trans (if_pos (tiles k tile))

theorem stageUpper_reset (tile : registerTile a = some k) (up : coreUp s = true) (reset : tileUp s k = false) :
    stageUpper a v s = raise Reg.RST_STATUS 2 s := by
  unfold stageUpper
  rw [tile]
  exact (if_neg (by rw [up]; decide)).trans (if_neg (by rw [reset]; decide))

end

/-! #### Reads (R5, R7, R442) -/

section
variable {addr : BitVec 20} {a : Nat} {d : RegDesc} {s : State}

theorem exec_read {w : Nat} (found : findReg addr.toNat = some (d, a, w)) :
    exec (.reg64LowerRead addr) s = .next (configRead addr.toNat s) :=
  congrArg Host.Outcome.next (if_pos (by rw [found]; rfl))

variable (answers : portAnswers s a = true)
include answers

theorem configRead_lower (found : findReg addr.toNat = some (d, a, 0)) (words : d.words = 2) :
    configRead addr.toNat s = { s with
      rdata := BitVec.ofNat 32 (shown s a).toNat
      captured := s.captured.set a (BitVec.ofNat 32 ((shown s a).toNat / 2 ^ 32)) } := by
  unfold configRead
  rw [found]
  exact (if_neg (by rw [answers]; simp)).trans ((if_neg (by simp)).trans (if_pos words))

theorem configRead_word (found : findReg addr.toNat = some (d, a, 0)) (words : d.words = 1) :
    configRead addr.toNat s = { s with rdata := BitVec.ofNat 32 (shown s a).toNat } := by
  unfold configRead
  rw [found]
  exact (if_neg (by rw [answers]; simp)).trans ((if_neg (by simp)).trans (if_neg (by rw [words]; decide)))

theorem configRead_upper {u : Word} (found : findReg addr.toNat = some (d, a, 1)) (words : d.words = 2)
    (kept : s.captured.find a = some u) :
    configRead addr.toNat s = { s with rdata := u, captured := s.captured.erase a } := by
  unfold configRead
  rw [found]
  refine (if_neg (by rw [answers]; simp)).trans ((if_pos (by rw [words]; rfl)).trans ?_)
  rw [Tbl.get, kept]
  rfl

end

theorem unimplementedRead (s : State) (addr : BitVec 20) (unknown : findReg addr.toNat = none)
    (up : coreUp s = true) :
    exec (.unimplementedRead addr) s = .next (raise Reg.GEN_STATUS 1 { s with rdata := 0 }) := by
  refine congrArg Host.Outcome.next ((if_pos (by rw [unknown]; rfl)).trans ?_)
  unfold configRead
  rw [unknown]
  exact if_pos up

/-! #### Writes by family (R442, R445, R450, R452) -/

section
variable {a v : Nat} {s : State} (up : coreUp s = true)
include up

theorem portWrite_fab (least : 0x2000 ≤ a) (most : a < 0x3000) : portWrite a v s = writeFab a v s :=
  (if_neg (by simp; omega)).trans ((if_neg (by rw [up]; decide)).trans ((if_neg (by omega)).trans (if_pos most)))

theorem portWrite_xlt (least : 0x3000 ≤ a) (most : a < 0x4000) : portWrite a v s = writeXlt a v s :=
  (if_neg (by simp; omega)).trans ((if_neg (by rw [up]; decide)).trans ((if_neg (by omega)).trans
    ((if_neg (by omega)).trans (if_pos most))))

theorem portWrite_mgt (least : 0x6000 ≤ a) (most : a < 0x7000) : portWrite a v s = writeMgt a v s :=
  (if_neg (by simp; omega)).trans ((if_neg (by rw [up]; decide)).trans ((if_neg (by omega)).trans
    ((if_neg (by omega)).trans ((if_neg (by omega)).trans ((if_neg (by omega)).trans ((if_neg (by omega)).trans
      (if_pos most)))))))

theorem portWrite_queue (least : 0x8000 ≤ a) (most : a < 0x28000) :
    portWrite a v s = writeQueue ((a - 0x8000) / 0x200) a v s :=
  (if_neg (by simp; omega)).trans ((if_neg (by rw [up]; decide)).trans ((if_neg (by omega)).trans
    ((if_neg (by omega)).trans ((if_neg (by omega)).trans ((if_neg (by omega)).trans ((if_neg (by omega)).trans
      ((if_neg (by omega)).trans (if_pos most))))))))

end

/-- What an address of an array of registers names: how many words its register has, its base address, its word. -/
def placeOf (addr : Nat) : Option (Nat × Nat × Nat) := (findReg addr).map fun x => (x.1.words, x.2)

theorem findReg_of_placeOf {addr words a w : Nat} (place : placeOf addr = some (words, a, w)) :
    ∃ d, findReg addr = some (d, a, w) ∧ d.words = words := by
  obtain ⟨⟨d, a', w'⟩, found, same⟩ := Option.map_eq_some_iff.mp place
  obtain ⟨rfl, rfl, rfl⟩ : d.words = words ∧ a' = a ∧ w' = w := by simpa using same
  exact ⟨d, found, rfl⟩

theorem placeOf_dirBase : ∀ p < 64, placeOf (Reg.XLT_DIR_BASE p) = some (2, Reg.XLT_DIR_BASE p, 0) := by
  decide +kernel

theorem placeOf_lportCtl : ∀ p < 16, placeOf (Reg.FAB_LPORT_CTL p) = some (1, Reg.FAB_LPORT_CTL p, 0) := by
  decide +kernel

theorem placeOf_lportLinks : ∀ p < 16, placeOf (Reg.FAB_LPORT_LINKS p) = some (2, Reg.FAB_LPORT_LINKS p, 0) := by
  decide +kernel

theorem queueSetup (s : State) (q : Byte) (off : BitVec 9) (v : Word) (d : RegDesc) (a : Nat)
    (found : findReg (0x8000 + 0x200 * q.toNat + off.toNat) = some (d, a, 0)) (words : d.words = 1)
    (answers : portAnswers s a = true) :
    exec (.qSetupWrite q off v) s = .next (writeQueue ((a - 0x8000) / 0x200) a v.toNat s) := by
  have base := findReg_first found
  have low := q.isLt
  have small := off.isLt
  have up : coreUp s = true := (portAnswers_core (by omega)).symm.trans answers
  have queue : portWrite a v.toNat s = writeQueue ((a - 0x8000) / 0x200) a v.toNat s :=
    portWrite_queue up (by omega) (by omega)
  exact congrArg Host.Outcome.next ((configWrite_word answers found words).trans queue)

theorem policyWrite (s : State) (off : BitVec 12) (v : Word) (d : RegDesc) (a : Nat)
    (found : findReg (0x6000 + off.toNat) = some (d, a, 0)) (words : d.words = 1) (up : coreUp s = true) :
    exec (.mgtPolicyWrite off v) s = .next (writeMgt a v.toNat s) := by
  have base := findReg_first found
  have small := off.isLt
  have answers : portAnswers s a = true := (portAnswers_core (by omega)).trans up
  have policy : portWrite a v.toNat s = writeMgt a v.toNat s := portWrite_mgt up (by omega) (by omega)
  exact congrArg Host.Outcome.next ((configWrite_word answers found words).trans policy)

theorem directoryWrite (s : State) (part : BitVec 6) (v u : Word) (up : coreUp s = true)
    (staged : s.staged.find (Reg.XLT_DIR_BASE part.toNat) = some u) :
    exec (.xltDirBaseWrite part v) s = .next (writeXlt (Reg.XLT_DIR_BASE part.toNat) (v.toNat + 2 ^ 32 * u.toNat)
      { s with staged := s.staged.erase (Reg.XLT_DIR_BASE part.toNat) }) := by
  have small := part.isLt
  obtain ⟨d, found, words⟩ := findReg_of_placeOf (placeOf_dirBase _ small)
  have least : 0x3000 ≤ Reg.XLT_DIR_BASE part.toNat := by rw [Reg.XLT_DIR_BASE]; omega
  have most : Reg.XLT_DIR_BASE part.toNat < 0x4000 := by rw [Reg.XLT_DIR_BASE]; omega
  have answers : portAnswers s (Reg.XLT_DIR_BASE part.toNat) = true := (portAnswers_core (by omega)).trans up
  refine congrArg _ ((configWrite_lower answers found words).trans ?_)
  rw [wholeValue_staged staged]
  exact portWrite_xlt up least most

theorem portControlWrite (s : State) (p : Fin 16) (v : Word) (up : coreUp s = true) :
    exec (.lportWrite false p v) s = .next (writeFab (Reg.FAB_LPORT_CTL p.val) v.toNat s) := by
  have small := p.isLt
  obtain ⟨d, found, words⟩ := findReg_of_placeOf (placeOf_lportCtl _ small)
  have least : 0x2000 ≤ Reg.FAB_LPORT_CTL p.val := by rw [Reg.FAB_LPORT_CTL]; omega
  have most : Reg.FAB_LPORT_CTL p.val < 0x3000 := by rw [Reg.FAB_LPORT_CTL]; omega
  have answers : portAnswers s (Reg.FAB_LPORT_CTL p.val) = true := (portAnswers_core (by omega)).trans up
  exact congrArg _ ((configWrite_word answers found words).trans (portWrite_fab up least most))

theorem portLinksWrite (s : State) (p : Fin 16) (v : Word) (up : coreUp s = true) :
    let a := Reg.FAB_LPORT_LINKS p.val
    let hi := ((s.staged.find a).map (·.toNat)).getD ((reg s a).toNat / 2 ^ 32)
    exec (.lportWrite true p v) s = .next (writeFab a (v.toNat + 2 ^ 32 * hi)
      { s with staged := s.staged.erase a }) := by
  have small := p.isLt
  obtain ⟨d, found, words⟩ := findReg_of_placeOf (placeOf_lportLinks _ small)
  have least : 0x2000 ≤ Reg.FAB_LPORT_LINKS p.val := by rw [Reg.FAB_LPORT_LINKS]; omega
  have most : Reg.FAB_LPORT_LINKS p.val < 0x3000 := by rw [Reg.FAB_LPORT_LINKS]; omega
  have answers : portAnswers s (Reg.FAB_LPORT_LINKS p.val) = true := (portAnswers_core (by omega)).trans up
  refine congrArg _ ((configWrite_lower answers found words).trans ?_)
  rw [wholeValue_eq]
  exact portWrite_fab up least most

/-- Settles O35. -/
theorem configurationPort : Obligations.ConfigurationPort := by
  refine ⟨fun s addr v d a found words answers => congrArg _ (configWrite_word answers found words),
    fun s addr v u d a found words answers staged => ?_, fun s addr v d a found words answers => ⟨fun tiles => ?_,
      fun k tile up reset => ?_⟩,
    fun s addr d a found words answers => (exec_read found).trans (congrArg _ (configRead_lower answers found words)),
    fun s addr d a found words answers => (exec_read found).trans (congrArg _ (configRead_word answers found words)),
    fun s addr d a u found words answers kept =>
      (exec_read found).trans (congrArg _ (configRead_upper answers found words kept)),
    unimplementedRead, fun s addr v unknown => congrArg Host.Outcome.next (configWrite_none unknown), queueSetup,
    policyWrite, directoryWrite, portControlWrite, portLinksWrite⟩
  · rw [← wholeValue_staged staged]
    exact congrArg _ (configWrite_lower answers found words)
  · have staged := stageUpper_taken (v := v) answers tiles
    exact ⟨(reg64UpperWrite_upper answers found words).trans (congrArg _ staged),
      congrArg Host.Outcome.next ((configWrite_upper answers found words).trans staged)⟩
  · have refused := stageUpper_reset (v := v) tile up reset
    exact ⟨(reg64UpperWrite_upper answers found words).trans (congrArg _ refused),
      congrArg Host.Outcome.next ((configWrite_upper answers found words).trans refused)⟩

end Sys2Proof.Proofs

/-! ### Master enable, the configuration image and window resets -/

namespace Sys2Proof.Proofs

open Sys2Proof Sys2Proof.Machine Sys2Proof.Laws

/-! #### What the parts of a clear leave alone (R119)

A clear works on the descriptors, the memory ports and, through the events it may post, on registers other than
`GEN_CTL`. -/

/-- `GEN_CTL` and the memory ports are as they were. -/
def KeepsPorts (s t : State) : Prop := reg t Reg.GEN_CTL = reg s Reg.GEN_CTL ∧ t.mem = s.mem

theorem KeepsPorts.refl (s : State) : KeepsPorts s s := ⟨rfl, rfl⟩

theorem KeepsPorts.trans {s t u : State} (h : KeepsPorts s t) (h' : KeepsPorts t u) : KeepsPorts s u :=
  ⟨h'.1.trans h.1, h'.2.trans h.2⟩

theorem keepsPorts_of {s t : State} (regs : t.regs = s.regs) (mem : t.mem = s.mem) : KeepsPorts s t :=
  ⟨by rw [reg, regs, reg], mem⟩

theorem keepsPorts_each {α : Type} {f : α → State → State} (h : ∀ a s, KeepsPorts s (f a s)) (l : List α)
    (s : State) : KeepsPorts s (each l f s) := by
  induction l generalizing s with
  | nil => exact .refl s
  | cons a l ih => exact (h a s).trans (ih _)

theorem keepsPorts_modDesc (d : Nat) (f : Desc → Desc) (s : State) : KeepsPorts s (modDesc d f s) := by
  unfold modDesc
  split
  · exact .refl s
  · exact .refl s

theorem keepsPorts_flagEvent (v : Desc) (p : Nat) (s : State) : KeepsPorts s (flagEvent v p s) := by
  unfold flagEvent
  split_ifs
  · exact ⟨reg_postEvent _ _ _ _ _ _ ⟨by decide, .inl (by decide)⟩, postEvent_mem _ _ _ _ _ _⟩
  · exact .refl s

theorem keepsPorts_releasePipe (d : Nat) (s : State) : KeepsPorts s (releasePipe d s) := by
  unfold releasePipe
  split
  next => exact .refl s
  next v _ =>
    split
    next => exact .refl s
    next p _ => exact (keepsPorts_flagEvent v p s).trans (keepsPorts_of rfl rfl)

theorem keepsPorts_disableDesc (d : Nat) (s : State) : KeepsPorts s (disableDesc d s) := by
  unfold disableDesc
  split
  next => exact .refl s
  next => exact (keepsPorts_releasePipe d s).trans (keepsPorts_modDesc d _ _)

theorem keepsPorts_forgetWrite (j : WrJob) (s : State) : KeepsPorts s (forgetWrite j s) := by
  unfold forgetWrite
  split
  · exact keepsPorts_modDesc _ _ _
  · split
    · exact .refl s
    · exact .refl s
  · exact .refl s

theorem failLoad_frame (p : Packet) (st : Byte) (s : State) :
    ∃ router, failLoad p st s = { s with router := router } := by
  unfold failLoad
  split
  · exact ⟨_, rfl⟩
  · exact ⟨_, rfl⟩

/-- The answers of loads that can no longer be served go to the router. -/
theorem dropTargets_frame (s : State) : ∃ router, dropTargets s = { s with router := router } := by
  unfold dropTargets
  generalize s.mem.rjobs.values = jobs
  induction jobs generalizing s with
  | nil => exact ⟨s.router, rfl⟩
  | cons j jobs ih =>
    rw [List.foldl_cons]
    split
    next p _ =>
      obtain ⟨router, failed⟩ := failLoad_frame p stDISABLED s
      rw [failed]
      exact ih { s with router := router }
    next => exact ih s

theorem keepsPorts_dropTargets (s : State) : KeepsPorts s (dropTargets s) := by
  obtain ⟨router, answered⟩ := dropTargets_frame s
  rw [answered]
  exact keepsPorts_of rfl rfl

theorem qe_dropTargets (s : State) : (dropTargets s).qe = s.qe := by
  obtain ⟨router, answered⟩ := dropTargets_frame s
  rw [answered]

/-- A command whose image is lost shows its cause. -/
theorem imageLost_frame (s : State) : ∃ regs, imageLost s = { s with regs := regs } ∧
    reg (imageLost s) Reg.GEN_CTL = reg s Reg.GEN_CTL := by
  have firmware (s : State) : reg (fwEnd 5 s) Reg.GEN_CTL = reg s Reg.GEN_CTL :=
    (reg_raise_ne _ _ (by decide)).trans (reg_setFld_ne _ _ _ _ (by decide))
  have calibration (s : State) : reg (calEnd 4 s) Reg.GEN_CTL = reg s Reg.GEN_CTL :=
    (reg_raise_ne _ _ (by decide)).trans (reg_setFld_ne _ _ _ _ (by decide))
  unfold imageLost
  cases fwBusy s with
  | false =>
    simp only [Bool.false_eq_true, if_false]
    split
    · exact ⟨_, rfl, calibration s⟩
    · exact ⟨_, rfl, rfl⟩
  | true =>
    simp only [if_true]
    split
    · exact ⟨_, rfl, (calibration _).trans (firmware s)⟩
    · exact ⟨_, rfl, firmware s⟩

/-- What a clear gives up of the local writes: first those that wait for a lookup, then those that wait for a port. -/
theorem dropLocals_eq (s : State) : ∃ u : State, u.regs = s.regs ∧ u.mem = s.mem ∧ u.qe = s.qe ∧
    dropLocals s = each (withdrawWrites WrJob.isLocal u).1 forgetWrite (withdrawWrites WrJob.isLocal u).2 := by
  unfold dropLocals
  dsimp only
  refine ⟨_, ?_, ?_, ?_, rfl⟩
  · refine (each_keeps (g := State.regs) (fun o s => ?_) _ _).trans rfl
    split <;> rfl
  · refine (each_keeps (g := State.mem) (fun o s => ?_) _ _).trans rfl
    split <;> rfl
  · refine (each_keeps (g := State.qe) (fun o s => ?_) _ _).trans rfl
    split <;> rfl

/-! #### Reads that are out are dropped, the rest taken back (R119) -/

/-- Every read that is out is dropped on its return, and none waits but for walks and for what one command brings
whole. -/
def ReadsDropped (m : MemPorts) : Prop :=
  (∀ r ∈ m.out, r.write = true ∨ r.drop = true) ∧
  (∀ r ∈ m.queue, ∀ j, r.write = false → r.walk = false → m.rjobs.find r.job = some j → ∃ w, j.what = .whole w)

theorem whole_of_isWhole {j : RdJob} (whole : j.isWhole = true) : ∃ w, j.what = .whole w := by
  unfold RdJob.isWhole at whole
  split at whole
  next w what => exact ⟨w, what⟩
  next => cases whole

/-- A read that is not given up and still waits is one that its kind keeps. -/
theorem giveUpReads_kept {p : Nat → RdJob → Bool} {user : RdJob → Bool} {s : State} {r : MemReq} {j : RdJob}
    (waits : r ∈ (giveUpReads p user s).mem.queue) (read : r.write = false) (plain : r.walk = false)
    (job : (giveUpReads p user s).mem.rjobs.find r.job = some j) : p r.job j = false := by
  obtain ⟨-, kept⟩ := List.mem_filter.mp waits
  rw [read, plain, Bool.false_or, Bool.false_or, Bool.not_eq_true'] at kept
  obtain ⟨e, held, same⟩ := List.mem_map.mp (mem_of_find job)
  obtain ⟨held, -⟩ := List.mem_filter.mp held
  split at same
  next ended =>
    obtain ⟨own, -⟩ := Prod.mk.inj same
    rw [own, kept] at ended
    cases ended
  next =>
    subst same
    by_contra given
    rw [Bool.not_eq_false] at given
    have gone : (r.job, j) ∈ s.mem.rjobs.entries.filter fun e => p e.1 e.2 := List.mem_filter.mpr ⟨held, given⟩
    exact Bool.false_ne_true (kept.symm.trans (List.contains_iff_mem.mpr (List.mem_map_of_mem gone)))

theorem readsDropped_dropReads (s : State) : ReadsDropped (dropReads s).mem := by
  refine ⟨fun r out => ?_, fun r waits j read plain job => ?_⟩
  · obtain ⟨x, -, rfl⟩ := List.mem_map.mp out
    cases write : x.write with
    | true => exact .inl write
    | false => exact .inr rfl
  · rcases List.mem_append.mp waits with old | walk
    · have kept := giveUpReads_kept old read plain job
      exact whole_of_isWhole (by simpa using kept)
    · obtain ⟨-, kind⟩ := List.mem_filter.mp walk
      rw [plain] at kind
      cases kind

theorem readsDropped_withdrawWrites {s : State} (p : WrJob → Bool) (dropped : ReadsDropped s.mem) :
    ReadsDropped (withdrawWrites p s).2.mem :=
  ⟨dropped.1, fun r waits => dropped.2 r (List.mem_filter.mp waits).1⟩

/-! #### Descriptors in progress are marked (R119) -/

/-- A descriptor marked DISABLED, which holds and awaits no data. -/
def Disabled (w : Desc) : Prop :=
  w.disabled = true ∧ stDISABLED ∈ w.ends ∧ w.buf = none ∧ w.obuf = [] ∧ w.reading = false

theorem desc_of_qe {s t : State} (qe : t.qe = s.qe) (d : Nat) : desc t d = desc s d := by
  rw [desc, qe, desc]

theorem desc_releasePipe_ne {d e : Nat} (s : State) (other : e ≠ d) : desc (releasePipe d s) e = desc s e := by
  unfold releasePipe
  split
  next => rfl
  next v _ =>
    split
    next => rfl
    next p _ =>
      exact (desc_setDesc_ne d e (unpiped v) (flagEvent v p s) other).trans (desc_of_qe (qe_flagEvent v p s) e)

theorem desc_modDesc_ne {d e : Nat} (f : Desc → Desc) (s : State) (other : e ≠ d) :
    desc (modDesc d f s) e = desc s e := by
  cases held : desc s d with
  | none => rw [modDesc, held]
  | some v => rw [modDesc_of_desc f held, desc_setDesc_ne _ _ _ _ other]

theorem desc_disableDesc_ne {d e : Nat} (s : State) (other : e ≠ d) : desc (disableDesc d s) e = desc s e := by
  unfold disableDesc
  split
  next => rfl
  next => exact (desc_modDesc_ne _ _ other).trans (desc_releasePipe_ne s other)

theorem desc_disableDesc_same {d : Nat} {v : Desc} {s : State} (held : desc s d = some v) :
    ∃ w, desc (disableDesc d s) d = some w ∧ Disabled w ∧ w.bits = v.bits := by
  obtain ⟨x, released, -, -, -, bits⟩ := (keepsMarks_releasePipe d s).2 d v held
  unfold disableDesc
  rw [held]
  dsimp only
  rw [modDesc_of_desc _ released, desc_setDesc_same]
  exact ⟨_, rfl, ⟨rfl, List.mem_append_right _ (List.mem_singleton_self _), rfl, rfl, rfl⟩, bits⟩

theorem desc_each_disableDesc_ne {d : Nat} {l : List Nat} (s : State) (other : d ∉ l) :
    desc (each l disableDesc s) d = desc s d := by
  induction l generalizing s with
  | nil => rfl
  | cons a l ih =>
    rw [List.mem_cons, not_or] at other
    obtain ⟨ne, rest⟩ := other
    exact (ih _ rest).trans (desc_disableDesc_ne s ne)

theorem desc_each_disableDesc {d : Nat} {l : List Nat} {v : Desc} {s : State} (member : d ∈ l)
    (held : desc s d = some v) : ∃ w, desc (each l disableDesc s) d = some w ∧ Disabled w ∧ w.bits = v.bits := by
  induction l generalizing s v with
  | nil => cases member
  | cons a l ih =>
    rw [each_cons]
    by_cases later : d ∈ l
    · obtain ⟨x, next, bits⟩ : ∃ x, desc (disableDesc a s) d = some x ∧ x.bits = v.bits := by
        by_cases same : d = a
        · subst same
          obtain ⟨x, next, -, bits⟩ := desc_disableDesc_same held
          exact ⟨x, next, bits⟩
        · exact ⟨v, (desc_disableDesc_ne s same).trans held, rfl⟩
      obtain ⟨w, marked, disabled, bits'⟩ := ih later next
      exact ⟨w, marked, disabled, bits'.trans bits⟩
    · obtain rfl := (List.mem_cons.mp member).resolve_right later
      rw [desc_each_disableDesc_ne _ later]
      exact desc_disableDesc_same held

/-- Descriptor `d` is marked DISABLED and carries `bits`. -/
def MarkedWith (d : Nat) (bits : BitVec 512) (s : State) : Prop :=
  ∃ w, desc s d = some w ∧ Disabled w ∧ w.bits = bits

theorem markedWith_of_qe {s t : State} {d : Nat} {bits : BitVec 512} (qe : t.qe = s.qe) (marked : MarkedWith d bits s) :
    MarkedWith d bits t := by
  obtain ⟨w, held, disabled⟩ := marked
  exact ⟨w, (desc_of_qe qe d).trans held, disabled⟩

/-- Forgetting a write leaves the marks. -/
theorem markedWith_forgetWrite {s : State} {d : Nat} {bits : BitVec 512} (j : WrJob) (marked : MarkedWith d bits s) :
    MarkedWith d bits (forgetWrite j s) := by
  unfold forgetWrite
  split
  next e _ _ _ _ _ =>
    obtain ⟨w, held, disabled, same⟩ := marked
    by_cases own : d = e
    · subst own
      rw [MarkedWith, modDesc_of_desc _ held, desc_setDesc_same]
      exact ⟨_, rfl, disabled, same⟩
    · exact ⟨w, (desc_modDesc_ne _ _ own).trans held, disabled, same⟩
  next =>
    split
    · exact markedWith_of_qe (s := s) rfl marked
    · exact marked
  next => exact marked

theorem markedWith_each {α : Type} {f : α → State → State} {d : Nat} {bits : BitVec 512}
    (kept : ∀ a s, MarkedWith d bits s → MarkedWith d bits (f a s)) (l : List α) {s : State}
    (marked : MarkedWith d bits s) : MarkedWith d bits (each l f s) := by
  induction l generalizing s with
  | nil => exact marked
  | cons a l ih => exact ih (kept a s marked)

theorem markedWith_dropLocals {s : State} {d : Nat} {bits : BitVec 512} (marked : MarkedWith d bits s) :
    MarkedWith d bits (dropLocals s) := by
  obtain ⟨u, -, -, qe, dropped⟩ := dropLocals_eq s
  rw [dropped]
  exact markedWith_each (fun j _ => markedWith_forgetWrite j) _ (markedWith_of_qe (s := s) qe marked)

theorem markedWith_dropFetches {s : State} {d : Nat} {bits : BitVec 512} (q : Nat) (marked : MarkedWith d bits s) :
    MarkedWith d bits (dropFetches q s) := marked

/-! #### A clear of MASTER_EN (R119) -/

/-- The first part of a clear: the bit, the answers of loads, and the marks. -/
def markAll (s : State) : State :=
  each (lower Reg.GEN_CTL 0 s).qe.descs.keys disableDesc (dropTargets (lower Reg.GEN_CTL 0 s))

theorem masterClear_eq {s : State} (on : masterEn s = true) :
    masterClear s = each (markAll s).qe.queues.keys dropFetches (dropLocals (dropReads (imageLost (markAll s)))) :=
  if_pos on

theorem keepsPorts_markAll (s : State) : KeepsPorts (lower Reg.GEN_CTL 0 s) (markAll s) :=
  (keepsPorts_dropTargets _).trans (keepsPorts_each keepsPorts_disableDesc _ _)

theorem keepsPorts_dropFetches (q : Nat) (s : State) : KeepsPorts s (dropFetches q s) := .refl s

theorem reg_dropReads (s : State) (a : Nat) : reg (dropReads s) a = reg s a := reg_eq_of_regs_eq rfl a

theorem reg_dropLocals (s : State) : reg (dropLocals s) Reg.GEN_CTL = reg s Reg.GEN_CTL := by
  obtain ⟨u, regs, -, -, dropped⟩ := dropLocals_eq s
  have withdrawn : reg (withdrawWrites WrJob.isLocal u).2 Reg.GEN_CTL = reg u Reg.GEN_CTL := reg_eq_of_regs_eq rfl _
  rw [dropped, (keepsPorts_each keepsPorts_forgetWrite _ _).1, withdrawn, reg_eq_of_regs_eq regs]

theorem masterEn_masterClear {s : State} (on : masterEn s = true) : masterEn (masterClear s) = false := by
  obtain ⟨regs, -, lost⟩ := imageLost_frame (markAll s)
  have whole : reg (masterClear s) Reg.GEN_CTL = reg (lower Reg.GEN_CTL 0 s) Reg.GEN_CTL := by
    rw [masterClear_eq on, (keepsPorts_each keepsPorts_dropFetches _ _).1, reg_dropLocals, reg_dropReads, lost,
      (keepsPorts_markAll s).1]
  rw [masterEn, bit, whole]
  exact bit_lower_same _ (by decide) s

theorem readsDropped_masterClear {s : State} (on : masterEn s = true) : ReadsDropped (masterClear s).mem := by
  obtain ⟨u, -, mem, -, dropped⟩ := dropLocals_eq (dropReads (imageLost (markAll s)))
  rw [masterClear_eq on, (keepsPorts_each keepsPorts_dropFetches _ _).2, dropped,
    (keepsPorts_each keepsPorts_forgetWrite _ _).2]
  refine readsDropped_withdrawWrites _ ?_
  rw [mem]
  exact readsDropped_dropReads _

theorem markedWith_masterClear {s : State} {d : Nat} {v : Desc} (on : masterEn s = true) (held : desc s d = some v) :
    MarkedWith d v.bits (masterClear s) := by
  obtain ⟨regs, lost, -⟩ := imageLost_frame (markAll s)
  have marked : MarkedWith d v.bits (markAll s) := by
    refine desc_each_disableDesc ?_ ?_
    · exact List.mem_map_of_mem (f := Prod.fst) (mem_of_find held)
    · exact (desc_of_qe (qe_dropTargets _) d).trans held
  rw [masterClear_eq on]
  refine markedWith_each (fun q _ => markedWith_dropFetches q) _ (markedWith_dropLocals ?_)
  exact markedWith_of_qe (s := markAll s) (by rw [lost]; rfl) marked

/-! #### A clear where nothing is in progress -/

theorem imageLost_none {s : State} (idle : s.mem.rjobs = Tbl.empty) : imageLost s = s := by
  have firmware : ¬ fwBusy s = true := by rw [fwBusy, idle]; decide
  have calibration : ¬ calReads s = true := by rw [calReads, idle]; decide
  exact (congrArg (fun u => if calReads u then calEnd 4 u else u) (if_neg firmware)).trans (if_neg calibration)

theorem dropTargets_none {s : State} (idle : s.mem.rjobs = Tbl.empty) : dropTargets s = s := by
  rw [dropTargets, idle]
  rfl

theorem masterClear_idle {s : State} (on : masterEn s = true) (descs : s.qe.descs = Tbl.empty)
    (queues : s.qe.queues = Tbl.empty) (idle : s.mem.rjobs = Tbl.empty) :
    masterClear s = dropLocals (dropReads (lower Reg.GEN_CTL 0 s)) := by
  have marked : markAll s = lower Reg.GEN_CTL 0 s := by
    rw [markAll, dropTargets_none (s := lower Reg.GEN_CTL 0 s) idle,
      show (lower Reg.GEN_CTL 0 s).qe.descs = Tbl.empty from descs]
    rfl
  rw [masterClear_eq on, marked, imageLost_none (s := lower Reg.GEN_CTL 0 s) idle,
    show (lower Reg.GEN_CTL 0 s).qe.queues = Tbl.empty from queues]
  rfl

theorem masterEnableCleared (s : State) (up : coreUp s = true) (on : masterEn s = true) :
    ∃ t, exec .masterEnClear s = .next t ∧ masterEn t = false ∧
    (∀ d v, desc s d = some v → ∃ w, desc t d = some w ∧ w.disabled = true ∧ stDISABLED ∈ w.ends ∧ w.bits = v.bits ∧
      w.buf = none ∧ w.obuf = [] ∧ w.reading = false) ∧
    (∀ r ∈ t.mem.out, r.write = true ∨ r.drop = true) ∧
    (∀ r ∈ t.mem.queue, ∀ j, r.write = false → r.walk = false → t.mem.rjobs.find r.job = some j →
      ∃ w, j.what = .whole w) := by
  obtain ⟨out, queue⟩ := readsDropped_masterClear on
  refine ⟨masterClear s, next_onlyIf up, masterEn_masterClear on, fun d v held => ?_, out, queue⟩
  obtain ⟨w, marked, ⟨disabled, ends, buf, obuf, reading⟩, bits⟩ := markedWith_masterClear on held
  exact ⟨w, marked, disabled, ends, bits, buf, obuf, reading⟩

/-! #### MASTER_EN is set (R121) -/

theorem masterEn_raise (s : State) : masterEn (raise Reg.GEN_CTL 0 s) = true := bit_raise_same _ (by decide) s

theorem masterSet_eq {s : State} (off : masterEn s = false) :
    masterSet s =
      let u := flushBacklog (flushDisabled (raise Reg.GEN_CTL 0 s))
      let u := each (heldWindows u) releaseHeld u
      if keeperRuns u then hostStep u else u :=
  if_neg (by rw [off]; decide)

section
variable {s : State} (on : masterEn s = true)
include on

theorem flushDisabled_none (none : ∀ e ∈ s.qe.descs.entries, e.2.disabled = false) : flushDisabled s = s := by
  have unmarked : marked s = [] := by
    have empty : s.qe.descs.filterV (·.disabled) = [] := List.filter_eq_nil_iff.mpr fun e he =>
      ne_true_of_eq_false (none e he)
    rw [marked, empty]
    rfl
  rw [flushDisabled, if_pos on, unmarked]
  rfl

variable {d : Nat} {v : Desc} (only : marked s = [(d, v)]) (held : desc s d = some v)
include only

omit on in
theorem disabled_of_marked : v.disabled = true := by
  have member : (d, v) ∈ marked s := by rw [only]; exact List.mem_singleton_self _
  have filtered : (d, v) ∈ s.qe.descs.filterV (·.disabled) := (perm_sortBy _ _).mem_iff.mp member
  exact (List.mem_filter.mp filtered).2

include held in
/-- The one marked descriptor, whose local writes have ended, gets its record. -/
theorem flushDisabled_due (writes : v.writes = 0) (coll : collOf s d = none) :
    flushDisabled s = writeRecord d (quarantineTags v.tags s) := by
  have due : disabledDue s d v = true := by
    rw [disabledDue, disabled_of_marked only, writes, coll]
    rfl
  have record : disabledRecord d s = writeRecord d (quarantineTags v.tags s) := by rw [disabledRecord, held]
  rw [flushDisabled, if_pos on, only, List.foldl_cons, List.foldl_nil, if_neg (by rw [due]; simp)]
  exact record

/-- The one marked descriptor, whose local writes go on, is left. -/
theorem flushDisabled_waits (writes : v.writes ≠ 0) : flushDisabled s = s := by
  have early : disabledDue s d v = false := by
    rw [disabledDue, beq_eq_false_iff_ne.mpr writes, Bool.and_false, Bool.false_and]
  rw [flushDisabled, if_pos on, only, List.foldl_cons, List.foldl_nil, if_pos (by rw [early]; rfl)]

omit on in
/-- Arrivals wait while a marked descriptor is left. -/
theorem flushBacklog_waits : flushBacklog s = s := by
  have member : (d, v) ∈ marked s := by rw [only]; exact List.mem_singleton_self _
  have filtered : (d, v) ∈ s.qe.descs.filterV (·.disabled) := (perm_sortBy _ _).mem_iff.mp member
  have left : disabledLeft s = true :=
    List.any_eq_true.mpr ⟨v, List.mem_map_of_mem (f := Prod.snd) (List.mem_filter.mp filtered).1,
    disabled_of_marked only⟩
  exact if_neg (by rw [arrivalsGo, left]; simp)

end

theorem masterEnableSet (s : State) : let on := raise Reg.GEN_CTL 0 s
    let released (u : State) : State := each (heldWindows u) releaseHeld u
    let told (u : State) : State := if keeperRuns u = true then hostStep u else u
    coreUp s = true → masterEn s = false →
    ((∀ e ∈ s.qe.descs.entries, e.2.disabled = false) →
      exec .masterEnSet s = .next (proceedAll (told (released (flushBacklog on))))) ∧
    (∀ d v, marked s = [(d, v)] → desc s d = some v → v.writes = 0 → collOf s d = none → exec .masterEnSet s =
      .next (proceedAll (told (released (flushBacklog (writeRecord d (quarantineTags v.tags on))))))) ∧
    (∀ d v, marked s = [(d, v)] → desc s d = some v → v.writes ≠ 0 →
      exec .masterEnSet s = .next (proceedAll (told (released on)))) := by
  intro on released told up off
  have enabled : masterEn on = true := masterEn_raise s
  have sets : exec .masterEnSet s = .next (proceedAll (told (released (flushBacklog (flushDisabled on))))) :=
    (next_onlyIf up).trans (congrArg (fun u => Host.Outcome.next (proceedAll u)) (masterSet_eq off))
  rw [sets]
  refine ⟨fun none => ?_, fun d v only held writes coll => ?_, fun d v only _ writes => ?_⟩
  · rw [flushDisabled_none enabled none]
  · rw [flushDisabled_due (s := on) enabled only held writes coll]
  · rw [flushDisabled_waits (s := on) enabled only writes, flushBacklog_waits (s := on) only]

/-! #### The configuration image (R122 to R125) -/

section
variable {s : State} (up : coreUp s = true) (unloaded : cfgState s = 0 ∨ cfgState s = 3)
include up unloaded

theorem imageAsked (on : masterEn s = true) :
    exec .cfgLoad s = .next (issueAll (askWhole (.image true) (fld s Reg.GEN_CFG_BASE 6 42 * 64) 64
      (setReg Reg.GEN_CFG_STATUS 1 s))) :=
  (next_onlyIf up).trans (congrArg _ ((if_neg (by omega)).trans ((if_neg (by omega)).trans (if_pos on))))

theorem imageNotAsked (off : masterEn s = false) :
    exec .cfgLoad s = .next (postOwn 0x0103 0 0xB (raise Reg.GEN_STATUS 2 (setReg Reg.GEN_CFG_STATUS 0xB3 s))) :=
  (next_onlyIf up).trans (congrArg _ ((if_neg (by omega)).trans ((if_neg (by omega)).trans
    (if_neg (by rw [off]; decide)))))

theorem configuredDirectly :
    exec .cfgDirect s = .next (each (List.range 36) tryPrime (setReg Reg.GEN_CFG_STATUS 2
      { s with sec := { s.sec with cfgDigest := none, cfgDirect := true } })) :=
  (next_onlyIf up).trans (congrArg _ ((if_neg (by omega)).trans (if_neg (by omega))))

end

theorem takeImage_good {b : Blob} {s : State} (whole : b.bad = false) (good : (imageCause b.data).1 = 0) :
    takeImage b s = applyImage b.data s :=
  (if_neg (by rw [whole]; decide)).trans (if_neg (by rw [good]; decide))

theorem takeImage_refused {b : Blob} {s : State} (whole : b.bad = false) (refused : (imageCause b.data).1 ≠ 0) :
    takeImage b s = refuseImage (imageCause b.data).1 (imageCause b.data).2 s :=
  (if_neg (by rw [whole]; decide)).trans (if_pos (bne_iff_ne.mpr refused))

theorem imageTaken (s u : State) (b : Blob) (up : coreUp s = true) (loading : cfgState s = 1)
    (header : wholeBack (fun w => w == .image true) s = (none, s))
    (back : wholeBack Whole.isImage s = (some (.image false, false), u)) :
    (b.bad = true → exec (.cfgImageReadDone b) s = .next (refuseImage 9 0 u)) ∧
    (b.bad = false → (imageCause b.data).1 = 0 → exec (.cfgImageReadDone b) s = .next (applyImage b.data u)) ∧
    (b.bad = false → (imageCause b.data).1 ≠ 0 →
      exec (.cfgImageReadDone b) s = .next (refuseImage (imageCause b.data).1 (imageCause b.data).2 u)) := by
  have comes : imageBack b s = takeImage b u := by
    unfold imageBack
    dsimp only
    rw [header]
    dsimp only
    rw [back]
    rfl
  have taken : exec (.cfgImageReadDone b) s = .next (takeImage b u) :=
    (next_wholeCommand up).trans ((next_onlyIf (by rw [loading]; rfl)).trans (congrArg _ comes))
  rw [taken]
  exact ⟨fun bad => congrArg _ (if_pos bad), fun whole good => congrArg _ (takeImage_good whole good),
    fun whole refused => congrArg _ (takeImage_refused whole refused)⟩

/-- With no read under way there is none to give up. -/
theorem giveUpReads_none {p : Nat → RdJob → Bool} {user : RdJob → Bool} {s : State} (idle : s.mem.rjobs = Tbl.empty) :
    giveUpReads p user s = s := by
  unfold giveUpReads
  rw [idle]
  simp only [Tbl.empty, List.filter_nil, List.map_nil, List.contains_nil, Bool.not_false, Bool.or_true,
    List.filter_true]
  rw [show (⟨[]⟩ : Tbl RdJob) = s.mem.rjobs from idle.symm]

theorem imageLate (s : State) (up : coreUp s = true) (loading : cfgState s = 1) (idle : s.mem.rjobs = Tbl.empty) :
    exec .cfgImageReadTimeout s =
    .next (postOwn 0x0103 0 0xA (raise Reg.GEN_STATUS 2 (setReg Reg.GEN_CFG_STATUS 0xA3 s))) := by
  refine (next_onlyIf (by rw [up, loading]; rfl)).trans ?_
  rw [giveUpReads_none idle]
  rfl

/-! #### A window reset (R42) -/

theorem windowReset (s : State) (w : BitVec 12) (up : coreUp s = true) (free : ∀ h ∈ s.txn.held, h.packet.win ≠ w) :
    exec (.winReset w) s = .next (setWin w.toNat 0 (setFld Reg.GEN_WIN_CTL 0 12 w.toNat s)) := by
  have none : (s.txn.held.filter fun h => h.packet.win.toNat == w.toNat) = [] :=
    List.filter_eq_nil_iff.mpr fun h hh same => free h hh (BitVec.eq_of_toNat_eq (by simpa using same))
  refine (next_onlyIf up).trans (congrArg _ ?_)
  rw [resetWindow, show (setFld Reg.GEN_WIN_CTL 0 12 w.toNat s).txn.held = s.txn.held from rfl, none]
  rfl

/-- Settles O36: a clear is cut into its parts, each with what it leaves of the descriptors and of the reads. -/
theorem masterEnableAndImage : Obligations.MasterEnableAndImage :=
  ⟨fun _ up on descs queues idle => (next_onlyIf up).trans (congrArg _ (masterClear_idle on descs queues idle)),
    masterEnableCleared, fun _ up off => (next_onlyIf up).trans (congrArg _ (if_neg (by rw [off]; decide))),
    fun _ up on => (next_onlyIf up).trans (congrArg (fun u => Host.Outcome.next (proceedAll u)) (if_pos on)),
    masterEnableSet, fun _ up empty on => imageAsked up empty on, fun _ up empty off => imageNotAsked up empty off,
    fun _ up empty => configuredDirectly up empty, imageTaken, imageLate, windowReset⟩

end Sys2Proof.Proofs
